-- ==== Sys2Proof/Word.lean ====
section
/-! DEFINITION. The word types of the CT-5128 (R6, R8, R137) and their plainest arithmetic. -/

namespace Sys2Proof

/-- One byte. -/
abbrev Byte := BitVec 8

/-- A BAR0 register, an engine register, a word of a record (R6, R134). -/
abbrev Word := BitVec 32

/-- A TB value or a TB stamp, in LSBs of 1.25 ns (R8, R59). -/
abbrev Time := BitVec 64

/-- A microword with its four parity bits (R137). -/
abbrev MicroWord := BitVec 132

/-- The later of two TB values. -/
def Time.later (a b : Time) : Time := if a.toNat < b.toNat then b else a

/-- A Bool as one bit. -/
def bit (b : Bool) : Nat := if b then 1 else 0

end Sys2Proof
end

