-- ==== Sys2Proof/Syntax.lean ====
section
/-! DEFINITION. The commands of the block: one constructor of `Instr` per row of spec/opcode_table.json.
The table gives no operand; each operand below is an input that the row's rule names. -/

namespace Sys2Proof

/-- The ports through which a register access reaches the device (R45, R62, R308, R365). -/
inductive Port where
  | pcie | spi | tap
deriving DecidableEq, Repr

/-- Who issues a command (R41, R365, R371): a write of PAGE_CMD through a port, a command ring entry, or the device itself. -/
inductive Src where
  | port (p : Port)
  | ring
  | device
deriving DecidableEq, Repr

/-- The ARG words 2 to 7 of a command ring entry (R49). -/
structure Args where
  w2 : Word := 0
  w3 : Word := 0
  w4 : Word := 0
  w5 : Word := 0
  w6 : Word := 0
  w7 : Word := 0
deriving DecidableEq, Repr

/-- An issued command: its source, target page, host tag and arguments (R33, R41, R49). -/
structure Req where
  src  : Src
  page : BitVec 12
  tag  : BitVec 16
  args : Args := {}
deriving DecidableEq, Repr

/-- A register write of a host port: BAR0 offset, data and width in bytes (R6, R44). -/
structure HostWrite where
  port : Port
  addr : BitVec 24
  data : Word
  len  : Nat := 4
  /-- hardware acts in the very clock in which the write reaches its page (R10) -/
  meets : Bool := false
deriving DecidableEq, Repr

/-- Where the edge of a secondary wheel input comes from (R85): a TIO pin, or the front end of a WHL pin with the peak amplitude of its
tooth in 10 mV. -/
inductive SecInput where
  | tio (c : Fin 160)
  | whl (p : Fin 8) (amp : BitVec 16)
deriving DecidableEq, Repr

/-- The 32-byte command ring entry that a fetch reads from host memory (R49). -/
structure Entry where
  w0 : Word
  w1 : Word
  args : Args
deriving DecidableEq, Repr

/-- The A-slot fields of a microword (R137). -/
structure AFields where
  ad   : BitVec 4 := 0
  as1  : BitVec 4 := 0
  as2  : BitVec 4 := 0
  ahd  : BitVec 4 := 0
  aimm : Bool := false
  aflg : Bool := false
  imm  : Word := 0
deriving DecidableEq, Repr

/-- The X-slot fields of a microword (R137). -/
structure XFields where
  xd   : BitVec 4 := 0
  xs1  : BitVec 4 := 0
  xs2  : BitVec 4 := 0
  ximm : Bool := false
  xarg : BitVec 13 := 0
  imm  : Word := 0
deriving DecidableEq, Repr

/-- The sequencer fields of a microword other than NXT itself (R137, R140). -/
structure NFields where
  cond   : BitVec 4 := 0
  target : BitVec 12 := 0
  last   : Bool := false
deriving DecidableEq, Repr

/-- The sequencer of the word that holds DONE, YIELD or WAITEV: its NXT code and its other fields (R144). -/
structure CtlNext where
  nxt : BitVec 3 := 0
  n   : NFields := {}
deriving DecidableEq, Repr

/-- What the hardware checkers see of an X operation, or at the end of a word (R163, R179, R180). -/
inductive HwFault where
  | none
  /-- a parity error on the local or shared memory read: MC_MEMPAR; of a local memory, the leader's -/
  | memPar
  /-- a parity error on the trailer's own local memory -/
  | memParTrailer
  /-- the comparator of a checked pair finds a mismatch, and the delay registers pass parity in that cycle: a core fault -/
  | mismatch
  /-- a mismatch in a cycle in which the delay registers fail parity: a checker fault only (R182) -/
  | mismatchParity
deriving DecidableEq, Repr

/-- What a receiving shift unit sees on its line (R160). -/
inductive RxFrame where
  /-- SENT: the intervals from falling edge to falling edge, in TB LSBs -/
  | intervals (is : List Nat)
  /-- PSI5 and NRZ: the levels of the filtered input in order, each with the time for which it holds in TB LSBs -/
  | line (l : List (Bool × Nat))
deriving DecidableEq, Repr

/-- A word that fails parity while a role's state is copied (R374): its memory, and its word address there. -/
inductive CopyFault where
  | loc (e : Fin 8) (w : BitVec 10)
  | shared (w : BitVec 14)
  | task (t : BitVec 8) (w : BitVec 3)
  | event (i : BitVec 8) (w : BitVec 2)
deriving DecidableEq, Repr

/-- How a device read of host memory ends (R303). -/
inductive DmaResult where
  | ok | timeout | refused
deriving DecidableEq, Repr

/-- What LOAD reads from host memory (R184, R357): the bytes of the .vxi file and the microwords its body places. -/
structure Image where
  dma   : DmaResult
  bytes : List Byte
  words : List (BitVec 12 × MicroWord)
deriving DecidableEq, Repr

/-- The factors a calibration measures (R209): offset and gain per range, mismatch per stage. -/
structure CalResult where
  ofs  : List Word
  gain : List Word
  stg  : List Word
  pass : Bool
deriving DecidableEq, Repr

/-- The header fields of an Idxia frame beside TYPE, and its tag (R311). -/
structure FrameHdr where
  src  : BitVec 2
  dst  : BitVec 2
  bcast : Bool := false
  fseq : BitVec 16
  tag  : Word := 0
  /-- of a received frame: the port acknowledges it, and what it owes, at once; else with a later one (R311) -/
  ackNow : Bool := true
  /-- of a received TIME request: the sixteenth of the TB LSB at which its reply leaves at the pins (R316) -/
  frac : BitVec 4 := 0
deriving DecidableEq, Repr

/-- The payload of HELLO (R311). -/
structure HelloF where
  dev  : BitVec 2
  last : BitVec 2
  /-- IDX1 rather than IDX0 -/
  port : Bool
  key  : BitVec 64
  noauth : Bool
deriving DecidableEq, Repr

/-- The payload of TIME: stamps in 1/16 LSB, and what a reply adds (R311, R316). -/
structure TimeF where
  reply : Bool
  t1 : BitVec 64
  t2 : BitVec 64 := 0
  t3 : BitVec 64 := 0
  resid : Int := 0
  aligned : Bool := false
  degraded : Bool := false
deriving DecidableEq, Repr

/-- The payload of MAP (R311, R317): the endpoints as angle positions. -/
structure MapF where
  unit : BitVec 3
  state : BitVec 3
  aligned : Bool
  cyc : BitVec 8
  bstart : Time
  th : List Word
  first : Bool
  jump : Bool
deriving DecidableEq, Repr

/-- The payload of STATE (R311, R317). -/
structure StateF where
  unit : BitVec 3
  new : BitVec 3
  tb : Time
deriving DecidableEq, Repr

/-- The payload of CREDIT (R311). -/
structure CreditF where
  returned : BitVec 5
  ack : BitVec 16
  nak : Bool
deriving DecidableEq, Repr

/-- The payload of a frame, by TYPE (R311). -/
inductive Payload where
  | hello (f : HelloF)
  | auth (v : BitVec 64)
  | time (f : TimeF)
  | map (f : MapF)
  | state (f : StateF)
  /-- address word, sender word, body -/
  | msg (addr sender : Word) (body : List Word)
  /-- words 0 to 3 of a bounce, and the sender role that it goes to -/
  | bounce (ws : List Word) (role : BitVec 4)
  | credit (f : CreditF)
deriving DecidableEq, Repr

/-- What an unmask of MSI-X names: a vector of the table, or the function (R304). -/
inductive MsixTarget where
  | vector (v : Fin 8)
  | function
deriving DecidableEq, Repr

/-- Cells of the boundary register: 160 TIO, 16 TRIP, 8 WHL, 13 host-control and 6 test signals (R386, R387). -/
abbrev scanCells : Nat := 203

/-- A configuration-space write that the PCIe function takes (R299, R303, R304). -/
inductive CfgWrite where
  /-- the Command register: Memory Space Enable and Bus Master Enable -/
  | command (memSpace busMaster : Bool)
  | bar0 (base : Word)
  /-- BAR2 with BAR3 -/
  | bar2 (base : BitVec 64)
  /-- Message Control of MSI-X: MSI-X Enable and Function Mask -/
  | msixControl (enable mask : Bool)
  /-- the power state: D0, or D3hot -/
  | power (d3hot : Bool)
  /-- AER: ones that clear bits of the uncorrectable error status, its mask and its severity -/
  | aerStatus (clear : Word)
  | aerMask (mask : Word)
  | aerSeverity (severity : Word)
deriving DecidableEq, Repr

/-- An IEEE 802.1AS message at a port (R295): received, or its own Pdelay_Req, which it sends as initiator. -/
inductive PtpMsg where
  /-- Sync received at a TB stamp; `interval` is the announced interval in TB LSBs -/
  | sync (rx : Time) (interval : Nat)
  /-- Follow_Up: preciseOriginTimestamp and correctionField, in seconds and nanoseconds -/
  | followUp (sec : BitVec 48) (ns : Word) (corr : Int)
  /-- Pdelay_Req of the peer, received at `rx`; the port's Pdelay_Resp leaves at `tx` -/
  | pdelayReq (seq : BitVec 16) (rx tx : Time)
  /-- the port's own Pdelay_Req leaves at `tx` -/
  | pdelayReqSent (seq : BitVec 16) (tx : Time)
  /-- Pdelay_Resp to the port's own request; received at `rx`, with the peer's requestReceiptTimestamp in ns -/
  | pdelayResp (seq : BitVec 16) (rx : Time) (t2 : Int)
  /-- Pdelay_Resp_Follow_Up: the peer's responseOriginTimestamp in ns -/
  | pdelayRespFollowUp (seq : BitVec 16) (t3 : Int)
deriving DecidableEq, Repr

/-- How the BOOT sequence ends (R329, R330). -/
structure BootResult where
  rindOk   : Bool := true
  coreOk   : Bool := true
  /-- pages of other blocks whose self-test failed -/
  failed   : List (BitVec 12) := []
  /-- the converter calibration of each core -/
  cal      : List CalResult := []
  /-- power failed part-way through the last limited change (R363) -/
  torn     : Bool := false
  /-- the rows that the memory self-test finds bad: domain and row address (R329, R381) -/
  rows     : List (Fin 92 × BitVec 20) := []
deriving DecidableEq, Repr

/-- How the memory test of a rejoin ends (R379, R381): whether the domain passes but for its rows, and the addresses of the bad rows. -/
structure RejoinResult where
  ok   : Bool := true
  rows : List (BitVec 20) := []
deriving DecidableEq, Repr

/-- The three Whey rings (R285). -/
inductive WheyRing where
  | alarm | loss | general
deriving DecidableEq, Repr

/-- The session slots of Rind (R353). -/
inductive Slot where
  | host | tap
deriving DecidableEq, Repr

inductive Instr where
  -- the frame tick (R20 to R27, R119, R125, R181, R230)
  | tickBoundary
  | mapPublish
  | drain
  | drainCutoff
  | tickGuard
  | comparatorSelftest (failed : List (Fin 16 × Fin 4))
  | readyPoint
  -- register pages, commands and rings (R30 to R58)
  | postedWriteAccept (addr : BitVec 24) (data : Word) (len : Nat)
  | registerWrite (w : HostWrite)
  | rcRead (port : Port) (addr : BitVec 24) (meets : Bool)
  | pwelpop (port : Port) (data : Word)
  | nop (q : Req)
  | resetBlock (q : Req)
  | enable (q : Req)
  | disable (q : Req)
  | commit (q : Req)
  | abort (q : Req)
  | selftest (q : Req)
  | selftestDone (page : BitVec 12) (pass : Bool)
  | crtailWrite (port : Port) (data : Word)
  | cptailWrite (port : Port) (data : Word)
  | commandFetch (e : Entry)
  | groupCommit (tag : BitVec 16) (part : Bool) (args : Args)
  | groupCommitPrepared
  -- the time base (R59 to R68)
  | tbNowLoRead (port : Port)
  | matchArm (port : Port) (n : Fin 4) (data : Word)
  | matchReached (n : Fin 4)
  | tbWrap
  | tbPreset (q : Req)
  | slowRatioWindow (count : Time)
  | tbCatchup (ticks : BitVec 48)
  -- pin channels (R69 to R84)
  | compareFire (c : Fin 160)
  | pulseEnd (c : Fin 160)
  | cmpPush (q : Req)
  | cmpFlush (q : Req)
  | stagger (q : Req)
  | capFlush (q : Req)
  | capture (c : Fin 160) (tb : Time) (pol : Bool)
  | cappopRead (port : Port) (c : Fin 160)
  | periodCounterStep (c : Fin 160)
  -- wheel units (R85 to R115)
  | primaryEdge (p : Fin 8) (tb : Time) (amp : BitVec 16)
  | camEdge (src : SecInput) (tb : Time) (pol : Bool)
  | stall (u : Fin 8)
  | camlost (u : Fin 8)
  | camTimeout (u : Fin 8)
  | resync (q : Req)
  | synStart (q : Req)
  | synStop (q : Req)
  | lrnClear (q : Req)
  | synEdge (u : Fin 8)
  | synSegmentEnd (u : Fin 8)
  | quadratureChange (u : Fin 8) (a b : Bool)
  | quadratureIndex (u : Fin 8)
  | qpossetWrite (port : Port) (u : Fin 8) (data : Word)
  | wcfgWrite (port : Port) (u : Fin 8) (data : Word)
  -- the event calendar (R122 to R133)
  | evw3Write (port : Port) (data : Word)
  | evCancel (q : Req)
  | evCancelRole (q : Req)
  | evFlushWheel (q : Req)
  | hostEventCompletion
  | engineEventCompletion (role : Fin 16)
  -- microengines (R134 to R165)
  | dispatch (e : Fin 128)
  | mov (e : Fin 128) (f : AFields)
  | add (e : Fin 128) (f : AFields)
  | adc (e : Fin 128) (f : AFields)
  | sub (e : Fin 128) (f : AFields)
  | sbc (e : Fin 128) (f : AFields)
  | and (e : Fin 128) (f : AFields)
  | or (e : Fin 128) (f : AFields)
  | xor (e : Fin 128) (f : AFields)
  | not (e : Fin 128) (f : AFields)
  | shl (e : Fin 128) (f : AFields)
  | shr (e : Fin 128) (f : AFields)
  | sar (e : Fin 128) (f : AFields)
  | ror (e : Fin 128) (f : AFields)
  | cmp (e : Fin 128) (f : AFields)
  | tst (e : Fin 128) (f : AFields)
  | mulu (e : Fin 128) (f : AFields)
  | muls (e : Fin 128) (f : AFields)
  | mull (e : Fin 128) (f : AFields)
  | min (e : Fin 128) (f : AFields)
  | max (e : Fin 128) (f : AFields)
  | minu (e : Fin 128) (f : AFields)
  | maxu (e : Fin 128) (f : AFields)
  | clz (e : Fin 128) (f : AFields)
  | bfx (e : Fin 128) (f : AFields)
  | bfi (e : Fin 128) (f : AFields)
  | inc (e : Fin 128) (n : NFields) (hw : HwFault)
  | br (e : Fin 128) (n : NFields) (hw : HwFault)
  | brc (e : Fin 128) (n : NFields) (hw : HwFault)
  | call (e : Fin 128) (n : NFields) (hw : HwFault)
  | callc (e : Fin 128) (n : NFields) (hw : HwFault)
  | ret (e : Fin 128) (n : NFields) (hw : HwFault)
  | retc (e : Fin 128) (n : NFields) (hw : HwFault)
  | ldl (e : Fin 128) (x : XFields) (hw : HwFault)
  | stl (e : Fin 128) (x : XFields)
  | lds (e : Fin 128) (x : XFields) (hw : HwFault)
  | sts (e : Fin 128) (x : XFields) (hw : HwFault)
  | aadds (e : Fin 128) (x : XFields) (hw : HwFault)
  | ldq (e : Fin 128) (x : XFields) (hw : HwFault)
  | stq (e : Fin 128) (x : XFields)
  | fence (e : Fin 128) (x : XFields)
  | tbrd (e : Fin 128) (x : XFields)
  | idrd (e : Fin 128) (x : XFields)
  | post (e : Fin 128) (x : XFields) (hw : HwFault)
  | cancel (e : Fin 128) (x : XFields) (hw : HwFault)
  | msgsend (e : Fin 128) (x : XFields) (hw : HwFault)
  | msgrecv (e : Fin 128) (x : XFields) (hw : HwFault)
  | ecrd (e : Fin 128) (x : XFields) (hw : HwFault)
  | ring (e : Fin 128) (x : XFields) (hw : HwFault)
  | logw (e : Fin 128) (x : XFields) (hw : HwFault)
  | cfg (e : Fin 128) (x : XFields) (hw : HwFault)
  | tx (e : Fin 128) (x : XFields) (hw : HwFault)
  | rx (e : Fin 128) (x : XFields) (hw : HwFault)
  | st (e : Fin 128) (x : XFields) (hw : HwFault)
  | smprd (e : Fin 128) (x : XFields) (hw : HwFault)
  | caprd (e : Fin 128) (x : XFields) (hw : HwFault)
  | done (e : Fin 128) (x : XFields) (n : CtlNext) (hw : HwFault)
  | yield (e : Fin 128) (x : XFields) (n : CtlNext) (hw : HwFault)
  | waitev (e : Fin 128) (x : XFields) (n : CtlNext) (hw : HwFault)
  | mcWdog (e : Fin 128)
  | mcRunlen (e : Fin 128)
  | mirrorFetch (e : Fin 128)
  | shiftRxFrame (c : Fin 160) (f : RxFrame)
  | shiftTxBit (c : Fin 160)
  | shiftTimeout (e : Fin 128)
  -- clusters, tasks, messages (R166 to R182)
  | taskReady (q : Req)
  | taskCancel (q : Req)
  | shiftAbort (q : Req)
  | messageDelivery
  | migrationCopyEnd (c : Fin 16) (zeroed : List CopyFault)
  | mclogpop (port : Port) (c : Fin 16) (data : Word)
  -- Press (R183 to R188)
  | load (q : Req)
  | loadComplete (img : Image)
  | bankSwitch (q : Req)
  | mirrorCopy (q : Req)
  | mirrorCopyComplete
  | controlStoreWindowWrite (off : BitVec 26) (data : List Byte)
  | pressRepair (readBackOk : Bool)
  -- converters, test DAC, resampler (R195 to R239)
  | trigger (n : Fin 5) (i : Fin 4)
  | seqEntryStart (n : Fin 5)
  | sampleStore (n : Fin 5)
  | calibrate (q : Req)
  | calibrateComplete (n : Fin 5) (r : CalResult)
  | urgent (q : Req)
  | seqRestart (q : Req)
  | adcSubstitute (q : Req)
  | adcRelease (q : Req)
  | refcfgWrite (port : Port) (n : Fin 5) (data : Word)
  | referenceReady (n : Fin 5)
  | referenceFault (n : Fin 5)
  | tdacSettled
  | tdCompare (q : Req)
  | tdCompareDone
  | tdCompareTimeout
  | winClose (q : Req)
  | ringReset (q : Req)
  -- PWM and trips (R240 to R261)
  | periodBoundary (m : Fin 10)
  | midPeriodPoint (m : Fin 10)
  | referenceFall (m : Fin 10) (c : Fin 8)
  | deadTimeExpiry (m : Fin 10) (p : Fin 4)
  | syncLoad (m : Fin 10)
  | tripAssert (i : Fin 16) (pin : Bool) (clocks : Nat)
  | pwmSubstitute (q : Req)
  | pwmRelease (q : Req)
  | engineClockLoss
  -- the interrupt unit (R262 to R278)
  | doorbell (src : BitVec 12)
  | presentation (n : Fin 4)
  | queueRecordWrite (n : Fin 4)
  | eoiWrite (port : Port) (n : Fin 4) (data : Word)
  | tidleWrite (port : Port) (n : Fin 4) (data : Word)
  | hidleAssert (n : Fin 4) (held : Bool)
  | holdOffExpiry (n : Fin 4)
  | groupHoldOffExpiry (g : Fin 64)
  | raise (port : Port) (data : Word)
  | cntdec (port : Port) (data : Word)
  | qheadWrite (port : Port) (n : Fin 4) (data : Word)
  | routeWrite (port : Port) (page : Fin 8) (w : Fin 64) (data : Word)
  | tgtReset (q : Req)
  | wakeInput (w : Fin 16) (rising : Bool)
  -- Whey and Ethernet (R279 to R298)
  | wheyRecordIngest
  | wheyReadIndexWrite (port : Port) (ring : WheyRing) (data : Word)
  | ethFrameSend (n : Fin 2)
  | flushTimeout (n : Fin 2)
  | ptpMessage (n : Fin 2) (m : PtpMsg)
  | pauseFrame (n : Fin 2) (quanta : BitVec 16)
  | syncTimeout (n : Fin 2)
  | linkup (n : Fin 2)
  | linkdown (n : Fin 2)
  -- host links (R299 to R309)
  | pcieReset
  | bar2Write (off : BitVec 26) (data : List Byte)
  | dmaReadCompletion (page : BitVec 12) (r : DmaResult)
  | msixUnmask (t : MsixTarget)
  | spiFrame (clocks : Nat) (w0 w1 w2 : Word)
  | spiNop (seq : BitVec 4)
  | spiRead (seq : BitVec 4) (addr : BitVec 24)
  | spiWrite (seq : BitVec 4) (addr : BitVec 24) (data : Word)
  | spiReadComplete
  -- Idxia (R310 to R320)
  | hello (p : Fin 2) (h : FrameHdr) (f : HelloF)
  | authFrame (p : Fin 2) (h : FrameHdr) (v : BitVec 64)
  | time (p : Fin 2) (h : FrameHdr) (f : TimeF) (rx : BitVec 64)
  | timeExchange (p : Fin 2) (t1 : BitVec 64)
  | map (p : Fin 2) (h : FrameHdr) (f : MapF)
  | state (p : Fin 2) (h : FrameHdr) (f : StateF)
  | msg (p : Fin 2) (h : FrameHdr) (addr sender : Word) (body : List Word)
  | bounceFrame (p : Fin 2) (h : FrameHdr) (ws : List Word) (role : BitVec 4)
  | credit (p : Fin 2) (h : FrameHdr) (f : CreditF)
  | signalDetected (p : Fin 2)
  | signalLost (p : Fin 2)
  | authTimeout (p : Fin 2)
  | creditTimeout (p : Fin 2)
  | deadTimeout (p : Fin 2) (lockLost : Bool)
  | importMapDeadline (u : Fin 8)
  | readmit (q : Req)
  | retrain (q : Req)
  -- modes, supply, wake (R321 to R344)
  | arm (q : Req)
  | armChecksEnd
  | disarm (q : Req)
  | enterLimp (q : Req)
  | resume (q : Req)
  | halt (q : Req)
  | haltReq (q : Req)
  | sleep (q : Req)
  | reboot (q : Req)
  | forceSafe (q : Req)
  | wdkick (port : Port) (data : Word)
  | hostWatchdogExpiry
  | powerOnReset
  | resetPin (ns : Nat) (taken : Bool)
  | bootDone (r : BootResult)
  | wakeTimer
  | spiWake
  | brownOut (mv : Nat)
  | supplyExcursion (mv : Nat)
  | undervoltageTimeout
  | overvoltageTimeout
  | tempwarn (t : BitVec 16)
  | junctionOvertemp (t : BitVec 16)
  | hottimeMinute
  -- power domains and availability (R340 to R342, R370 to R381)
  | domOff (q : Req)
  | domOn (q : Req)
  | domIsolate (q : Req)
  | domReset (q : Req)
  | domainPowerOff (d : Fin 92)
  | rejoinWorkEnd (d : Fin 92) (test : RejoinResult)
  | domainRailFault (d : Fin 92)
  | wheelDecoderMismatch (u : Fin 8)
  -- Rind and debug (R350 to R369)
  | newNonce (q : Req)
  | auth (q : Req)
  | authLockoutExpiry (slot : Slot)
  | deauth (q : Req)
  | goTeam (q : Req)
  | goOpen (q : Req)
  | seal (q : Req)
  | unseal (q : Req)
  | chgAuth (q : Req)
  | readout (q : Req)
  | bypass
  | idcode
  | samplePreload
  | extest (pins : List Bool)
  | clamp
  | highz
  | dbgaccRead (bar2 : Bool) (addr : BitVec 28)
  | dbgaccWrite (bar2 : Bool) (addr : BitVec 28) (data : Word)
  -- further steps of the chapters above
  | non32BitRead (port : Port) (addr : BitVec 24) (len : Nat)
  | bar2Read (off : BitVec 26) (len : Nat)
  | engineClockReturn
  | tbStop
  | sampleHold (n : Fin 5) (ch : Fin 16) (raw : Int)
  | tripDeassert (i : Fin 16) (pin : Bool) (clocks : Nat)
  | primaryInactiveEdge (p : Fin 8) (tb : Time)
  | delayRegisterParityError (c : Fin 16) (p : Fin 4)
  | pwmCopyMismatch (m : Fin 10)
  | supplyReturn (mv : Nat)
  | crcErrorFrame (p : Fin 2)
  | malformedFrame (p : Fin 2)
  | receivedFrameDiscard (n : Fin 2)
  | pcieLinkUp (speed : BitVec 3) (width : BitVec 4)
  | busMasterEnableWrite (w : CfgWrite)
  | sealVerifyEnd (pkg : List Byte)
  | tokenVerifyEnd (tok : List Byte)
  | readoutComplete
  | tbSlew
  | slowokChange (ok : Bool)
deriving DecidableEq, Repr

end Sys2Proof
end

