-- ==== Sys2Proof/Decode.lean ====
section
/-! DEFINITION. The command that a word spells by the bits of spec/opcode_table.json. No row of the table gives bits: a command of
this block arrives as an access, an event on a pin or a step of the device, never as an encoded word. -/

namespace Sys2Proof

/-- The command of a table word: none, for no row has bits. -/
def decodeTableWord (nbits w : Nat) : Option Instr :=
  match nbits, w with
  | _, _ => none

end Sys2Proof
end

