-- ==== Sys2Proof/Config.lean ====
section
/-! DEFINITION. What one part fixes and the free values: constants without a body, so that a claim holds whatever they are. -/

namespace Sys2Proof.Config

/-- The device identity DEVUID, fixed per part (R351, R367). -/
opaque devUid : BitVec 64

/-- The device-unique public key, X then Y, big-endian (R351). -/
opaque devPub : BitVec 512

/-- The ordering grade, fixed per part: true for CT-5128-MX (R1, R2). -/
opaque gradeMx : Bool

/-- SHA-256 of a byte list (R351, R357 to R359, R364). Its arithmetic is given to its own standard. -/
opaque sha256 : List Byte → BitVec 256

/-- AES-128-CMAC of a byte list under a key (R313, R351, R353, R357). Its arithmetic is given to its own standard. -/
opaque aesCmac : BitVec 128 → List Byte → BitVec 128

/-- Whether an ECDSA P-256 signature over a hash verifies under a public key (R351, R354, R358). -/
opaque ecdsaVerifies : BitVec 512 → BitVec 256 → BitVec 512 → Bool

/-- The signature under the device-unique key over a hash (R364). -/
opaque deviceSign : BitVec 256 → BitVec 512

/-- How the contents of a read-out report are laid out in its first 448 bytes: the spec lists them and gives no layout (R364). -/
opaque reportLayout : List Byte → List Byte

/-- The nonces that Rind and the Idxia ports draw (R313, R353), by draw number. -/
opaque nonce : Nat → BitVec 64

/-- The bytes of the payload of an Idxia frame: the spec lists what it holds and gives no layout (R311). -/
opaque payloadBytes : Payload → List Byte

/-- A value that the spec leaves open, by draw number. -/
opaque freeWord : Nat → Word

end Sys2Proof.Config
end

