-- ==== Sys2Proof/Machine/Bits.lean ====
section
/-! DEFINITION. Bit fields, bytes, saturating counts and the two checksums of the spec (R36, R307). -/

namespace Sys2Proof.Machine

/-- `len` bits of a number from bit `lo` upwards. -/
def bitsOf (x lo len : Nat) : Nat := x / 2 ^ lo % 2 ^ len

/-- One bit of a number. -/
def bitOf (x i : Nat) : Bool := x / 2 ^ i % 2 == 1

/-- Replace `len` bits from bit `lo` upwards. -/
def putBits (x lo len v : Nat) : Nat := x - bitsOf x lo len * 2 ^ lo + (v % 2 ^ len) * 2 ^ lo

/-- Bits of a register. -/
def fieldOf (w : Word) (lo len : Nat) : Nat := bitsOf w.toNat lo len

/-- A register with one field replaced. -/
def withField (w : Word) (lo len v : Nat) : Word := BitVec.ofNat 32 (putBits w.toNat lo len v)

/-- A register with one bit set. -/
def setBit (w : Word) (i : Nat) : Word := w ||| BitVec.ofNat 32 (2 ^ i)

/-- A register with one bit cleared. -/
def clearBit (w : Word) (i : Nat) : Word := w &&& ~~~ BitVec.ofNat 32 (2 ^ i)

/-- Bits [31:0] of a 64-bit quantity. -/
def lo32 (t : BitVec 64) : Word := t.setWidth 32

/-- Bits [63:32] of a 64-bit quantity. -/
def hi32 (t : BitVec 64) : Word := (t >>> 32).setWidth 32

/-- A 64-bit quantity of its two registers (R6). -/
def join64 (hi lo : Word) : BitVec 64 := hi ++ lo

/-- A number with `len` bits read as two's complement. -/
def signed (len x : Nat) : Int := if x < 2 ^ (len - 1) then (x : Int) else (x : Int) - 2 ^ len

/-- An integer as a two's complement number with `len` bits. -/
def unsigned (len : Nat) (i : Int) : Nat := (i % (2 ^ len : Int)).toNat

/-- The bytes of a word, least significant first (R6). -/
def wordBytes (w : Word) : List Byte :=
  [w.setWidth 8, (w >>> 8).setWidth 8, (w >>> 16).setWidth 8, (w >>> 24).setWidth 8]

/-- A word of four bytes, least significant first (R6). -/
def bytesWord (b0 b1 b2 b3 : Byte) : Word := b3 ++ b2 ++ b1 ++ b0

/-- The low `n` bytes of a number, least significant first. -/
def leBytes (n x : Nat) : List Byte := (List.range n).map (fun i => BitVec.ofNat 8 (x / 2 ^ (8 * i)))

/-- The low `n` bytes of a number, most significant first. -/
def beBytes (n x : Nat) : List Byte := (leBytes n x).reverse

/-- The words of a byte list, the last one filled with zeros. -/
def wordsOf : List Byte → List Word
  | [] => []
  | [a] => [bytesWord a 0 0 0]
  | [a, b] => [bytesWord a b 0 0]
  | [a, b, c] => [bytesWord a b c 0]
  | a :: b :: c :: d :: t => bytesWord a b c d :: wordsOf t

/-- Rounding to nearest, halves away from zero. -/
def divRound (n d : Int) : Int :=
  if n < 0 then -((2 * (-n) + d) / (2 * d)) else (2 * n + d) / (2 * d)

/-- One bit step of the reflected CRC-32 with polynomial 0x04C1_1DB7 (R36). -/
def crc32Bit (c : Nat) : Nat := if c % 2 = 1 then (c / 2) ^^^ 0xEDB88320 else c / 2

/-- One byte step of CRC-32. -/
def crc32Byte (c b : Nat) : Nat :=
  crc32Bit (crc32Bit (crc32Bit (crc32Bit (crc32Bit (crc32Bit (crc32Bit (crc32Bit (c ^^^ b))))))))

/-- CRC-32 of a byte list: initial value and final XOR all ones (R36). -/
def crc32 (bs : List Byte) : Word :=
  BitVec.ofNat 32 ((bs.foldl (fun c b => crc32Byte c b.toNat) 0xFFFFFFFF) ^^^ 0xFFFFFFFF)

/-- Put an element into a sorted list, after those that are not greater. -/
def insertBy {α : Type} (before : α → α → Bool) (x : α) : List α → List α
  | [] => [x]
  | y :: t => if before x y then x :: y :: t else y :: insertBy before x t

/-- Sort a list; elements of equal rank keep their order. -/
def sortBy {α : Type} (before : α → α → Bool) (l : List α) : List α := l.foldl (fun m x => insertBy before x m) []

end Sys2Proof.Machine
end

