-- ==== Sys2Proof/Machine/Regs.lean ====
section
/-! DEFINITION. The register maps of the chapters as tables: offset, repetition, access code, shadowing, reset value,
named bits and writable bits of every register (R30 to R33, R47, R48, R60, R62, R69, R110 to R113, R131, R132, R189, R191,
R193, R218, R220, R222, R236, R237, R256, R259, R260, R277, R296, R297, R309, R319, R345, R348, R367, R369). -/

namespace Sys2Proof.Machine

/-- The access codes (R9). -/
inductive Access where
  | ro | rw | rwl | wo | w1c | w1s | rc
deriving DecidableEq, Repr

/-- The kinds of register page (R30): one register map each. -/
inductive Kind where
  | sys | pwr | rind | hostif | cmdq | tb | iu | wu | wux | wus | ang | angMap | angQuota | angPeek | pchg | pwm
  | trip | pinmux | pinmuxX | adc | adcs | tdac | rsmp | rsml | cl | clt | press | whey | eth | idx | dbg
deriving DecidableEq, Repr

/-- One line of a register map. -/
structure RegRow where
  /-- offset of the first register of the line -/
  off : Nat
  /-- distance of its repetitions -/
  stride : Nat
  /-- number of its repetitions -/
  count : Nat
  access : Access
  /-- shadowed (R52) -/
  shadowed : Bool
  /-- the value after BOOT -/
  reset : Nat
  /-- the bits that a field names -/
  named : Nat
  /-- the bits that a write can carry into -/
  writable : Nat
  /-- present on the first page of the block only (R277, R319) -/
  first : Bool
deriving DecidableEq, Repr

/-- The register map of SYS pages. -/
def rows_sys : List RegRow :=
  [⟨0x40, 4, 1, .rwl, false, 0x0, 0x3, 0x3, false⟩,
   ⟨0x44, 4, 1, .rw, false, 0x0, 0xFFFF, 0xFFFF, false⟩,
   ⟨0x50, 4, 5, .rwl, false, 0x0, 0xFFFFFFFF, 0xFFFFFFFF, false⟩,
   ⟨0x800, 4, 1, .ro, false, 0x51280100, 0xFFFFFF03, 0x0, false⟩,
   ⟨0x804, 4, 1, .ro, false, 0x2, 0xF0777, 0x0, false⟩,
   ⟨0x808, 4, 1, .ro, false, 0x1, 0xFF0F, 0x0, false⟩,
   ⟨0x80C, 4, 1, .ro, false, 0x0, 0xFFF03FF, 0x0, false⟩,
   ⟨0x810, 4, 1, .ro, false, 0x0, 0xFFF00FF, 0x0, false⟩,
   ⟨0x814, 4, 1, .ro, false, 0x0, 0xFF, 0x0, false⟩,
   ⟨0x818, 4, 1, .wo, false, 0x0, 0x1, 0x1, false⟩,
   ⟨0x820, 4, 1, .ro, false, 0x0, 0xFFFFFFFF, 0x0, false⟩,
   ⟨0x824, 4, 1, .ro, false, 0x0, 0xFFFFFFFF, 0x0, false⟩,
   ⟨0x900, 4, 64, .ro, false, 0x0, 0xFFFFFFFF, 0x0, false⟩]

/-- The register map of PWR pages. -/
def rows_pwr : List RegRow :=
  [⟨0x40, 4, 1, .rw, false, 0x0, 0x7F, 0x7F, false⟩,
   ⟨0x44, 4, 1, .rw, false, 0x8C, 0xFF, 0xFF, false⟩,
   ⟨0x48, 4, 1, .rw, false, 0x0, 0xFFFFFFFF, 0xFFFFFFFF, false⟩,
   ⟨0x4C, 4, 1, .rw, false, 0x1, 0x7, 0x7, false⟩,
   ⟨0x800, 4, 12, .ro, false, 0x0, 0xFFFFFFFF, 0x0, false⟩,
   ⟨0x840, 4, 1, .ro, false, 0x0, 0x31FFF, 0x0, false⟩,
   ⟨0x844, 4, 1, .ro, false, 0x0, 0xFFFFFFFF, 0x0, false⟩,
   ⟨0x848, 4, 1, .ro, false, 0x0, 0xFFFFFFFF, 0x0, false⟩,
   ⟨0x84C, 4, 1, .ro, false, 0x1, 0x71F, 0x0, false⟩,
   ⟨0x850, 4, 1, .rc, false, 0x0, 0xFFFF, 0xFFFF, false⟩]

/-- The register map of RIND pages. -/
def rows_rind : List RegRow :=
  [⟨0x40, 4, 1, .rwl, false, 0x0, 0x7FFFF, 0x7FFFF, false⟩,
   ⟨0x44, 4, 5, .rwl, false, 0x0, 0xFFFFFFFF, 0xFFFFFFFF, false⟩,
   ⟨0x58, 4, 1, .rwl, false, 0x0, 0xFFFFFFFF, 0xFFFFFFFF, false⟩,
   ⟨0x5C, 4, 1, .rwl, false, 0x0, 0xFFFFFFFF, 0xFFFFFFFF, false⟩,
   ⟨0x800, 4, 1, .ro, false, 0x0, 0x703, 0x0, false⟩,
   ⟨0x804, 4, 1, .ro, false, 0x04102008, 0xFFFFFFFF, 0x0, false⟩,
   ⟨0x808, 4, 1, .ro, false, 0x0, 0x3FF, 0x0, false⟩,
   ⟨0x80C, 4, 1, .ro, false, 0x0, 0xFFFF, 0x0, false⟩,
   ⟨0x810, 4, 1, .ro, false, 0x0, 0xFFFF, 0x0, false⟩,
   ⟨0x814, 4, 1, .ro, false, 0x0, 0x7FF00FF, 0x0, false⟩,
   ⟨0x818, 4, 1, .ro, false, 0x0, 0xFFFFFFFF, 0x0, false⟩,
   ⟨0x81C, 4, 1, .ro, false, 0x0, 0xFFFFFFFF, 0x0, false⟩,
   ⟨0x820, 4, 1, .ro, false, 0x0, 0xFFFFFFFF, 0x0, false⟩,
   ⟨0x824, 4, 1, .ro, false, 0x0, 0xFFFFFFFF, 0x0, false⟩,
   ⟨0x828, 4, 1, .ro, false, 0x0, 0xFFFFFFFF, 0x0, false⟩,
   ⟨0x82C, 4, 1, .ro, false, 0x0, 0xFFFFFFFF, 0x0, false⟩,
   ⟨0x830, 4, 1, .ro, false, 0x0, 0xFFFFFFFF, 0x0, false⟩,
   ⟨0x834, 4, 1, .ro, false, 0x0, 0xFFFFFFFF, 0x0, false⟩,
   ⟨0x838, 4, 1, .ro, false, 0x0, 0xFFFFFFFF, 0x0, false⟩,
   ⟨0x83C, 4, 1, .ro, false, 0x0, 0xFFFFFFFF, 0x0, false⟩,
   ⟨0x840, 4, 1, .rw, false, 0x0, 0xFFFFFFFF, 0xFFFFFFFF, false⟩,
   ⟨0x844, 4, 1, .rw, false, 0x0, 0xFFFFFFFF, 0xFFFFFFFF, false⟩,
   ⟨0x848, 4, 1, .rw, false, 0x0, 0xFFFFFFFF, 0xFFFFFFFF, false⟩,
   ⟨0x84C, 4, 1, .rw, false, 0x0, 0xFFFFFFFF, 0xFFFFFFFF, false⟩] ++
  [⟨0x850, 4, 1, .rw, false, 0x0, 0x3FFFF, 0x3FFFF, false⟩,
   ⟨0x854, 4, 1, .ro, false, 0x0, 0xFF, 0x0, false⟩,
   ⟨0x858, 4, 1, .rw, false, 0x0, 0x1FF, 0x1FF, false⟩,
   ⟨0x860, 4, 1, .ro, false, 0x0, 0x3, 0x0, false⟩,
   ⟨0x870, 4, 4, .ro, false, 0x0, 0xFFFFFFFF, 0x0, false⟩,
   ⟨0x880, 4, 16, .ro, false, 0x0, 0xFFFFFFFF, 0x0, false⟩,
   ⟨0x8C0, 4, 16, .ro, false, 0x0, 0xFFFFFFFF, 0x0, false⟩,
   ⟨0x900, 4, 4, .wo, false, 0x0, 0xFFFFFFFF, 0xFFFFFFFF, false⟩,
   ⟨0x910, 4, 16, .wo, false, 0x0, 0xFFFFFFFF, 0xFFFFFFFF, false⟩]

/-- The register map of HOSTIF pages. -/
def rows_hostif : List RegRow :=
  [⟨0x800, 4, 1, .ro, false, 0x0, 0xFFFFFFFF, 0x0, false⟩,
   ⟨0x804, 4, 1, .ro, false, 0x0, 0x7F, 0x0, false⟩,
   ⟨0x808, 4, 1, .rc, false, 0x0, 0xFFFF, 0xFFFF, false⟩,
   ⟨0x80C, 4, 1, .wo, false, 0x0, 0x1, 0x1, false⟩,
   ⟨0x810, 4, 1, .ro, false, 0x0, 0x1FFFFFF, 0x0, false⟩,
   ⟨0x814, 4, 1, .ro, false, 0x0, 0xFFFFFFFF, 0x0, false⟩,
   ⟨0x818, 4, 1, .ro, false, 0x0, 0xFFFFFFFF, 0x0, false⟩,
   ⟨0x820, 4, 1, .ro, false, 0x0, 0xFFFFFFFF, 0x0, false⟩,
   ⟨0x824, 4, 1, .ro, false, 0x0, 0xFFFFFFFF, 0x0, false⟩,
   ⟨0x830, 4, 1, .ro, false, 0x0, 0xFFFFFFFF, 0x0, false⟩,
   ⟨0x834, 4, 1, .ro, false, 0x0, 0xFFFFFFFF, 0x0, false⟩,
   ⟨0x40, 4, 1, .rwl, false, 0x1, 0x1, 0x1, false⟩,
   ⟨0x840, 4, 1, .ro, false, 0x0, 0x7FF, 0x0, false⟩,
   ⟨0x844, 4, 1, .rc, false, 0x0, 0x800FFFFF, 0x800FFFFF, false⟩,
   ⟨0x848, 4, 1, .rc, false, 0x0, 0xFFFF, 0xFFFF, false⟩,
   ⟨0x84C, 4, 1, .ro, false, 0x0, 0x10F, 0x0, false⟩,
   ⟨0x850, 4, 1, .rc, false, 0x0, 0xFFFFFF, 0xFFFFFF, false⟩,
   ⟨0x854, 4, 1, .rc, false, 0x0, 0xFFFF, 0xFFFF, false⟩]

/-- The register map of CMDQ pages. -/
def rows_cmdq : List RegRow :=
  [⟨0x40, 4, 1, .rw, false, 0x0, 0xFFFFFFC0, 0xFFFFFFC0, false⟩,
   ⟨0x44, 4, 1, .rw, false, 0x0, 0xFFFFFFFF, 0xFFFFFFFF, false⟩,
   ⟨0x48, 4, 1, .rw, false, 0x9, 0xF, 0xF, false⟩,
   ⟨0x4C, 4, 1, .rw, false, 0x0, 0xFFFFFFC0, 0xFFFFFFC0, false⟩,
   ⟨0x50, 4, 1, .rw, false, 0x0, 0xFFFFFFFF, 0xFFFFFFFF, false⟩,
   ⟨0x54, 4, 1, .rw, false, 0x9, 0xF, 0xF, false⟩,
   ⟨0x800, 4, 1, .ro, false, 0x0, 0xFFF, 0x0, false⟩,
   ⟨0x804, 4, 1, .rw, false, 0x0, 0xFFF, 0xFFF, false⟩,
   ⟨0x808, 4, 1, .ro, false, 0x0, 0xFFF, 0x0, false⟩,
   ⟨0x80C, 4, 1, .rw, false, 0x0, 0xFFF, 0xFFF, false⟩,
   ⟨0x810, 4, 1, .ro, false, 0x0, 0x3FF, 0x0, false⟩]

/-- The register map of TB pages. -/
def rows_tb : List RegRow :=
  [⟨0x40, 4, 1, .rwl, false, 0x7D0, 0xFFFF, 0xFFFF, false⟩,
   ⟨0x44, 4, 1, .rwl, false, 0x0, 0xFFFFFFFF, 0xFFFFFFFF, false⟩,
   ⟨0x48, 4, 1, .rwl, false, 0x320000, 0xFFFF0001, 0xFFFF0001, false⟩,
   ⟨0x50, 8, 4, .rw, false, 0x0, 0xFFFFFFFF, 0xFFFFFFFF, false⟩,
   ⟨0x54, 8, 4, .rw, false, 0x0, 0xFFFFFFFF, 0xFFFFFFFF, false⟩,
   ⟨0x800, 4, 1, .ro, false, 0x0, 0xFFFFFFFF, 0x0, false⟩,
   ⟨0x804, 4, 1, .ro, false, 0x0, 0xFFFFFFFF, 0x0, false⟩,
   ⟨0x808, 4, 1, .ro, false, 0x0, 0xFFFFFFFF, 0x0, false⟩,
   ⟨0x80C, 4, 1, .ro, false, 0x0, 0xF, 0x0, false⟩,
   ⟨0x810, 4, 1, .ro, false, 0x0, 0xFFFFFFFF, 0x0, false⟩,
   ⟨0x814, 4, 1, .ro, false, 0x0, 0xFFFFFFFF, 0x0, false⟩,
   ⟨0x818, 4, 1, .ro, false, 0x0, 0xFFFFFFFF, 0x0, false⟩,
   ⟨0x81C, 4, 1, .ro, false, 0x0, 0xFFFF, 0x0, false⟩,
   ⟨0x820, 4, 1, .w1c, false, 0x0, 0x1, 0x1, false⟩,
   ⟨0x824, 4, 1, .ro, false, 0x0, 0x3, 0x0, false⟩]

/-- The register map of IU pages. -/
def rows_iu : List RegRow :=
  [⟨0x40, 4, 16, .rw, false, 0xFFFFFFFF, 0xFFFFFFFF, 0xFFFFFFFF, false⟩,
   ⟨0x80, 4, 64, .rw, false, 0x0, 0xFFFFFFFF, 0xFFFFFFFF, false⟩,
   ⟨0x200, 32, 4, .rwl, false, 0x1, 0x171F, 0x171F, true⟩,
   ⟨0x204, 32, 4, .rw, false, 0x0, 0xFFFFFF, 0xFFFFFF, true⟩,
   ⟨0x208, 32, 4, .rwl, false, 0x0, 0xFFFFFFC0, 0xFFFFFFC0, true⟩,
   ⟨0x20C, 32, 4, .rwl, false, 0x0, 0xFFFFFFFF, 0xFFFFFFFF, true⟩,
   ⟨0x210, 32, 4, .rwl, false, 0x8, 0xF, 0xF, true⟩,
   ⟨0x300, 4, 16, .rw, false, 0x0, 0xFFFFFFFF, 0xFFFFFFFF, true⟩,
   ⟨0x380, 4, 1, .rwl, false, 0x0, 0xFFFFFFFF, 0xFFFFFFFF, true⟩,
   ⟨0x384, 4, 1, .rw, false, 0x0, 0x3, 0x3, true⟩,
   ⟨0x800, 4, 16, .rw, false, 0x0, 0xFFFFFFFF, 0xFFFFFFFF, false⟩,
   ⟨0xA00, 4, 128, .ro, false, 0x0, 0xFFFFFFFF, 0x0, false⟩,
   ⟨0xC00, 32, 4, .ro, false, 0x0, 0x30FFF, 0x0, true⟩,
   ⟨0xC04, 32, 4, .wo, false, 0x0, 0xFFF, 0xFFF, true⟩,
   ⟨0xC08, 32, 4, .ro, false, 0x0, 0xFFF, 0x0, true⟩,
   ⟨0xC0C, 32, 4, .rw, false, 0x0, 0xFFF, 0xFFF, true⟩,
   ⟨0xC10, 32, 4, .ro, false, 0x0, 0xF, 0x0, true⟩,
   ⟨0xC14, 32, 4, .w1s, false, 0x0, 0x1, 0x1, true⟩,
   ⟨0xD00, 4, 1, .wo, false, 0x0, 0xFFF, 0xFFF, true⟩,
   ⟨0xD04, 4, 1, .wo, false, 0x0, 0xFF0FFF, 0xFF0FFF, true⟩,
   ⟨0xD08, 4, 1, .rc, false, 0x0, 0xFFFFFFF, 0xFFFFFFF, true⟩,
   ⟨0xD0C, 4, 1, .w1c, false, 0x0, 0xFFFF, 0xFFFF, true⟩]

/-- The register map of WU pages. -/
def rows_wu : List RegRow :=
  [⟨0x40, 4, 1, .rwl, false, 0x23C00, 0x73FF1F, 0x73FF1F, false⟩,
   ⟨0x44, 4, 1, .rwl, false, 0x502, 0xFF07, 0xFF07, false⟩,
   ⟨0x48, 4, 1, .rwl, false, 0x1900000, 0xFFFF007F, 0xFFFF007F, false⟩,
   ⟨0x4C, 4, 1, .rw, true, 0x48002000, 0xFFFFFFFF, 0xFFFFFFFF, false⟩,
   ⟨0x50, 4, 1, .rw, true, 0x18000A00, 0xFFFFFFFF, 0xFFFFFFFF, false⟩,
   ⟨0x54, 4, 1, .rw, true, 0x8000300, 0xFFFFFFFF, 0xFFFFFFFF, false⟩,
   ⟨0x58, 4, 1, .rwl, false, 0x4525, 0xFFFF, 0xFFFF, false⟩,
   ⟨0x5C, 4, 1, .rwl, false, 0x2710, 0xFFFFF, 0xFFFFF, false⟩,
   ⟨0x60, 4, 1, .rwl, false, 0x0, 0xFFFFFF, 0xFFFFFF, false⟩,
   ⟨0x64, 4, 1, .rwl, false, 0x0, 0x3FFF03, 0x3FFF03, false⟩,
   ⟨0x68, 4, 1, .rwl, false, 0x0, 0x3FFF03, 0x3FFF03, false⟩,
   ⟨0x6C, 4, 1, .rwl, false, 0x38E038E, 0xFFFFFFFF, 0xFFFFFFFF, false⟩,
   ⟨0x70, 4, 1, .rwl, false, 0x8C463C1E, 0xFFFFFFFF, 0xFFFFFFFF, false⟩,
   ⟨0x74, 4, 1, .rwl, false, 0x4, 0xF, 0xF, false⟩,
   ⟨0x78, 4, 1, .rw, false, 0x78140A08, 0xFFFFFF0F, 0xFFFFFF0F, false⟩,
   ⟨0x7C, 4, 1, .rwl, false, 0x0, 0xFFFFFFFF, 0xFFFFFFFF, false⟩,
   ⟨0x80, 4, 1, .rwl, false, 0x0, 0xFFFFFFFF, 0xFFFFFFFF, false⟩,
   ⟨0x84, 4, 1, .rw, false, 0x0, 0x3FFFFFFF, 0x3FFFFFFF, false⟩,
   ⟨0x800, 4, 1, .ro, false, 0x0, 0xFFFFFF7, 0x0, false⟩,
   ⟨0x804, 4, 1, .ro, false, 0x0, 0xFFFFFFFF, 0x0, false⟩,
   ⟨0x808, 4, 1, .ro, false, 0x0, 0xFFFFFFFF, 0x0, false⟩,
   ⟨0x80C, 4, 1, .ro, false, 0x0, 0xFFFFFFFF, 0x0, false⟩,
   ⟨0x810, 4, 1, .ro, false, 0x0, 0xFFFFFFFF, 0x0, false⟩,
   ⟨0x814, 4, 1, .ro, false, 0x0, 0xFFFF, 0x0, false⟩] ++
  [⟨0x818, 4, 1, .rc, false, 0x0, 0xFFFFFFFF, 0xFFFFFFFF, false⟩,
   ⟨0x81C, 4, 1, .rc, false, 0x0, 0xFFFF, 0xFFFF, false⟩,
   ⟨0x820, 4, 1, .ro, false, 0x0, 0xFFFFFFFF, 0x0, false⟩,
   ⟨0x824, 4, 1, .ro, false, 0x0, 0xFFFFFFFF, 0x0, false⟩,
   ⟨0x828, 4, 1, .ro, false, 0x0, 0xFFFF, 0x0, false⟩,
   ⟨0x82C, 4, 1, .ro, false, 0x0, 0xFFFFFFFF, 0x0, false⟩,
   ⟨0x830, 4, 1, .ro, false, 0x0, 0x1F, 0x0, false⟩,
   ⟨0x834, 4, 1, .ro, false, 0x0, 0xFFFFFFFF, 0x0, false⟩,
   ⟨0x838, 4, 1, .wo, false, 0x0, 0xFFFFFFFF, 0xFFFFFFFF, false⟩,
   ⟨0x83C, 4, 1, .ro, false, 0x0, 0xFFFF007F, 0x0, false⟩,
   ⟨0x840, 4, 1, .ro, false, 0x0, 0xFFFF0003, 0x0, false⟩]

/-- The register map of WUX pages. -/
def rows_wux : List RegRow :=
  [⟨0x40, 4, 32, .rwl, false, 0x0, 0x1FFFFFF, 0x1FFFFFF, false⟩,
   ⟨0xC0, 4, 32, .rwl, false, 0x0, 0x1FFFFFF, 0x1FFFFFF, false⟩,
   ⟨0x800, 4, 120, .rw, false, 0x0, 0xFFFFFFFF, 0xFFFFFFFF, false⟩]

/-- The register map of WUS pages. -/
def rows_wus : List RegRow :=
  [⟨0x40, 4, 1, .rw, false, 0x1, 0x13F, 0x13F, false⟩,
   ⟨0x44, 4, 32, .rw, false, 0x0, 0x7FFFFFFF, 0x7FFFFFFF, false⟩]

/-- The register map of ANG pages. -/
def rows_ang : List RegRow :=
  [⟨0x40, 4, 1, .rwl, false, 0x2001000, 0x3FF7FFF, 0x3FF7FFF, false⟩,
   ⟨0x44, 4, 1, .rwl, false, 0x80000FF, 0xFFFFFFFF, 0xFFFFFFFF, false⟩,
   ⟨0x60, 4, 1, .rw, false, 0x0, 0xFFFFFFFF, 0xFFFFFFFF, false⟩,
   ⟨0x64, 4, 1, .rw, false, 0x0, 0xFF010F, 0xFF010F, false⟩,
   ⟨0x800, 4, 1, .ro, false, 0x0, 0x7FFF7FFF, 0x0, false⟩,
   ⟨0x804, 4, 1, .ro, false, 0x0, 0x3FF03FF, 0x0, false⟩,
   ⟨0x808, 4, 1, .rc, false, 0x0, 0xFFFF, 0xFFFF, false⟩,
   ⟨0x80C, 4, 1, .rc, false, 0x0, 0xFFFFFFFF, 0xFFFFFFFF, false⟩,
   ⟨0x810, 4, 1, .rc, false, 0x0, 0xFFFF, 0xFFFF, false⟩,
   ⟨0x814, 4, 1, .ro, false, 0x0, 0x7FFF, 0x0, false⟩,
   ⟨0x818, 4, 1, .rc, false, 0x0, 0xFFFF, 0xFFFF, false⟩,
   ⟨0x840, 4, 1, .rw, false, 0x0, 0xFFFFFFFF, 0xFFFFFFFF, false⟩,
   ⟨0x844, 4, 1, .rw, false, 0x0, 0xFFFFFFFF, 0xFFFFFFFF, false⟩,
   ⟨0x848, 4, 1, .rw, false, 0x0, 0xFFFFFFFF, 0xFFFFFFFF, false⟩,
   ⟨0x84C, 4, 1, .wo, false, 0x0, 0xFFFFFFFF, 0xFFFFFFFF, false⟩]

/-- The register map of ANGMAP pages. -/
def rows_angMap : List RegRow :=
  [⟨0x800, 64, 8, .ro, false, 0x0, 0xFF07, 0x0, false⟩,
   ⟨0x804, 64, 8, .ro, false, 0x0, 0xFFFFFFFF, 0x0, false⟩,
   ⟨0x808, 64, 8, .ro, false, 0x0, 0xFFFFFFFF, 0x0, false⟩,
   ⟨0x80C, 64, 8, .ro, false, 0x0, 0xFFFFFFFF, 0x0, false⟩,
   ⟨0x810, 64, 8, .ro, false, 0x0, 0xFFFFFFFF, 0x0, false⟩,
   ⟨0x814, 64, 8, .ro, false, 0x0, 0xFFFFFFFF, 0x0, false⟩,
   ⟨0x818, 64, 8, .ro, false, 0x0, 0xFFFFFFFF, 0x0, false⟩,
   ⟨0x81C, 64, 8, .ro, false, 0x0, 0xFFFFFFFF, 0x0, false⟩,
   ⟨0x820, 64, 8, .ro, false, 0x0, 0xFFFFFFFF, 0x0, false⟩]

/-- The register map of ANGQUOTA pages. -/
def rows_angQuota : List RegRow :=
  [⟨0x40, 4, 16, .rwl, false, 0x400, 0x7FFF, 0x7FFF, false⟩,
   ⟨0x800, 4, 16, .ro, false, 0x0, 0x7FFF, 0x0, false⟩]

/-- The register map of ANGPEEK pages. -/
def rows_angPeek : List RegRow :=
  [⟨0x40, 4, 1, .rw, false, 0x0, 0x3FFFFF, 0x3FFFFF, false⟩,
   ⟨0x800, 4, 4, .ro, false, 0x0, 0xFFFFFFFF, 0x0, false⟩,
   ⟨0x810, 4, 1, .ro, false, 0x0, 0x7, 0x0, false⟩]

/-- The register map of PCHG pages. -/
def rows_pchg : List RegRow :=
  [⟨0x40, 64, 16, .rwl, false, 0x0, 0x1FFF, 0x1FFF, false⟩,
   ⟨0x44, 64, 16, .rwl, false, 0x0, 0x7F, 0x7F, false⟩,
   ⟨0x48, 64, 16, .rw, true, 0x0, 0xFFFFFFFF, 0xFFFFFFFF, false⟩,
   ⟨0x4C, 64, 16, .rw, true, 0x0, 0xFFFFFFFF, 0xFFFFFFFF, false⟩,
   ⟨0x50, 64, 16, .rw, true, 0x0, 0xFFFFFFFF, 0xFFFFFFFF, false⟩,
   ⟨0x54, 64, 16, .rw, false, 0x0, 0x3FF, 0x3FF, false⟩,
   ⟨0x440, 4, 1, .rw, false, 0x0, 0xFFFF, 0xFFFF, false⟩,
   ⟨0x444, 4, 1, .rw, false, 0x1, 0xFFFF, 0xFFFF, false⟩,
   ⟨0x800, 128, 16, .w1c, false, 0x0, 0xF03FF, 0x3FF, false⟩,
   ⟨0x804, 128, 16, .rw, false, 0x0, 0xFFFFFFFF, 0xFFFFFFFF, false⟩,
   ⟨0x808, 128, 16, .rw, false, 0x0, 0xFFFFFFFF, 0xFFFFFFFF, false⟩,
   ⟨0x80C, 128, 16, .rw, false, 0x0, 0xFFFFFFFF, 0xFFFFFFFF, false⟩,
   ⟨0x810, 128, 16, .rw, false, 0x0, 0x7, 0x7, false⟩,
   ⟨0x814, 128, 16, .ro, false, 0x0, 0x7F, 0x0, false⟩,
   ⟨0x818, 128, 16, .ro, false, 0x0, 0xFFFFFFFF, 0x0, false⟩,
   ⟨0x81C, 128, 16, .ro, false, 0x0, 0xFFFFFFFF, 0x0, false⟩,
   ⟨0x820, 128, 16, .rc, false, 0x0, 0xFF, 0xFF, false⟩,
   ⟨0x824, 128, 16, .rc, false, 0x0, 0x3F, 0x3F, false⟩,
   ⟨0x828, 128, 16, .ro, false, 0x0, 0xFFFFFFFF, 0x0, false⟩,
   ⟨0x82C, 128, 16, .ro, false, 0x0, 0xFFFFFFFF, 0x0, false⟩,
   ⟨0x830, 128, 16, .ro, false, 0x0, 0xFFFFFFFF, 0x0, false⟩,
   ⟨0x834, 128, 16, .ro, false, 0x0, 0x7, 0x0, false⟩,
   ⟨0x838, 128, 16, .rc, false, 0x0, 0xFF, 0xFF, false⟩,
   ⟨0x83C, 128, 16, .ro, false, 0x0, 0xFFFFFFFF, 0x0, false⟩]

/-- The register map of PWM pages. -/
def rows_pwm : List RegRow :=
  [⟨0x40, 4, 1, .rwl, false, 0x0, 0xFF3F, 0xFF3F, false⟩,
   ⟨0x44, 4, 1, .rw, true, 0xF9F, 0xFFFFFFFF, 0xFFFFFFFF, false⟩,
   ⟨0x48, 4, 1, .rw, true, 0x0, 0xFFFFFFFF, 0xFFFFFFFF, false⟩,
   ⟨0x4C, 4, 1, .rw, true, 0x0, 0xFFFFFFFF, 0xFFFFFFFF, false⟩,
   ⟨0x50, 4, 1, .rwl, false, 0x0, 0x1FF, 0x1FF, false⟩,
   ⟨0x54, 4, 1, .rw, false, 0x0, 0xF, 0xF, false⟩,
   ⟨0x60, 4, 4, .rwl, false, 0x1, 0xF, 0xF, false⟩,
   ⟨0x70, 4, 4, .rw, true, 0x0, 0xFFFF, 0xFFFF, false⟩,
   ⟨0x80, 4, 4, .rwl, false, 0x0, 0xFFFF, 0xFFFF, false⟩,
   ⟨0xA0, 4, 8, .rw, true, 0x0, 0xFFFFFFFF, 0xFFFFFFFF, false⟩,
   ⟨0xC0, 4, 8, .rwl, false, 0x0, 0x1, 0x1, false⟩,
   ⟨0x800, 4, 1, .ro, false, 0x0, 0xFFFFFFFF, 0x0, false⟩,
   ⟨0x804, 4, 1, .ro, false, 0x0, 0x1F3FFF, 0x0, false⟩,
   ⟨0x808, 4, 1, .ro, false, 0x0, 0xFFFFFFFF, 0x0, false⟩,
   ⟨0x80C, 4, 1, .rc, false, 0x0, 0xFFFFFFFF, 0xFFFFFFFF, false⟩]

/-- The register map of TRIP pages. -/
def rows_trip : List RegRow :=
  [⟨0x40, 4, 16, .rwl, false, 0x0, 0xFF, 0xFF, false⟩,
   ⟨0x800, 4, 1, .ro, false, 0x0, 0xFFFF, 0x0, false⟩,
   ⟨0x804, 4, 1, .w1c, false, 0x0, 0xFFFF, 0xFFFF, false⟩,
   ⟨0x840, 4, 16, .rc, false, 0x0, 0xFFFF, 0xFFFF, false⟩]

/-- The register map of PINMUX pages. -/
def rows_pinmux : List RegRow :=
  [⟨0x40, 4, 160, .rwl, false, 0x0, 0x17F03, 0x17F03, false⟩]

/-- The register map of PINMUXX pages. -/
def rows_pinmuxX : List RegRow :=
  [⟨0x800, 4, 10, .ro, false, 0x0, 0xF, 0x0, false⟩,
   ⟨0x830, 4, 1, .ro, false, 0x0, 0x3, 0x0, false⟩]

/-- The register map of ADC pages. -/
def rows_adc : List RegRow :=
  [⟨0x40, 4, 1, .rwl, false, 0x80A, 0x7FFF, 0x7FFF, false⟩,
   ⟨0x44, 4, 1, .rw, true, 0x0, 0xFFFF, 0xFFFF, false⟩,
   ⟨0x48, 4, 1, .rw, true, 0x1, 0x7F, 0x7F, false⟩,
   ⟨0x50, 4, 1, .rw, false, 0x0, 0x1F, 0x1F, false⟩,
   ⟨0x54, 4, 1, .rw, false, 0x0, 0xF, 0xF, false⟩,
   ⟨0x58, 4, 1, .rw, false, 0x0, 0x3, 0x3, false⟩,
   ⟨0x60, 8, 4, .rw, true, 0x0, 0xFF0F3F, 0xFF0F3F, false⟩,
   ⟨0x64, 8, 4, .rw, true, 0x0, 0xFFFF, 0xFFFF, false⟩,
   ⟨0x100, 16, 16, .rw, true, 0x0, 0x1FF, 0x1FF, false⟩,
   ⟨0x104, 16, 16, .rw, true, 0x0, 0xFFFFFFC0, 0xFFFFFFC0, false⟩,
   ⟨0x108, 16, 16, .rw, true, 0x0, 0xFFFFFFFF, 0xFFFFFFFF, false⟩,
   ⟨0x10C, 16, 16, .rw, true, 0x0, 0xFFFFFF, 0xFFFFFF, false⟩,
   ⟨0x800, 4, 1, .ro, false, 0x300, 0xFF3F, 0x0, false⟩,
   ⟨0x804, 4, 1, .ro, false, 0x0, 0xFFFFFFFF, 0x0, false⟩,
   ⟨0x808, 4, 1, .rc, false, 0x0, 0xFFFFFFFF, 0xFFFFFFFF, false⟩,
   ⟨0x80C, 4, 1, .rc, false, 0x0, 0xFFFF, 0xFFFF, false⟩,
   ⟨0x810, 4, 1, .rw, false, 0x1, 0x1, 0x1, false⟩,
   ⟨0x820, 4, 4, .rw, true, 0x0, 0xFFFF, 0xFFFF, false⟩,
   ⟨0x830, 4, 4, .rw, true, 0x10000, 0x3FFFF, 0x3FFFF, false⟩,
   ⟨0x840, 4, 10, .rw, true, 0x0, 0xFFF, 0xFFF, false⟩,
   ⟨0x900, 16, 16, .ro, false, 0x0, 0x1FFFFFF, 0x0, false⟩,
   ⟨0x904, 16, 16, .rw, false, 0x0, 0x1FFFFFF, 0x1FFFFFF, false⟩,
   ⟨0x908, 16, 16, .rc, false, 0x0, 0xFFFF, 0xFFFF, false⟩]

/-- The register map of ADCS pages. -/
def rows_adcs : List RegRow :=
  [⟨0x40, 8, 64, .rw, true, 0x0, 0x3FFFFFFF, 0x3FFFFFFF, false⟩,
   ⟨0x44, 8, 64, .rw, true, 0x0, 0x1F7FFFFF, 0x1F7FFFFF, false⟩]

/-- The register map of TDAC pages. -/
def rows_tdac : List RegRow :=
  [⟨0x40, 4, 1, .rw, false, 0x0, 0x3F0303FF, 0x3F0303FF, false⟩,
   ⟨0x44, 4, 1, .rw, false, 0x0, 0xFFFF010F, 0xFFFF010F, false⟩,
   ⟨0x48, 4, 1, .rw, false, 0x0, 0xFFFF, 0xFFFF, false⟩,
   ⟨0x800, 4, 1, .ro, false, 0x0, 0xFFFF000D, 0x0, false⟩,
   ⟨0x804, 4, 1, .ro, false, 0x0, 0xFFFFFFFF, 0x0, false⟩]

/-- The register map of RSMP pages. -/
def rows_rsmp : List RegRow :=
  [⟨0x40, 4, 1, .rw, false, 0x0, 0xFFFF, 0xFFFF, false⟩,
   ⟨0x800, 4, 1, .ro, false, 0x0, 0xFFFF, 0x0, false⟩,
   ⟨0x804, 4, 1, .ro, false, 0x0, 0xFFFFFFFF, 0x0, false⟩,
   ⟨0x808, 4, 1, .rc, false, 0x0, 0xFFFF, 0xFFFF, false⟩]

/-- The register map of RSML pages. -/
def rows_rsml : List RegRow :=
  [⟨0x40, 32, 2, .rw, true, 0x2000000, 0xF073F0F, 0xF073F0F, false⟩,
   ⟨0x44, 32, 2, .rw, true, 0x10, 0x1FF, 0x1FF, false⟩,
   ⟨0x48, 32, 2, .rw, true, 0x0, 0xFFFFFF, 0xFFFFFF, false⟩,
   ⟨0x4C, 32, 2, .rw, true, 0x0, 0xFFFFFF, 0xFFFFFF, false⟩,
   ⟨0x50, 32, 2, .rw, true, 0x8000000, 0x1F03FFC0, 0x1F03FFC0, false⟩,
   ⟨0x800, 32, 2, .ro, false, 0x0, 0x1FFFF, 0x0, false⟩,
   ⟨0x804, 32, 2, .rw, false, 0x0, 0x1FFFF, 0x1FFFF, false⟩,
   ⟨0x808, 32, 2, .rc, false, 0x0, 0xFFFF, 0xFFFF, false⟩,
   ⟨0x80C, 32, 2, .ro, false, 0x0, 0x3FFFF, 0x0, false⟩,
   ⟨0x810, 32, 2, .ro, false, 0x0, 0xFFFF, 0x0, false⟩]

/-- The register map of CL pages. -/
def rows_cl : List RegRow :=
  [⟨0x40, 4, 1, .rwl, false, 0x0, 0x10F, 0x10F, false⟩,
   ⟨0x44, 4, 1, .rwl, false, 0x0, 0x10F, 0x10F, false⟩,
   ⟨0x48, 4, 1, .rwl, false, 0x1, 0x1, 0x1, false⟩,
   ⟨0x4C, 4, 1, .rwl, false, 0xFE00, 0xFFF0, 0xFFF0, false⟩,
   ⟨0x50, 4, 12, .rw, false, 0x0, 0xFF07, 0xFF07, false⟩,
   ⟨0x80, 4, 1, .rw, false, 0x0, 0xFF, 0xFF, false⟩,
   ⟨0x84, 4, 1, .rw, false, 0x0, 0xFF, 0xFF, false⟩,
   ⟨0x800, 4, 1, .ro, false, 0x0, 0xFF7F, 0x0, false⟩,
   ⟨0x804, 4, 1, .ro, false, 0x0, 0xFFFF, 0x0, false⟩,
   ⟨0x808, 4, 1, .ro, false, 0x0, 0xFFFFFFFF, 0x0, false⟩,
   ⟨0x80C, 4, 1, .rc, false, 0x0, 0xFFFF, 0xFFFF, false⟩,
   ⟨0x810, 4, 1, .ro, false, 0x0, 0x1FF0F3F, 0x0, false⟩,
   ⟨0x814, 4, 1, .rc, false, 0x0, 0xFFFF, 0xFFFF, false⟩,
   ⟨0x818, 4, 1, .ro, false, 0x0, 0xFFFFFFFF, 0x0, false⟩,
   ⟨0x81C, 4, 1, .ro, false, 0x0, 0xFFFFFFFF, 0x0, false⟩,
   ⟨0x820, 4, 1, .ro, false, 0x0, 0xFFFFFFFF, 0x0, false⟩,
   ⟨0x824, 4, 1, .wo, false, 0x0, 0x1, 0x1, false⟩,
   ⟨0x828, 4, 1, .rc, false, 0x0, 0xFF, 0xFF, false⟩]

/-- The register map of CLT pages. -/
def rows_clt : List RegRow :=
  [⟨0x40, 4, 256, .rwl, false, 0x0, 0x1FFFF, 0x1FFFF, false⟩,
   ⟨0x800, 8, 256, .ro, false, 0x0, 0xFFFFF0F, 0x0, false⟩,
   ⟨0x804, 8, 256, .ro, false, 0x0, 0xFFFFFFFF, 0x0, false⟩]

/-- The register map of PRESS pages. -/
def rows_press : List RegRow :=
  [⟨0x40, 4, 1, .rw, false, 0x0, 0xFFFF, 0xFFFF, false⟩,
   ⟨0x44, 4, 1, .rw, false, 0x0, 0xFFFFFFF0, 0xFFFFFFF0, false⟩,
   ⟨0x48, 4, 1, .rw, false, 0x0, 0xFFFFFFFF, 0xFFFFFFFF, false⟩,
   ⟨0x4C, 4, 1, .rw, false, 0x0, 0x1FFFFF, 0x1FFFFF, false⟩,
   ⟨0x50, 4, 1, .rw, false, 0x2, 0xF, 0xF, false⟩,
   ⟨0x800, 4, 1, .ro, false, 0x0, 0xFFFFFFFF, 0x0, false⟩,
   ⟨0x804, 4, 1, .ro, false, 0x0, 0xFFFFFFFF, 0x0, false⟩,
   ⟨0x808, 4, 1, .ro, false, 0x0, 0xFF011FFF, 0x0, false⟩,
   ⟨0x80C, 4, 1, .ro, false, 0x0, 0x1F1FFF, 0x0, false⟩,
   ⟨0x810, 4, 1, .ro, false, 0x0, 0xFF1FFFFF, 0x0, false⟩,
   ⟨0x814, 4, 1, .rc, false, 0x0, 0xFFFF, 0xFFFF, false⟩,
   ⟨0x818, 4, 1, .ro, false, 0x0, 0xFFFF, 0x0, false⟩]

/-- The register map of WHEY pages. -/
def rows_whey : List RegRow :=
  [⟨0x40, 4, 1, .rwl, false, 0x0, 0xF, 0xF, false⟩,
   ⟨0x44, 4, 1, .rw, false, 0x100008, 0xFF000F, 0xFF000F, false⟩,
   ⟨0x48, 4, 1, .rw, false, 0x0, 0x3, 0x3, false⟩,
   ⟨0x800, 4, 1, .ro, false, 0x0, 0xFFFFF, 0x0, false⟩,
   ⟨0x804, 4, 1, .rw, false, 0x0, 0xFFFFF, 0xFFFFF, false⟩,
   ⟨0x808, 4, 1, .ro, false, 0x0, 0xFFFFF, 0x0, false⟩,
   ⟨0x80C, 4, 1, .rw, false, 0x0, 0xFFFFF, 0xFFFFF, false⟩,
   ⟨0x810, 4, 1, .ro, false, 0x0, 0xFFFFF, 0x0, false⟩,
   ⟨0x814, 4, 1, .rw, false, 0x0, 0xFFFFF, 0xFFFFF, false⟩,
   ⟨0x818, 4, 1, .ro, false, 0x0, 0xF0FFFFF, 0x0, false⟩,
   ⟨0x81C, 4, 1, .rc, false, 0x0, 0xFFFF, 0xFFFF, false⟩,
   ⟨0x820, 4, 1, .ro, false, 0x0, 0x1FF007F, 0x0, false⟩,
   ⟨0x824, 4, 1, .rc, false, 0x0, 0xFFFF, 0xFFFF, false⟩]

/-- The register map of ETH pages. -/
def rows_eth : List RegRow :=
  [⟨0x40, 4, 1, .rwl, false, 0x61, 0x6F, 0x6F, false⟩,
   ⟨0x44, 4, 1, .rwl, false, 0x0, 0xFFFFFFFF, 0xFFFFFFFF, false⟩,
   ⟨0x48, 4, 1, .rwl, false, 0x0, 0xFFFF, 0xFFFF, false⟩,
   ⟨0x4C, 4, 1, .rwl, false, 0x0, 0xFFFFFFFF, 0xFFFFFFFF, false⟩,
   ⟨0x50, 4, 1, .rwl, false, 0x0, 0xFFFF, 0xFFFF, false⟩,
   ⟨0x54, 4, 1, .rwl, false, 0x0, 0xFFFFFFFF, 0xFFFFFFFF, false⟩,
   ⟨0x58, 4, 1, .rwl, false, 0x0, 0xFFFFFFFF, 0xFFFFFFFF, false⟩,
   ⟨0x5C, 4, 1, .rwl, false, 0x5A505A50, 0xFFFFFFFF, 0xFFFFFFFF, false⟩,
   ⟨0x60, 4, 1, .rwl, false, 0x1405C0, 0xFF3FFF, 0xFF3FFF, false⟩,
   ⟨0x64, 4, 1, .rwl, false, 0x4000, 0xFF3F, 0xFF3F, false⟩,
   ⟨0x800, 4, 1, .ro, false, 0x0, 0x3, 0x0, false⟩,
   ⟨0x804, 4, 1, .ro, false, 0x0, 0xFFFFFFFF, 0x0, false⟩,
   ⟨0x808, 4, 1, .rc, false, 0x0, 0xFFFF, 0xFFFF, false⟩,
   ⟨0x80C, 4, 1, .rc, false, 0x0, 0xFFFF, 0xFFFF, false⟩,
   ⟨0x810, 4, 1, .ro, false, 0x0, 0xFFFFFFFF, 0x0, false⟩,
   ⟨0x814, 4, 1, .ro, false, 0x0, 0xFFFFFFFF, 0x0, false⟩,
   ⟨0x818, 4, 1, .ro, false, 0x0, 0xFFFFFFFF, 0x0, false⟩,
   ⟨0x81C, 4, 1, .ro, false, 0x0, 0xFFFFFFFF, 0x0, false⟩,
   ⟨0x820, 4, 1, .ro, false, 0x0, 0xFFFFFFFF, 0x0, false⟩,
   ⟨0x824, 4, 1, .ro, false, 0x0, 0xFFFFFFFF, 0x0, false⟩]

/-- The register map of IDX pages. -/
def rows_idx : List RegRow :=
  [⟨0x40, 4, 1, .rwl, false, 0x44000, 0xFFFF03, 0xFFFF03, false⟩,
   ⟨0x44, 4, 1, .rwl, false, 0x640004, 0xFFFFFFFF, 0xFFFFFFFF, false⟩,
   ⟨0x80, 4, 1, .rwl, false, 0x0, 0xF, 0xF, true⟩,
   ⟨0x84, 4, 1, .rwl, false, 0x0, 0xFF, 0xFF, true⟩,
   ⟨0x88, 4, 8, .rwl, false, 0x0, 0x77, 0x77, true⟩,
   ⟨0x800, 4, 1, .ro, false, 0x0, 0xFF3377, 0x0, false⟩,
   ⟨0x804, 4, 1, .ro, false, 0x0, 0xFFFFFFFF, 0x0, false⟩,
   ⟨0x808, 4, 1, .ro, false, 0x0, 0xFFFFFFFF, 0x0, false⟩,
   ⟨0x80C, 4, 1, .ro, false, 0x0, 0x1F1F, 0x0, false⟩,
   ⟨0x810, 4, 1, .rc, false, 0x0, 0xFFFF, 0xFFFF, false⟩,
   ⟨0x814, 4, 1, .rc, false, 0x0, 0xFFFF, 0xFFFF, false⟩,
   ⟨0x818, 4, 1, .rc, false, 0x0, 0xFFFF, 0xFFFF, false⟩,
   ⟨0x81C, 4, 1, .ro, false, 0x0, 0xFF, 0x0, false⟩,
   ⟨0x820, 4, 1, .ro, false, 0x0, 0xFFFFFFFF, 0x0, false⟩,
   ⟨0x824, 4, 1, .ro, false, 0x0, 0xFFFFFFFF, 0x0, false⟩,
   ⟨0x828, 4, 1, .rc, false, 0x0, 0xFFFF, 0xFFFF, false⟩,
   ⟨0x82C, 4, 1, .ro, false, 0x0, 0xFFFFFFFF, 0x0, false⟩]

/-- The register map of DBG pages. -/
def rows_dbg : List RegRow :=
  [⟨0x40, 4, 1, .rw, false, 0x1, 0x3, 0x3, false⟩,
   ⟨0x800, 4, 1, .ro, false, 0x0, 0xFF0F, 0x0, false⟩,
   ⟨0x804, 4, 1, .ro, false, 0x0, 0xFFFFFFFF, 0x0, false⟩,
   ⟨0x808, 4, 1, .ro, false, 0x0, 0xFFFFFFFF, 0x0, false⟩,
   ⟨0x80C, 4, 1, .rw, false, 0x0, 0xFFFFFFFF, 0xFFFFFFFF, false⟩,
   ⟨0x810, 4, 1, .rw, false, 0x0, 0xFFFFFFFF, 0xFFFFFFFF, false⟩,
   ⟨0x814, 4, 1, .rc, false, 0x0, 0xFFFF, 0xFFFF, false⟩,
   ⟨0x818, 4, 1, .rw, false, 0x0, 0xFFFFFFFF, 0xFFFFFFFF, false⟩,
   ⟨0x81C, 4, 1, .rw, false, 0x0, 0xFFFFFFFF, 0xFFFFFFFF, false⟩]

/-- The register map of a kind. -/
def Kind.rows : Kind → List RegRow
  | .sys => rows_sys
  | .pwr => rows_pwr
  | .rind => rows_rind
  | .hostif => rows_hostif
  | .cmdq => rows_cmdq
  | .tb => rows_tb
  | .iu => rows_iu
  | .wu => rows_wu
  | .wux => rows_wux
  | .wus => rows_wus
  | .ang => rows_ang
  | .angMap => rows_angMap
  | .angQuota => rows_angQuota
  | .angPeek => rows_angPeek
  | .pchg => rows_pchg
  | .pwm => rows_pwm
  | .trip => rows_trip
  | .pinmux => rows_pinmux
  | .pinmuxX => rows_pinmuxX
  | .adc => rows_adc
  | .adcs => rows_adcs
  | .tdac => rows_tdac
  | .rsmp => rows_rsmp
  | .rsml => rows_rsml
  | .cl => rows_cl
  | .clt => rows_clt
  | .press => rows_press
  | .whey => rows_whey
  | .eth => rows_eth
  | .idx => rows_idx
  | .dbg => rows_dbg

/-- The line that holds an offset. -/
def findRow : List RegRow → Nat → Option RegRow
  | [], _ => none
  | r :: t, o =>
    if r.off ≤ o ∧ (o - r.off) % r.stride = 0 ∧ (o - r.off) / r.stride < r.count then some r else findRow t o

/-- The kind of the page with a number; none for a reserved page (R30). -/
def pageKind (p : Nat) : Option Kind :=
  match p with
  | 0x000 => some .sys | 0x001 => some .pwr | 0x002 => some .rind | 0x003 => some .hostif | 0x004 => some .cmdq
  | 0x005 => some .tb | 0x028 => some .ang | 0x029 => some .angMap | 0x02A => some .angQuota | 0x02B => some .angPeek
  | 0x04A => some .trip | 0x04B => some .pinmux | 0x04C => some .pinmuxX | 0x058 => some .rsmp | 0x059 => some .tdac
  | 0x070 => some .press | 0x078 => some .whey | 0x07A => some .eth | 0x07B => some .eth
  | 0x07C => some .idx | 0x07D => some .idx | 0x07E => some .dbg
  | p =>
    if 0x010 ≤ p ∧ p ≤ 0x017 then some .iu
    else if 0x020 ≤ p ∧ p ≤ 0x027 then some .wu
    else if 0x030 ≤ p ∧ p ≤ 0x039 then some .pchg
    else if 0x040 ≤ p ∧ p ≤ 0x049 then some .pwm
    else if 0x050 ≤ p ∧ p ≤ 0x054 then some .adc
    else if 0x060 ≤ p ∧ p ≤ 0x06F then some .cl
    else if 0x080 ≤ p ∧ p ≤ 0x08F then some .clt
    else if 0x090 ≤ p ∧ p ≤ 0x097 then some .wux
    else if 0x098 ≤ p ∧ p ≤ 0x09F then some .wus
    else if 0x0A0 ≤ p ∧ p ≤ 0x0A4 then some .adcs
    else if 0x0A8 ≤ p ∧ p ≤ 0x0AF then some .rsml
    else none

/-- The number of a page within its block: PAGE_ID.INST (R33). -/
def pageInst (p : Nat) : Nat :=
  match pageKind p with
  | some .iu => p - 0x010 | some .wu => p - 0x020 | some .angMap => 1 | some .angQuota => 2 | some .angPeek => 3
  | some .pchg => p - 0x030 | some .pwm => p - 0x040 | some .pinmuxX => 1 | some .adc => p - 0x050
  | some .cl => p - 0x060 | some .clt => p - 0x080 | some .wux => p - 0x090 | some .wus => p - 0x098
  | some .adcs => p - 0x0A0 | some .rsml => p - 0x0A8 | some .eth => p - 0x07A | some .idx => p - 0x07C
  | _ => 0

/-- PAGE_ID.TYPE of a kind (R30). -/
def Kind.type : Kind → Nat
  | .sys => 0x0000 | .pwr => 0x0001 | .rind => 0x0002 | .hostif => 0x0003 | .cmdq => 0x0004 | .tb => 0x0005
  | .iu => 0x0010 | .wu => 0x0020 | .ang => 0x0028 | .angMap => 0x0028 | .angQuota => 0x0028 | .angPeek => 0x0028
  | .pchg => 0x0030 | .pwm => 0x0040 | .trip => 0x004A | .pinmux => 0x004B | .pinmuxX => 0x004B | .adc => 0x0050
  | .rsmp => 0x0058 | .tdac => 0x0059 | .cl => 0x0060 | .press => 0x0070 | .whey => 0x0078 | .eth => 0x007A
  | .idx => 0x007C | .dbg => 0x007E | .clt => 0x0160 | .wux => 0x0120 | .wus => 0x0220 | .adcs => 0x0150
  | .rsml => 0x0158

/-- The base page of the block that a page belongs to (R31). -/
def basePage (p : Nat) : Nat :=
  match pageKind p with
  | some .iu => 0x010 | some .ang => 0x028 | some .angMap => 0x028 | some .angQuota => 0x028 | some .angPeek => 0x028
  | some .pinmuxX => 0x04B | some .clt => p - 0x020 | some .wux => p - 0x070 | some .wus => p - 0x078
  | some .adcs => p - 0x050 | some .rsml => 0x058
  | _ => p

/-- A secondary page (R31). -/
def isSecondary (p : Nat) : Bool := basePage p != p

/-- The secondary pages of a base page (R31). -/
def secondaryPages (p : Nat) : List Nat :=
  match pageKind p with
  | some .iu => if p = 0x010 then [0x011, 0x012, 0x013, 0x014, 0x015, 0x016, 0x017] else []
  | some .ang => [0x029, 0x02A, 0x02B] | some .pinmux => [0x04C]
  | some .wu => [p + 0x070, p + 0x078] | some .adc => [p + 0x050] | some .cl => [p + 0x020]
  | some .rsmp => [0x0A8, 0x0A9, 0x0AA, 0x0AB, 0x0AC, 0x0AD, 0x0AE, 0x0AF]
  | _ => []

/-- The pages of a block: its base page and its secondary pages. -/
def blockPages (p : Nat) : List Nat := p :: secondaryPages p

/-- All base pages, ascending (R30, R31). -/
def basePages : List Nat :=
  [0x000, 0x001, 0x002, 0x003, 0x004, 0x005, 0x010, 0x020, 0x021, 0x022, 0x023, 0x024, 0x025, 0x026, 0x027, 0x028] ++
  [0x030, 0x031, 0x032, 0x033, 0x034, 0x035, 0x036, 0x037, 0x038, 0x039] ++
  [0x040, 0x041, 0x042, 0x043, 0x044, 0x045, 0x046, 0x047, 0x048, 0x049, 0x04A, 0x04B] ++
  [0x050, 0x051, 0x052, 0x053, 0x054, 0x058, 0x059] ++
  [0x060, 0x061, 0x062, 0x063, 0x064, 0x065, 0x066, 0x067, 0x068, 0x069, 0x06A, 0x06B, 0x06C, 0x06D, 0x06E, 0x06F] ++
  [0x070, 0x078, 0x07A, 0x07B, 0x07C, 0x07D, 0x07E]

/-- The line of the register map that holds a BAR0 offset outside the page header. -/
def regRow (a : Nat) : Option RegRow :=
  match pageKind (a / 4096) with
  | none => none
  | some k =>
    match findRow k.rows (a % 4096) with
    | none => none
    | some r => if r.first ∧ pageInst (a / 4096) ≠ 0 then none else some r

/-- The value of a register outside the page header after BOOT (R8), by BAR0 offset. Registers whose reset depends on their place:
WCFG (R110), ROLECFG (R189), MASK0 and ROUTE0 of IU0 and HTCFG (R277), MODMAP (R260). -/
def blockReset (a : Nat) : Word :=
  if a = 0x010040 then 0xFFFFFFE0
  else if a = 0x010080 then 0x00011111
  else if a = 0x010220 ∨ a = 0x010240 ∨ a = 0x010260 then 0
  else if 0x04C800 ≤ a ∧ a < 0x04C828 ∧ a % 4 = 0 then BitVec.ofNat 32 ((a - 0x04C800) / 4)
  else if a = 0x06F040 then 0x100
  else if a % 4096 = 0x040 ∧ 0x060 ≤ a / 4096 ∧ a / 4096 ≤ 0x06E then BitVec.ofNat 32 (a / 4096 - 0x060)
  else if a % 4096 = 0x040 ∧ 0x020 ≤ a / 4096 ∧ a / 4096 ≤ 0x027 then BitVec.ofNat 32 (0x00023C00 + (a / 4096 - 0x020) * 2 ^ 20)
  else
    match regRow a with
    | none => 0
    | some r => BitVec.ofNat 32 r.reset

/-- PAGE_CFGCRC after BOOT: the CRC of the reset configuration (R33, R36). -/
def crcReset (p : Nat) : Word :=
  crc32 ((List.range 496).flatMap (fun i => wordBytes (blockReset (p * 4096 + 0x040 + 4 * i))))

/-- The value of a register after BOOT (R8), by BAR0 offset. -/
def regReset (a : Nat) : Word :=
  if a % 4096 = 0x014 then (if (pageKind (a / 4096)).isSome then crcReset (a / 4096) else 0) else blockReset a

end Sys2Proof.Machine
end

