-- ==== Sys2Proof/Machine/Offsets.lean ====
section
/-! DEFINITION. The offsets of the registers inside their pages, named BLOCK and register as the maps name them; a repeated
register takes its index (the maps that Regs.lean holds). -/

namespace Sys2Proof.Machine.Off

abbrev sys_ARMCFG : Nat := 0x40
abbrev sys_HOSTWD : Nat := 0x44
abbrev sys_LIVE (i : Nat) : Nat := 0x50 + 4 * i
abbrev sys_DEVID : Nat := 0x800
abbrev sys_MODE : Nat := 0x804
abbrev sys_BOOTSTAT : Nat := 0x808
abbrev sys_LIMPCAUSE : Nat := 0x80C
abbrev sys_SAFECAUSE : Nat := 0x810
abbrev sys_CFGREPCNT : Nat := 0x814
abbrev sys_WDKICK : Nat := 0x818
abbrev sys_MODETB_LO : Nat := 0x820
abbrev sys_MODETB_HI : Nat := 0x824
abbrev sys_CFGREP (i : Nat) : Nat := 0x900 + 4 * i
abbrev pwr_DOMSEL : Nat := 0x40
abbrev pwr_TEMPCFG : Nat := 0x44
abbrev pwr_WAKETMR : Nat := 0x48
abbrev pwr_WAKESRC : Nat := 0x4C
abbrev pwr_DOMSTAT (i : Nat) : Nat := 0x800 + 4 * i
abbrev pwr_SUPSTAT : Nat := 0x840
abbrev pwr_TEMP : Nat := 0x844
abbrev pwr_HOTTIME : Nat := 0x848
abbrev pwr_RESETCAUSE : Nat := 0x84C
abbrev pwr_SUPEVT : Nat := 0x850
abbrev rind_REVCEIL : Nat := 0x40
abbrev rind_HOMMAP (i : Nat) : Nat := 0x44 + 4 * i
abbrev rind_ENGID_LO : Nat := 0x58
abbrev rind_ENGID_HI : Nat := 0x5C
abbrev rind_LEVEL : Nat := 0x800
abbrev rind_BUDGET : Nat := 0x804
abbrev rind_LOGCNT : Nat := 0x808
abbrev rind_REFLOST : Nat := 0x80C
abbrev rind_HALTCNT : Nat := 0x810
abbrev rind_AUTHST : Nat := 0x814
abbrev rind_DEVUID_LO : Nat := 0x818
abbrev rind_DEVUID_HI : Nat := 0x81C
abbrev rind_TEAMKID_LO : Nat := 0x820
abbrev rind_TEAMKID_HI : Nat := 0x824
abbrev rind_SCRKID_LO : Nat := 0x828
abbrev rind_SCRKID_HI : Nat := 0x82C
abbrev rind_DEVKID_LO : Nat := 0x830
abbrev rind_DEVKID_HI : Nat := 0x834
abbrev rind_NONCE_LO : Nat := 0x838
abbrev rind_NONCE_HI : Nat := 0x83C
abbrev rind_RESP_LO : Nat := 0x840
abbrev rind_RESP_HI : Nat := 0x844
abbrev rind_PKGADR_LO : Nat := 0x848
abbrev rind_PKGADR_HI : Nat := 0x84C
abbrev rind_PKGLEN : Nat := 0x850
abbrev rind_CHGAUTH : Nat := 0x854
abbrev rind_LOGIDX : Nat := 0x858
abbrev rind_KEYSTAT : Nat := 0x860
abbrev rind_ROLEMAP (i : Nat) : Nat := 0x870 + 4 * i
abbrev rind_LOGDATA (i : Nat) : Nat := 0x880 + 4 * i
abbrev rind_DEVPUB (i : Nat) : Nat := 0x8C0 + 4 * i
abbrev rind_TEAMKEY (i : Nat) : Nat := 0x900 + 4 * i
abbrev rind_SCRKEY (i : Nat) : Nat := 0x910 + 4 * i
abbrev hostif_WSEQ : Nat := 0x800
abbrev hostif_PWELCNT : Nat := 0x804
abbrev hostif_PWELLOST : Nat := 0x808
abbrev hostif_PWELPOP : Nat := 0x80C
abbrev hostif_PWEL_STAT : Nat := 0x810
abbrev hostif_PWEL_ADDR : Nat := 0x814
abbrev hostif_PWEL_DATA : Nat := 0x818
abbrev hostif_PWEL_TB_LO : Nat := 0x820
abbrev hostif_PWEL_TB_HI : Nat := 0x824
abbrev hostif_TBLATP : Nat := 0x830
abbrev hostif_TBLATS : Nat := 0x834
abbrev hostif_HCFG : Nat := 0x40
abbrev hostif_PCIESTAT : Nat := 0x840
abbrev hostif_DMAERR : Nat := 0x844
abbrev hostif_DMAERRCNT : Nat := 0x848
abbrev hostif_SPISTAT : Nat := 0x84C
abbrev hostif_SPIERR : Nat := 0x850
abbrev hostif_BAR2REJ : Nat := 0x854
abbrev cmdq_CRBASE_LO : Nat := 0x40
abbrev cmdq_CRBASE_HI : Nat := 0x44
abbrev cmdq_CRSIZE : Nat := 0x48
abbrev cmdq_CPBASE_LO : Nat := 0x4C
abbrev cmdq_CPBASE_HI : Nat := 0x50
abbrev cmdq_CPSIZE : Nat := 0x54
abbrev cmdq_CRHEAD : Nat := 0x800
abbrev cmdq_CRTAIL : Nat := 0x804
abbrev cmdq_CPHEAD : Nat := 0x808
abbrev cmdq_CPTAIL : Nat := 0x80C
abbrev cmdq_OUTST : Nat := 0x810
abbrev tb_TICKCFG : Nat := 0x40
abbrev tb_TICKPHASE : Nat := 0x44
abbrev tb_SLOWCFG : Nat := 0x48
abbrev tb_MATCH_LO (i : Nat) : Nat := 0x50 + 8 * i
abbrev tb_MATCH_HI (i : Nat) : Nat := 0x54 + 8 * i
abbrev tb_NOW_LO : Nat := 0x800
abbrev tb_NOW_HI : Nat := 0x804
abbrev tb_TICKNUM : Nat := 0x808
abbrev tb_MATCHARM : Nat := 0x80C
abbrev tb_RESYNCERR : Nat := 0x810
abbrev tb_SLOWRATIO : Nat := 0x814
abbrev tb_DORMSLOW_LO : Nat := 0x818
abbrev tb_DORMSLOW_HI : Nat := 0x81C
abbrev tb_RESYNC : Nat := 0x820
abbrev tb_SLOWSTAT : Nat := 0x824
abbrev iu_MASK (i : Nat) : Nat := 0x40 + 4 * i
abbrev iu_ROUTE (i : Nat) : Nat := 0x80 + 4 * i
abbrev iu_HTCFG (i : Nat) : Nat := 0x200 + 32 * i
abbrev iu_HOLD (i : Nat) : Nat := 0x204 + 32 * i
abbrev iu_QBASE_LO (i : Nat) : Nat := 0x208 + 32 * i
abbrev iu_QBASE_HI (i : Nat) : Nat := 0x20C + 32 * i
abbrev iu_QSIZE (i : Nat) : Nat := 0x210 + 32 * i
abbrev iu_GHOLD (i : Nat) : Nat := 0x300 + 4 * i
abbrev iu_WAKECFG : Nat := 0x380
abbrev iu_TGTSEL : Nat := 0x384
abbrev iu_PEND (i : Nat) : Nat := 0x800 + 4 * i
abbrev iu_CNT (i : Nat) : Nat := 0xA00 + 4 * i
abbrev iu_PENDTOP (i : Nat) : Nat := 0xC00 + 32 * i
abbrev iu_EOI (i : Nat) : Nat := 0xC04 + 32 * i
abbrev iu_QTAIL (i : Nat) : Nat := 0xC08 + 32 * i
abbrev iu_QHEAD (i : Nat) : Nat := 0xC0C + 32 * i
abbrev iu_TSTAT (i : Nat) : Nat := 0xC10 + 32 * i
abbrev iu_TIDLE (i : Nat) : Nat := 0xC14 + 32 * i
abbrev iu_RAISE : Nat := 0xD00
abbrev iu_CNTDEC : Nat := 0xD04
abbrev iu_SATLOST : Nat := 0xD08
abbrev iu_WAKESTAT : Nat := 0xD0C
abbrev wu_WCFG : Nat := 0x40
abbrev wu_VRCFG : Nat := 0x44
abbrev wu_FILTCFG : Nat := 0x48
abbrev wu_GAPCFG : Nat := 0x4C
abbrev wu_NORMCFG : Nat := 0x50
abbrev wu_AFTCFG : Nat := 0x54
abbrev wu_SYNCCFG : Nat := 0x58
abbrev wu_STALLCFG : Nat := 0x5C
abbrev wu_TDCOFS : Nat := 0x60
abbrev wu_SECACFG : Nat := 0x64
abbrev wu_SECBCFG : Nat := 0x68
abbrev wu_CAMTOL : Nat := 0x6C
abbrev wu_DIRWIN : Nat := 0x70
abbrev wu_DIRCFG : Nat := 0x74
abbrev wu_LRNCFG : Nat := 0x78
abbrev wu_QCFG : Nat := 0x7C
abbrev wu_QMOD : Nat := 0x80
abbrev wu_SYNCFG : Nat := 0x84
abbrev wu_SYNCST : Nat := 0x800
abbrev wu_LASTTB_LO : Nat := 0x804
abbrev wu_LASTTB_HI : Nat := 0x808
abbrev wu_LASTPER : Nat := 0x80C
abbrev wu_SPEED : Nat := 0x810
abbrev wu_AMPL : Nat := 0x814
abbrev wu_ERRCNT : Nat := 0x818
abbrev wu_LOSSCNT : Nat := 0x81C
abbrev wu_CAMAANG : Nat := 0x820
abbrev wu_CAMBANG : Nat := 0x824
abbrev wu_ERRBND : Nat := 0x828
abbrev wu_QPOS : Nat := 0x82C
abbrev wu_QSTAT : Nat := 0x830
abbrev wu_QIDXPOS : Nat := 0x834
abbrev wu_QPOSSET : Nat := 0x838
abbrev wu_SYNSTAT : Nat := 0x83C
abbrev wu_LRNSTAT : Nat := 0x840
abbrev wux_CAMA (i : Nat) : Nat := 0x40 + 4 * i
abbrev wux_CAMB (i : Nat) : Nat := 0xC0 + 4 * i
abbrev wux_TERR (i : Nat) : Nat := 0x800 + 4 * i
abbrev wus_PROF : Nat := 0x40
abbrev wus_SEG (i : Nat) : Nat := 0x44 + 4 * i
abbrev ang_CALCFG : Nat := 0x40
abbrev ang_PREDCFG : Nat := 0x44
abbrev ang_CANTAG : Nat := 0x60
abbrev ang_CANSEL : Nat := 0x64
abbrev ang_CALSTAT : Nat := 0x800
abbrev ang_DRAINSTAT : Nat := 0x804
abbrev ang_SPILLCNT : Nat := 0x808
abbrev ang_LATECNT : Nat := 0x80C
abbrev ang_OVFCNT : Nat := 0x810
abbrev ang_CPLWAIT : Nat := 0x814
abbrev ang_SYNCCAN : Nat := 0x818
abbrev ang_EVW0 : Nat := 0x840
abbrev ang_EVW1 : Nat := 0x844
abbrev ang_EVW2 : Nat := 0x848
abbrev ang_EVW3 : Nat := 0x84C
abbrev angMap_MAPSTAT (i : Nat) : Nat := 0x800 + 64 * i
abbrev angMap_MAPT0_LO (i : Nat) : Nat := 0x804 + 64 * i
abbrev angMap_MAPT0_HI (i : Nat) : Nat := 0x808 + 64 * i
abbrev angMap_MAPA0 (i : Nat) : Nat := 0x80C + 64 * i
abbrev angMap_MAPA1 (i : Nat) : Nat := 0x810 + 64 * i
abbrev angMap_SLOPE (i : Nat) : Nat := 0x814 + 64 * i
abbrev angMap_ACCEST (i : Nat) : Nat := 0x818 + 64 * i
abbrev angMap_HORIZ (i : Nat) : Nat := 0x81C + 64 * i
abbrev angMap_DELTA (i : Nat) : Nat := 0x820 + 64 * i
abbrev angQuota_ROLEQUOTA (i : Nat) : Nat := 0x40 + 4 * i
abbrev angQuota_ROLECNT (i : Nat) : Nat := 0x800 + 4 * i
abbrev angPeek_PEEKH : Nat := 0x40
abbrev angPeek_PEEKD (i : Nat) : Nat := 0x800 + 4 * i
abbrev angPeek_PEEKST : Nat := 0x810
abbrev pchg_CHCFG (i : Nat) : Nat := 0x40 + 64 * i
abbrev pchg_CNTCFG (i : Nat) : Nat := 0x44 + 64 * i
abbrev pchg_CNTTOP (i : Nat) : Nat := 0x48 + 64 * i
abbrev pchg_CNTMATCH (i : Nat) : Nat := 0x4C + 64 * i
abbrev pchg_BLANKWIN (i : Nat) : Nat := 0x50 + 64 * i
abbrev pchg_CHINTEN (i : Nat) : Nat := 0x54 + 64 * i
abbrev pchg_CHSEL : Nat := 0x440
abbrev pchg_STAGCFG : Nat := 0x444
abbrev pchg_CHSTAT (i : Nat) : Nat := 0x800 + 128 * i
abbrev pchg_CMPSTG_LO (i : Nat) : Nat := 0x804 + 128 * i
abbrev pchg_CMPSTG_HI (i : Nat) : Nat := 0x808 + 128 * i
abbrev pchg_CMPSTG_DUR (i : Nat) : Nat := 0x80C + 128 * i
abbrev pchg_CMPSTG_KIND (i : Nat) : Nat := 0x810 + 128 * i
abbrev pchg_CMPQ (i : Nat) : Nat := 0x814 + 128 * i
abbrev pchg_CMPHEAD_LO (i : Nat) : Nat := 0x818 + 128 * i
abbrev pchg_CMPHEAD_HI (i : Nat) : Nat := 0x81C + 128 * i
abbrev pchg_CMPLATECNT (i : Nat) : Nat := 0x820 + 128 * i
abbrev pchg_CAPPOP (i : Nat) : Nat := 0x824 + 128 * i
abbrev pchg_CAPH_TB_LO (i : Nat) : Nat := 0x828 + 128 * i
abbrev pchg_CAPH_TB_HI (i : Nat) : Nat := 0x82C + 128 * i
abbrev pchg_CAPH_ANG (i : Nat) : Nat := 0x830 + 128 * i
abbrev pchg_CAPQ (i : Nat) : Nat := 0x834 + 128 * i
abbrev pchg_CAPLOST (i : Nat) : Nat := 0x838 + 128 * i
abbrev pchg_CNTVAL (i : Nat) : Nat := 0x83C + 128 * i
abbrev pwm_MCFG : Nat := 0x40
abbrev pwm_PER : Nat := 0x44
abbrev pwm_SYNCPT : Nat := 0x48
abbrev pwm_SYNCOFS : Nat := 0x4C
abbrev pwm_BLKCFG : Nat := 0x50
abbrev pwm_SUBSEL : Nat := 0x54
abbrev pwm_PAIRCFG (i : Nat) : Nat := 0x60 + 4 * i
abbrev pwm_DT (i : Nat) : Nat := 0x70 + 4 * i
abbrev pwm_TRIPSEL (i : Nat) : Nat := 0x80 + 4 * i
abbrev pwm_CMP (i : Nat) : Nat := 0xA0 + 4 * i
abbrev pwm_CHCFG (i : Nat) : Nat := 0xC0 + 4 * i
abbrev pwm_CNT : Nat := 0x800
abbrev pwm_MSTAT : Nat := 0x804
abbrev pwm_PERCNT : Nat := 0x808
abbrev pwm_CUTCNT : Nat := 0x80C
abbrev trip_TRIPCFG (i : Nat) : Nat := 0x40 + 4 * i
abbrev trip_TRIPLVL : Nat := 0x800
abbrev trip_TRIPSEEN : Nat := 0x804
abbrev trip_TRIPCNT (i : Nat) : Nat := 0x840 + 4 * i
abbrev pinmux_PINSEL (i : Nat) : Nat := 0x40 + 4 * i
abbrev pinmuxX_MODMAP (i : Nat) : Nat := 0x800 + 4 * i
abbrev pinmuxX_FORCESTAT : Nat := 0x830
abbrev adc_CORECFG : Nat := 0x40
abbrev adc_ENMASK : Nat := 0x44
abbrev adc_SEQCTL : Nat := 0x48
abbrev adc_URGCFG : Nat := 0x50
abbrev adc_URGSEL : Nat := 0x54
abbrev adc_SUBSEL : Nat := 0x58
abbrev adc_TRGCFG (i : Nat) : Nat := 0x60 + 8 * i
abbrev adc_TRGDLY (i : Nat) : Nat := 0x64 + 8 * i
abbrev adc_RINGCFG (i : Nat) : Nat := 0x100 + 16 * i
abbrev adc_RINGBASE_LO (i : Nat) : Nat := 0x104 + 16 * i
abbrev adc_RINGBASE_HI (i : Nat) : Nat := 0x108 + 16 * i
abbrev adc_RINGWM (i : Nat) : Nat := 0x10C + 16 * i
abbrev adc_CORESTAT : Nat := 0x800
abbrev adc_SEQN : Nat := 0x804
abbrev adc_TRGOVR : Nat := 0x808
abbrev adc_URGLOST : Nat := 0x80C
abbrev adc_REFCFG : Nat := 0x810
abbrev adc_CALOFS (i : Nat) : Nat := 0x820 + 4 * i
abbrev adc_CALGAIN (i : Nat) : Nat := 0x830 + 4 * i
abbrev adc_CALSTG (i : Nat) : Nat := 0x840 + 4 * i
abbrev adc_RINGWP (i : Nat) : Nat := 0x900 + 16 * i
abbrev adc_RINGRP (i : Nat) : Nat := 0x904 + 16 * i
abbrev adc_RINGLOST (i : Nat) : Nat := 0x908 + 16 * i
abbrev adcs_SEQA (i : Nat) : Nat := 0x40 + 8 * i
abbrev adcs_SEQB (i : Nat) : Nat := 0x44 + 8 * i
abbrev tdac_TDCFG : Nat := 0x40
abbrev tdac_TDCMP : Nat := 0x44
abbrev tdac_TDEXP : Nat := 0x48
abbrev tdac_TDSTAT : Nat := 0x800
abbrev tdac_TDDEV : Nat := 0x804
abbrev rsmp_LANESEL : Nat := 0x40
abbrev rsmp_WINOPEN : Nat := 0x800
abbrev rsmp_RDYTICK : Nat := 0x804
abbrev rsmp_PARTCNT : Nat := 0x808
abbrev rsml_LCFG (i : Nat) : Nat := 0x40 + 32 * i
abbrev rsml_STEP (i : Nat) : Nat := 0x44 + 32 * i
abbrev rsml_WSTART (i : Nat) : Nat := 0x48 + 32 * i
abbrev rsml_WEND (i : Nat) : Nat := 0x4C + 32 * i
abbrev rsml_RING (i : Nat) : Nat := 0x50 + 32 * i
abbrev rsml_RWP (i : Nat) : Nat := 0x800 + 32 * i
abbrev rsml_RRP (i : Nat) : Nat := 0x804 + 32 * i
abbrev rsml_RLOST (i : Nat) : Nat := 0x808 + 32 * i
abbrev rsml_LSTAT (i : Nat) : Nat := 0x80C + 32 * i
abbrev rsml_WINCNT (i : Nat) : Nat := 0x810 + 32 * i
abbrev cl_ROLECFG : Nat := 0x40
abbrev cl_PAIRCFG : Nat := 0x44
abbrev cl_CSCFG : Nat := 0x48
abbrev cl_BNCCFG : Nat := 0x4C
abbrev cl_EVSEL (i : Nat) : Nat := 0x50 + 4 * i
abbrev cl_TASKSEL : Nat := 0x80
abbrev cl_ENGSEL : Nat := 0x84
abbrev cl_CLSTAT : Nat := 0x800
abbrev cl_PAIRSTAT : Nat := 0x804
abbrev cl_ENGSTAT : Nat := 0x808
abbrev cl_OVRCNT : Nat := 0x80C
abbrev cl_MSGSTAT : Nat := 0x810
abbrev cl_BNCLOST : Nat := 0x814
abbrev cl_MCLOG_STAT : Nat := 0x818
abbrev cl_MCLOG_TB_LO : Nat := 0x81C
abbrev cl_MCLOG_TB_HI : Nat := 0x820
abbrev cl_MCLOGPOP : Nat := 0x824
abbrev cl_MCLOST : Nat := 0x828
abbrev clt_TASKCFG (i : Nat) : Nat := 0x40 + 4 * i
abbrev clt_TASKST (i : Nat) : Nat := 0x800 + 8 * i
abbrev clt_TASKW (i : Nat) : Nat := 0x804 + 8 * i
abbrev press_CLMASK : Nat := 0x40
abbrev press_IMGADR_LO : Nat := 0x44
abbrev press_IMGADR_HI : Nat := 0x48
abbrev press_IMGLEN : Nat := 0x4C
abbrev press_SWCFG : Nat := 0x50
abbrev press_BANKST : Nat := 0x800
abbrev press_INACTST : Nat := 0x804
abbrev press_REPSTAT : Nat := 0x808
abbrev press_REPLOG : Nat := 0x80C
abbrev press_LDSTAT : Nat := 0x810
abbrev press_WINREJ : Nat := 0x814
abbrev press_WINST : Nat := 0x818
abbrev whey_CFG : Nat := 0x40
abbrev whey_TRCFG : Nat := 0x44
abbrev whey_TRMASK : Nat := 0x48
abbrev whey_AWP : Nat := 0x800
abbrev whey_ARP : Nat := 0x804
abbrev whey_SWP : Nat := 0x808
abbrev whey_SRP : Nat := 0x80C
abbrev whey_GWP : Nat := 0x810
abbrev whey_GRP : Nat := 0x814
abbrev whey_GSTAT : Nat := 0x818
abbrev whey_COALCNT : Nat := 0x81C
abbrev whey_SUMSTAT : Nat := 0x820
abbrev whey_SUMLOST : Nat := 0x824
abbrev eth_MACCFG : Nat := 0x40
abbrev eth_SRCMAC_LO : Nat := 0x44
abbrev eth_SRCMAC_HI : Nat := 0x48
abbrev eth_DSTMAC_LO : Nat := 0x4C
abbrev eth_DSTMAC_HI : Nat := 0x50
abbrev eth_SRCIP : Nat := 0x54
abbrev eth_DSTIP : Nat := 0x58
abbrev eth_UDPPORT : Nat := 0x5C
abbrev eth_FRMCFG : Nat := 0x60
abbrev eth_IPCFG : Nat := 0x64
abbrev eth_LINKST : Nat := 0x800
abbrev eth_FRAMES : Nat := 0x804
abbrev eth_MISSED : Nat := 0x808
abbrev eth_RXDISC : Nat := 0x80C
abbrev eth_PTPTB_LO : Nat := 0x810
abbrev eth_PTPTB_HI : Nat := 0x814
abbrev eth_PTPNS : Nat := 0x818
abbrev eth_PTPSEC_LO : Nat := 0x81C
abbrev eth_PTPSEC_HI : Nat := 0x820
abbrev eth_PTPRATE : Nat := 0x824
abbrev idx_LCFG : Nat := 0x40
abbrev idx_TMO : Nat := 0x44
abbrev idx_CHAIN : Nat := 0x80
abbrev idx_EXPORT : Nat := 0x84
abbrev idx_IMP (i : Nat) : Nat := 0x88 + 4 * i
abbrev idx_PSTAT : Nat := 0x800
abbrev idx_OFFSET : Nat := 0x804
abbrev idx_LDELAY : Nat := 0x808
abbrev idx_CREDIT : Nat := 0x80C
abbrev idx_CRCERR : Nat := 0x810
abbrev idx_MALFORM : Nat := 0x814
abbrev idx_AUTHFAIL : Nat := 0x818
abbrev idx_QCAUSE : Nat := 0x81C
abbrev idx_TXFRM : Nat := 0x820
abbrev idx_RXFRM : Nat := 0x824
abbrev idx_MSGBNC : Nat := 0x828
abbrev idx_RESIDUAL : Nat := 0x82C
abbrev dbg_DBGCFG : Nat := 0x40
abbrev dbg_DSTAT : Nat := 0x800
abbrev dbg_NONCE_LO : Nat := 0x804
abbrev dbg_NONCE_HI : Nat := 0x808
abbrev dbg_RESP_LO : Nat := 0x80C
abbrev dbg_RESP_HI : Nat := 0x810
abbrev dbg_TAPREFUSE : Nat := 0x814
abbrev dbg_TBPRESET_LO : Nat := 0x818
abbrev dbg_TBPRESET_HI : Nat := 0x81C

end Sys2Proof.Machine.Off
end

