-- ==== Sys2Proof/Machine/Store.lean ====
section
/-! DEFINITION. `Store`: sparse data by key in one canonical form (keys strictly rising, no entry equal to what an
unlisted key reads as), so that equal contents are equal data. Registers, memories and the indexed units live in stores.
Every operation takes the value `d` that an unlisted key reads as. -/

namespace Sys2Proof.Machine

/-- Key and value pairs. -/
abbrev Store (α : Type) := List (Nat × α)

/-- The value at a key; an unlisted key reads as `d`. -/
def Store.get {α : Type} (d : α) : Store α → Nat → α
  | [], _ => d
  | (k', v) :: t, k => if k' = k then v else Store.get d t k

/-- The store without a key. -/
def Store.erase {α : Type} : Store α → Nat → Store α
  | [], _ => []
  | (k', v) :: t, k => if k' = k then Store.erase t k else (k', v) :: Store.erase t k

/-- Put a pair in front of the first key that is greater. -/
def Store.insert {α : Type} : Store α → Nat → α → Store α
  | [], k, v => [(k, v)]
  | (k', v') :: t, k, v => if k < k' then (k, v) :: (k', v') :: t else (k', v') :: Store.insert t k v

/-- Write a key; writing `d` removes the entry. -/
def Store.set {α : Type} [DecidableEq α] (d : α) (m : Store α) (k : Nat) (v : α) : Store α :=
  if v = d then m.erase k else (m.erase k).insert k v

/-- Change the value at a key. -/
def Store.modify {α : Type} [DecidableEq α] (d : α) (m : Store α) (k : Nat) (f : α → α) : Store α :=
  m.set d k (f (m.get d k))

/-- Whether a key is listed. -/
def Store.has {α : Type} : Store α → Nat → Bool
  | [], _ => false
  | (k', _) :: t, k => k' == k || Store.has t k

/-- Keys strictly above a bound and rising. -/
def Store.sortedFrom {α : Type} : Nat → Store α → Bool
  | _, [] => true
  | n, (k, _) :: t => decide (n ≤ k) && Store.sortedFrom (k + 1) t

/-- The canonical form: keys strictly rising, no entry equal to `d`. -/
def Store.wf {α : Type} [DecidableEq α] (d : α) (m : Store α) : Bool :=
  Store.sortedFrom 0 m && m.all (fun p => !decide (p.2 = d))

/-- A list of pairs as a store with the last pair of a key winning. -/
def Store.ofList {α : Type} [DecidableEq α] (d : α) (l : List (Nat × α)) : Store α :=
  l.foldl (fun m p => Store.set d m p.1 p.2) []

end Sys2Proof.Machine
end

