-- ==== Sys2Proof/Machine/Mem.lean ====
section
/-! DEFINITION. Byte-addressed memories: local, shared and sample memory, the Whey buffer and host memory as the device has
written it. A memory lists the bytes that are not 0, by address; an unlisted byte reads 0 (DESIGN CHOICE, log entry 7).
Wider accesses are made of bytes here and nowhere else, the least significant byte at the lowest address (R6). -/

namespace Sys2Proof.Machine

/-- Address and byte pairs in the canonical form of a store. -/
abbrev Memory := List Host.Cell

/-- The byte at an address. -/
def Memory.byte (m : Memory) (a : Nat) : Byte := Store.get 0 m a

/-- Write a byte. -/
def Memory.setByte (m : Memory) (a : Nat) (b : Byte) : Memory := Store.set 0 m a b

/-- The word that holds an address. -/
def Memory.word (m : Memory) (a : Nat) : Word :=
  let a := a / 4 * 4
  bytesWord (m.byte a) (m.byte (a + 1)) (m.byte (a + 2)) (m.byte (a + 3))

/-- Write the word that holds an address. -/
def Memory.setWord (m : Memory) (a : Nat) (w : Word) : Memory :=
  let a := a / 4 * 4
  (((m.setByte a (w.setWidth 8)).setByte (a + 1) ((w >>> 8).setWidth 8)).setByte (a + 2) ((w >>> 16).setWidth 8)).setByte (a + 3)
    ((w >>> 24).setWidth 8)

/-- `n` words from a byte address. -/
def Memory.words (m : Memory) (a n : Nat) : List Word := (List.range n).map (fun i => m.word (a + 4 * i))

/-- Write words from a byte address. -/
def Memory.setWords (m : Memory) (a : Nat) : List Word → Memory
  | [] => m
  | w :: t => (m.setWord a w).setWords (a + 4) t

/-- The canonical form: addresses strictly rising, no byte 0 listed. -/
def Memory.wf (m : Memory) : Bool := Store.wf 0 m

end Sys2Proof.Machine
end

