-- ==== Sys2Proof/Machine/State.lean ====
section
/-! DEFINITION. The state of the block as plain data. Registers live in one store keyed by BAR0 offset; what the
spec gives beside them (queues, counts behind RO views, sessions, partner states) has fields of its own. -/

namespace Sys2Proof.Machine

/-- The tick grid (R15 to R18). -/
structure TickSt where
  /-- TB of the boundary that began the present tick -/
  bnd : Nat := 0
  /-- TB of the next boundary -/
  next : Nat := 4000
  /-- PERIOD in force, in engine cycles -/
  per : Nat := 2000
  /-- PHASE in force, in TB LSBs -/
  phase : Nat := 0
  /-- length of the present tick in engine cycles -/
  len : Nat := 2000
  /-- the guard of the present tick has begun (R26) -/
  guard : Bool := false
  /-- the drain of the present tick has been cut off (R24) -/
  cutoff : Bool := false
deriving DecidableEq, Repr

/-- What PAGE_STATE holds beside the views that are computed (R33). -/
structure PageSt where
  /-- block state code (R37) -/
  st : Nat := 1
  lastCmd : Nat := 0
  prepared : Bool := false
  enpend : Bool := false
deriving DecidableEq, Repr

/-- A command that runs on a page (R42). -/
structure Running where
  code : Nat
  req : Req
  /-- it holds a completion slot (R41, R50) -/
  slot : Bool
  /-- what the command keeps while it runs -/
  data : List Nat
deriving DecidableEq, Repr

/-- A commit in flight: a GROUP_COMMIT, or the group of one page of a COMMIT (R53 to R57). -/
structure Group where
  req : Req
  /-- COMMIT of one page -/
  single : Bool
  part : Bool
  pages : List Nat
  /-- result-array address, 0 for none -/
  addr : Nat
  /-- prepare has ended -/
  ready : Bool
  /-- the pages that failed, with their codes -/
  fails : List (Nat × Nat)
  slot : Bool
deriving DecidableEq, Repr

/-- A posted write in flight (R44). -/
structure Posted where
  seq : Nat
  addr : Nat
  data : Word
  len : Nat
deriving DecidableEq, Repr

/-- An entry of the Posted Write Error Log (R47). -/
structure PwelEntry where
  seq : Nat
  code : Nat
  addr : Nat
  len : Nat
  data : Word
  tb : Nat
deriving DecidableEq, Repr

/-- An MSI-X vector (R304). -/
structure Msix where
  /-- the vector control bit: 1 after a reset of the PCIe function -/
  masked : Bool := true
  pend : Bool := false
  /-- messages sent -/
  sent : Nat := 0
deriving DecidableEq, Repr

/-- The frame that the SPI target reports (R306). -/
structure SpiSt where
  op : Nat := 0
  seq : Nat := 0
  code : Nat := 0
  pend : Bool := false
  data : Word := 0
  /-- the two data words of the last device response -/
  out0 : Word := 0
  out1 : Word := 0
  out2 : Word := 0
deriving DecidableEq, Repr

/-- What the host writes in the PCIe configuration space (R299, R303, R304). -/
structure PcieCfg where
  memSpace : Bool := false
  busMaster : Bool := false
  msixEn : Bool := false
  fmask : Bool := false
  /-- the function is in D3hot -/
  d3 : Bool := false
  bar0 : Word := 0
  bar2 : BitVec 64 := 0
  /-- AER: uncorrectable error status, mask and severity -/
  aer : Word := 0
  aerMask : Word := 0
  aerSev : Word := 0x00062030
deriving DecidableEq, Repr

/-- The host ports (R44 to R47, R62, R299 to R308). -/
structure HostSt where
  /-- number of the last write accepted -/
  acc : Nat := 0
  /-- highest number up to which every write has committed or failed -/
  dn : Nat := 0
  posted : List Posted := []
  pwel : List PwelEntry := []
  /-- the last word that a read returned, per port -/
  rdPcie : Word := 0
  rdSpi : Word := 0
  rdTap : Word := 0
  /-- the bytes that the last BAR2 read returned -/
  bar2 : List Byte := []
  linkUp : Bool := false
  cfg : PcieCfg := {}
  msix : Store Msix := []
  /-- the address and data words of the MSI-X table, by table offset divided by 4 -/
  msixTab : Store Word := []
  spi : SpiSt := {}
deriving DecidableEq, Repr

/-- A write to host memory that waits for Bus Master Enable (R303). -/
inductive HostOwed where
  /-- a result array (R53) -/
  | words (addr : Nat) (ws : List Word)
  /-- a completion record: words 0 and 1, TB, result words (R51) -/
  | record (w0 w1 tb : Nat) (res : List Word)
deriving DecidableEq, Repr

/-- The rings (R48 to R51). -/
structure RingSt where
  /-- PHASE of the next completion record -/
  phase : Bool := true
  /-- the CRTAIL writes whose entries are not all fetched, oldest first: the index written, and the number of the last write
  accepted before it (R50) -/
  pubs : List (Nat × Nat) := []
  /-- what waits to be written, oldest first (R303) -/
  owed : List HostOwed := []
deriving DecidableEq, Repr

/-- An interrupt source (R264 to R266). -/
structure IuSrc where
  cnt : Nat := 0
  pend : Bool := false
  /-- target of the previous assignment -/
  prev : Nat := 3
  asg : Option Nat := none
deriving DecidableEq, Repr

/-- An interrupt target (R267 to R273). -/
structure IuTgt where
  /-- active source of a Full target -/
  active : Option Nat := none
  /-- active queue notification of a Compact target -/
  notif : Bool := false
  busy : Bool := false
  /-- TB at which the hold-off ends -/
  hold : Option Nat := none
  qtail : Nat := 0
  phase : Bool := true
  /-- records wait for the host's write of QHEAD -/
  waitHead : Bool := false
deriving DecidableEq, Repr

/-- What the interrupt unit has met in the present TB clock, by source or target: what meets in one clock is settled together (R264,
R274). -/
structure IuClk where
  /-- counters as they stood before the clock, plus 1; doorbells in it; what CNTDEC takes in it -/
  base : Store Nat := []
  bells : Store Nat := []
  decs : Store Nat := []
  /-- the doorbells in it that were lost at 255, in their order -/
  lost : List Nat := []
  /-- pending bits that the host wrote in it, plus 1 -/
  wrote : Store Nat := []
  /-- targets that have presented in it, and those whose item has ended in it with its source -/
  shown : List Nat := []
  ended : List (Nat × Option Nat) := []
deriving DecidableEq, Repr

/-- The interrupt unit (R262 to R276). -/
structure IuSt where
  /-- what the present clock has brought -/
  clk : IuClk := {}
  /-- doorbells raised that have not reached the unit -/
  flight : List Nat := []
  src : Store IuSrc := []
  tgt : Store IuTgt := []
  /-- TB at which the timer of a group ends (R273) -/
  group : Store Nat := []
  /-- the wake latches (R275) -/
  latch : BitVec 16 := 0
  armed : Bool := false
  /-- latched inputs whose doorbells are due -/
  wakeDue : BitVec 16 := 0
  /-- pins HIDLEn that are held low (R272, R395) -/
  idlePin : BitVec 4 := 0
deriving DecidableEq, Repr

/-- A Whey record before it is numbered (R279). -/
structure WRec where
  /-- 0 ALARM, 1 LOG, 2 TRACE, 3 LOSS -/
  cls : Nat
  origin : Nat
  kind : Nat
  rep : Nat
  tb : Nat
  /-- wheel of the angle stamp, and the stamp if a map gives one -/
  wheel : Nat
  ang : Option Word
  /-- the role of the engine that wrote it (R155) -/
  role : Option Nat := none
  /-- the alarm found neither ring room nor a table entry (R287) -/
  waited : Bool := false
  coal : Bool
  /-- words 6 and up -/
  body : List Word
deriving DecidableEq, Repr

/-- A record, or a pad, that lies in a ring (R285). -/
structure RingRec where
  off : Nat
  len : Nat
  cls : Nat
  pad : Bool
  /-- TB at which Whey took it -/
  tb : Nat := 0
deriving DecidableEq, Repr

/-- A Whey ring (R285, R286): what it holds, oldest first, and how many bytes past its oldest each consumer stands. -/
structure WRing where
  wp : Nat := 0
  recs : List RingRec := []
  host : Nat := 0
  eth0 : Nat := 0
  eth1 : Nat := 0
  /-- freed records of the general ring that nothing has overwritten yet, oldest first (R286) -/
  past : List RingRec := []
deriving DecidableEq, Repr

/-- An entry of the summary table (R288). -/
structure SumEntry where
  cls : Nat := 0
  origin : Nat := 0
  item : Bool := false
  kind : Nat := 0
  count : Nat := 0
  first : Nat := 0
  last : Nat := 0
deriving DecidableEq, Repr

/-- A TRACE stream (R290). -/
structure TrStream where
  origin : Nat
  kind : Nat
  k : Nat
  lost : Nat
deriving DecidableEq, Repr

/-- Whey (R279 to R291). -/
structure WheySt where
  /-- pending alarms, oldest first -/
  alarms : List WRec := []
  /-- the LOG and TRACE queues of all blocks, each with the block that it belongs to -/
  queued : List (Nat × WRec) := []
  coal : List WRec := []
  sums : Store SumEntry := []
  seq0 : Nat := 0
  seq1 : Nat := 0
  seq2 : Nat := 0
  seq3 : Nat := 0
  alarm : WRing := {}
  loss : WRing := {}
  general : WRing := {}
  /-- the 1 MiB buffer, byte by byte (R283) -/
  buf : Memory := []
  streams : List TrStream := []
  decim : Nat := 0
  /-- the loss record owed after a reset of Whey's domain or a warm BOOT: TB of the loss (R296) -/
  owed : Option Nat := none
deriving DecidableEq, Repr

/-- A frame that an Ethernet port has sent (R293). -/
structure EthFrame where
  /-- Ethernet II, IPv4 and UDP headers, in the order of the wire (R292) -/
  head : List Byte
  hdr : List Word
  recs : List (List Word)
deriving DecidableEq, Repr

/-- An Ethernet port (R292 to R297). -/
structure EthSt where
  link : Bool := false
  fseq : Nat := 0
  /-- the frame sent last -/
  last : Option EthFrame := none
  /-- PAUSE holds the transmitter until this TB -/
  pause : Nat := 0
  /-- the last Sync: TB of receipt and announced interval -/
  sync : Option (Nat × Nat) := none
  /-- the previous pair: TB and 802.1AS time in ns -/
  pair : Option (Nat × Int) := none
  /-- meanLinkDelay in ns (R295) -/
  linkDelay : Int := 0
  /-- its own Pdelay_Req sent last: sequence number, TB -/
  sent : Option (Nat × Nat) := none
  /-- the peer-delay exchange that waits for its follow-up: sequence number, then TB of the request, TB of the response and the
  peer's requestReceiptTimestamp in ns -/
  ask : Option (Nat × Nat × Nat × Int) := none
  /-- the last complete exchange: TB of the response, and the peer's responseOriginTimestamp in ns -/
  asked : Option (Nat × Int) := none
  /-- the response sent last: sequence number, TB of the peer's request, TB of the response -/
  answer : Option (Nat × Nat × Nat) := none
deriving DecidableEq, Repr

/-- A power domain (R341, R342). -/
structure DomSt where
  /-- DSTATE: 0 ON, 1 OFF, 2 ISOLATED, 3 RESETTING, 4 REJOINING -/
  st : Nat := 0
  /-- the rejoin work has ended -/
  worked : Bool := false
  /-- TB at which REJOINING began, and once the rejoin work has ended that of its end -/
  since : Nat := 0
  /-- the keep-copy of the configuration regions while the domain rejoins after a DOM_RESET (R377, R378): BAR0 offset, value -/
  keep : List (Nat × Word) := []
  /-- the blocks of the domain when it left ON: base page, state code, ENPEND (R378) -/
  back : List (Nat × Nat × Bool) := []
  /-- the availability logic owes a DOM_RESET (R379) -/
  repair : Bool := false
deriving DecidableEq, Repr

/-- What mode control holds beside the SYS registers (R322 to R339). -/
structure ModeSt where
  /-- a fatal fault was detected; SAFE begins at the next boundary -/
  safeDue : Bool := false
  /-- BOOTSTAT.DONE: CONFIGURE begins at the next boundary -/
  cfgDue : Bool := false
  /-- a recorded LIMP cause that has not been taken -/
  limpDue : Bool := false
  /-- 1 = the ARM checks run, 2 = they passed -/
  arm : Nat := 0
  /-- the engine clock is lost -/
  clockLost : Bool := false
  /-- boundaries counted by the host watchdog -/
  wd : Nat := 0
  /-- wake sources seen: inputs, timer, SPI -/
  wake : Nat := 0
  /-- a brown-out holds the device in reset until VBAT returns above 5.7 V -/
  brown : Bool := false
  /-- what the always-on domain keeps through a brown-out: register and value; none below 2.5 V (R343) -/
  aon : List (Nat × Word) := []
  /-- the rail of the always-on domain has failed: RESET# alone ends the reset (R382) -/
  aonFault : Bool := false
  /-- DORMANT: every domain but the always-on one is off; at the latest when the TB stops (R337) -/
  dark : Bool := false
  /-- supply excursion: 0 inside, 1 low, 2 high, 3 low and 4 high beyond the time limit; and the TB at which it began -/
  exc : Nat := 0
  excTb : Nat := 0
deriving DecidableEq, Repr

/-- A level command whose checks have passed (R352). -/
structure LevelReq where
  code : Nat
  level : Nat
deriving DecidableEq, Repr

/-- A seal package as Rind stores it (R354). -/
structure SealPkg where
  bytes : List Byte
  pages : List Nat
  /-- per covered page its CRC and its configuration region -/
  crcs : List (Nat × Word)
  conf : List (Nat × List Word)
  images : List (BitVec 256)
deriving DecidableEq, Repr

/-- What a seal transition replaces: the level, the keys, the seal store and the role map (R352, R354, R356). -/
structure SealOld where
  level : Nat
  teamKey : BitVec 128
  teamMask : BitVec 4
  scrKey : BitVec 512
  scrMask : BitVec 16
  pkg : Option SealPkg
  terr : List (Nat × Word)
  sealRoles : List (Nat × Nat)
  roleMap : List Word
deriving DecidableEq, Repr

/-- The change that was being written last (R363): its place in the log, and what it replaced. -/
structure Undo where
  entry : Nat
  regs : List (Nat × Word) := []
  old : Option SealOld := none
deriving DecidableEq, Repr

/-- Rind (R350 to R364) and the debug sessions. -/
structure RindSt where
  /-- the team key and which of its words are written -/
  teamKey : BitVec 128 := 0
  teamMask : BitVec 4 := 0
  scrKey : BitVec 512 := 0
  scrMask : BitVec 16 := 0
  /-- nonces drawn so far -/
  draws : Nat := 0
  /-- TB at which the lockout of the host slot and of the TAP slot ends -/
  lockHost : Nat := 0
  lockTap : Nat := 0
  tapFails : Nat := 0
  hostSess : Bool := false
  tapSess : Bool := false
  /-- TB of the clock in which the session of each slot was last ended, plus 1 (R353) -/
  hostEnd : Nat := 0
  tapEnd : Nat := 0
  level : Option LevelReq := none
  /-- the hash that a change token authorises -/
  authHash : Option (BitVec 256) := none
  /-- the values of the limited-change registers at the previous boundary: REVCEIL, HOMMAP0 to 4, ENGID -/
  prev : List Word := []
  /-- the last change of the last boundary (R363) -/
  undo : Option Undo := none
  /-- the change log, oldest first -/
  log : List (List Word) := []
  pkg : Option SealPkg := none
  /-- the snapshot of the TERR tables: WUX page offset and value -/
  terr : List (Nat × Word) := []
  /-- the role map at sealing: cluster to role; 16 marks a reserve -/
  sealRoles : List (Nat × Nat) := []
  /-- SEAL: its package once Rind has verified it, and before that the pages that it covers -/
  sealing : Option SealPkg := none
  sealMask : BitVec 128 := 0
  /-- the rev-ceiling hold is in force (R359) -/
  hold : Bool := false
  portOpen : Bool := true
  /-- the instruction register of the TAP (R365), the boundary cells as they drive the pins and as SAMPLE or EXTEST captured them -/
  ir : Nat := 2
  cells : List Bool := []
  sampled : List Bool := []
  /-- pins: 0 normal, 1 EXTEST or CLAMP drive the cells, 2 HIGHZ -/
  scan : Nat := 0
  /-- the previous DBGACC access, in the layout of its data register -/
  acc : BitVec 72 := 0
  /-- the data register as the last scan shifted it out -/
  dr : BitVec 72 := 0
deriving DecidableEq, Repr

/-- A compare entry (R72). -/
structure CmpEntry where
  tgt : Nat
  kind : Nat
  dur : Nat
  /-- slot of the calendar event it came from; none for a direct push -/
  ev : Option Nat
deriving DecidableEq, Repr

/-- A capture entry (R78). -/
structure CapEntry where
  tb : Nat
  pol : Bool
  ang : Option Word
deriving DecidableEq, Repr

/-- The shift unit of a pin channel (R157 to R162). -/
structure ShiftSt where
  /-- the descriptor -/
  w0 : Word := 0
  w1 : Word := 0
  /-- the bit buffer in line order, oldest first -/
  buf : List Bool := []
  frmErr : Bool := false
  ovr : Bool := false
  tmo : Bool := false
  frames : Nat := 0
  /-- SENT: the measured tick, the nibbles of the frame in progress, whether the frame is dropped -/
  tick : Option Nat := none
  nibs : List Nat := []
  drop : Bool := false
  /-- PSI5 and NRZ: the level of the line after INV and for how long it has held, the time since the frame in progress began, its
  bits -/
  lvl : Option Bool := none
  quiet : Nat := 0
  since : Nat := 0
  bits : List Bool := []
  /-- a frame is in progress; transmitting: a bit is on the line, the line level, and for Manchester the half that follows (receiving
  PSI5, the level that the first half of the bit had) -/
  busy : Bool := false
  line : Bool := false
  half : Option Bool := none
  /-- TB at which the present bit, or half bit, ends -/
  due : Nat := 0
deriving DecidableEq, Repr

/-- A pin channel (R72 to R84). -/
structure Chan where
  cq : List CmpEntry := []
  /-- TB from which the head entry, having been head for a clock, can fire -/
  headTb : Nat := 0
  pulseEnd : Option Nat := none
  lvl : Bool := false
  /-- the pin has taken a level since it last returned to following its channel (R75) -/
  follow : Bool := false
  inLvl : Bool := false
  capq : List CapEntry := []
  cnt : Nat := 0
  down : Bool := false
  /-- TB of the next step -/
  stepTb : Nat := 0
  /-- TOP, CNTMATCH and BLANKWIN in force (R82) -/
  top : Nat := 0
  mat : Nat := 0
  win : Nat := 0
  /-- values of STAGGER held until the block becomes ACTIVE (R83) -/
  held : Bool := false
  /-- the last changes of the blanking signal, newest first: the TB, and the signal before it (R247, R248) -/
  blanks : List (Nat × Bool) := []
  shift : ShiftSt := {}
deriving DecidableEq, Repr

/-- A calendar event (R122 to R130). -/
structure CalEv where
  slot : Nat
  gen : Nat
  /-- order of acceptance -/
  order : Nat
  target : Nat
  tag : Nat
  pch : Nat
  kind : Nat
  angle : Bool
  wheel : Nat
  drop : Bool
  nextcyc : Bool
  /-- the cycle bits are not resolved yet (R117) -/
  unres : Bool
  cpl : Bool
  owner : Nat
  epoch : Nat
  dur : Nat
  /-- accepted since the last boundary: not in the intake of the present drain (R20) -/
  fresh : Bool
  /-- 0 in the calendar, 1 loaded, 2 ended and waiting for its record -/
  st : Nat
  /-- due, and left behind by a drain cut-off (R24) -/
  spill : Bool
  /-- loaded under the fire-late policy (R23) -/
  late : Bool
  status : Nat
  code : Nat
  tb : Nat
  /-- order of ending -/
  fin : Nat
deriving DecidableEq, Repr

/-- The calendar (R122 to R133). -/
structure CalSt where
  evs : List CalEv := []
  /-- how often each slot has been used -/
  uses : Store Nat := []
  order : Nat := 0
  fin : Nat := 0
  /-- REFUSED records that wait for a completion slot: tag, KIND, PCH, TARGET, TB (R123, R128) -/
  refused : List (List Nat) := []
  loaded : Nat := 0
  /-- EVW0 to EVW2 of each port: PCIe, SPI, TAP -/
  evw : Store Word := []
deriving DecidableEq, Repr

/-- A TB-to-angle map (R119): nine endpoints, unwrapped angles, eight held slopes. -/
structure AMap where
  t : List Nat
  th : List Int
  slope : List Nat
deriving DecidableEq, Repr

/-- The maps of a wheel (R19, R119). -/
structure MapSt where
  /-- the maps of the interval before, of the present one and of the next one -/
  prv : Option AMap := none
  cur : Option AMap := none
  nxt : Option AMap := none
  /-- end angle of the last map published -/
  lastEnd : Option Int := none
  /-- the map for the present interval was published while the wheel stayed synchronised -/
  chained : Bool := false
deriving DecidableEq, Repr

/-- A tracked primary edge: its TB and its unwrapped crank angle since the unit left SEARCH (R89, R118). -/
structure WEdge where
  tb : Nat
  u : Int
deriving DecidableEq, Repr

/-- A cam edge: TB, input (false SECA, true SECB), polarity, and its unwrapped angle position if it was matched. -/
structure CamEdgeRec where
  tb : Nat
  secB : Bool
  pol : Bool
  pos : Int
deriving DecidableEq, Repr

/-- A wheel unit (R85 to R109, R118). -/
structure Wheel where
  /-- SYNCST (R111): STATE, PREV, TOOTH, DIR, MAPVALID, CAMLOST, OVERSPEED -/
  state : Nat := 0
  prev : Nat := 0
  tooth : Nat := 0
  rev : Bool := false
  /-- a synchronised state has been reached since the last boundary (R119) -/
  fresh : Bool := false
  mapValid : Bool := false
  camLost : Bool := false
  overspeed : Bool := false
  /-- the held cycle counter (R96) -/
  cyc : Nat := 0
  /-- revolutions since the unit left SEARCH, and the angle position of its zero once the revolution is known -/
  rv : Int := 0
  base : Int := 0
  /-- TB of the last accepted primary edge, or at which the unit became ACTIVE; an edge was accepted since SEARCH began; the last
  period, and the number of periods, since then -/
  lastTb : Nat := 0
  seen : Bool := false
  per : Nat := 0
  nper : Nat := 0
  /-- a primary edge whose pulse width is not measured yet (R100): its TB -/
  open_ : Option Nat := none
  /-- gap counting (R94): a gap is being confirmed, position 1 was valid, further gaps confirmed -/
  counting : Bool := false
  pos1 : Bool := false
  gaps : Nat := 0
  inv : Nat := 0
  revs : Nat := 0
  fwds : Nat := 0
  /-- the state held before REVERSE -/
  before : Nat := 0
  /-- trigger code of a return to SEARCH that waits for the boundary -/
  toSearch : Option Nat := none
  /-- forward edges tracked without a break, newest first -/
  trk : List WEdge := []
  /-- TBs of the accepted edges of the last revolution, newest first -/
  hist : List Nat := []
  /-- what the last boundary published (R20) -/
  pubState : Nat := 0
  pubs : List WEdge := []
  /-- cam phasing (R92, R94): consecutive edges, and the offset that they give -/
  conf : Nat := 0
  confBase : Int := 0
  opp : Nat := 0
  /-- matched cam edges, newest first; the position of the last edge without a match -/
  cams : List CamEdgeRec := []
  camBad : Option Int := none
  /-- the last cam edges of the CAMSEL inputs in SEARCH, newest first (R99) -/
  seq : List CamEdgeRec := []
  /-- learning (R102, R103): start of the revolution, the times of its teeth, still meeting the conditions, the duration of
  the previous revolution; corrections that apply from the next boundary -/
  lrnT0 : Option Nat := none
  lrnTimes : List (Nat × Nat) := []
  lrnOk : Bool := false
  lrnPrev : Option Nat := none
  lrnNew : List (Nat × Int) := []
  lrnClear : Bool := false
  /-- Clover (R105, R106) -/
  qpos : Nat := 0
  qa : Bool := false
  qb : Bool := false
  qdir : Bool := false
  qknown : Bool := false
  /-- synthesis (R107 to R109): segment, its start, the speed there in rpm, twice the integral of the speed up to there in rpm × LSB,
  the last key placed, the same counted on over the cycles, the three lines -/
  synSeg : Nat := 0
  synTb : Nat := 0
  synRpm : Nat := 0
  synArea : Nat := 0
  synKey : Option Nat := none
  synCount : Nat := 0
  synDone : Bool := false
  synCrk : Bool := false
  synA : Bool := false
  synB : Bool := false
  /-- importing (R317): the map that the exporter sent last, with its flags, and the exporter's ALIGNED -/
  impMap : Option AMap := none
  impFirst : Bool := false
  impJump : Bool := false
  impAligned : Bool := false
deriving DecidableEq, Repr

/-- A frame that a port sends, with its 64-bit frame count (R311). -/
structure TxFrame where
  cnt : Nat
  hdr : FrameHdr
  load : Payload
  /-- CRC-32 over header, payload and tag (R311) -/
  crc : Word
deriving DecidableEq, Repr

/-- An Idxia port (R310 to R318). -/
structure IdxPort where
  /-- frame counts of the next frame sent and of the next frame expected -/
  txCnt : Nat := 0
  rxCnt : Nat := 0
  /-- credits held (R311) -/
  cred : Nat := 0
  /-- block lock (R312) -/
  lock : Bool := false
  /-- frames sent and kept until they are acknowledged, oldest first -/
  unacked : List TxFrame := []
  /-- frames that wait for a credit -/
  waiting : List (BitVec 2 × BitVec 2 × Bool × Payload) := []
  /-- frames received that a CREDIT frame has not acknowledged -/
  owed : Nat := 0
  /-- a CRC error was answered with NAK: frames are discarded up to the expected FSEQ -/
  nak : Bool := false
  /-- the last frame sent, CREDIT frames among them -/
  last : Option TxFrame := none
  /-- authentication (R313): own nonce, the partner's, the session key -/
  nonce : BitVec 64 := 0
  peer : Option (BitVec 64) := none
  key : Option (BitVec 128) := none
  /-- counts of the present tick (R311, R314): CRC errors, MSG frames, bad tags -/
  crcs : Nat := 0
  msgs : Nat := 0
  bad : Nat := 0
  /-- consecutive acknowledgements and replies within CREDTO (R312) -/
  good : Nat := 0
  /-- the last exchanges: offset and delay in 1/32 LSB, newest first (R316) -/
  exch : List (Int × Int) := []
  /-- T1 of the request in flight -/
  t1 : Option Nat := none
  /-- what the last reply carried: RESID, ALIGNED, path degraded -/
  resid : Int := 0
  lead : Bool := false
  degr : Bool := false
  /-- TB clocks for which the TB is still held, until device 0 reaches it (R316) -/
  hold : Nat := 0
  /-- an increment of the TB is to be omitted; TB of the last slew -/
  skip : Bool := false
  slewed : Nat := 0
  /-- the slew rate: LSBs to add in 12,800 TB clocks, signed; RESIDUAL at the last exchange, in 1/16 LSB (R316) -/
  rate : Int := 0
  resLast : Int := 0
deriving DecidableEq, Repr

/-- The flags of an engine (R134). -/
structure Flags where
  z : Bool := false
  n : Bool := false
  c : Bool := false
  v : Bool := false
  s : Bool := false
deriving DecidableEq, Repr

/-- The microword in progress: its bits as they were fetched, registers and flags at the start of its cycle, the slots that have
acted. -/
structure WordSt where
  m : MicroWord
  g : Store Word
  fl : Flags
  a : Bool := false
  x : Bool := false
deriving DecidableEq, Repr

/-- A SHIFT TX or RX that waits for room or for bits (R159). -/
structure ShiftWait where
  chan : Nat
  tx : Bool
  n : Nat
  xd : Nat
  data : Word
  /-- TB at which the stall began -/
  since : Nat
deriving DecidableEq, Repr

/-- The task-control operation of an instruction that ends (R144). -/
inductive TaskCtl where
  | none | done | yield | waitev (mask : Nat)
deriving DecidableEq, Repr

/-- A microengine (R134). -/
structure Eng where
  g : Store Word := []
  fl : Flags := {}
  pc : Nat := 0
  /-- the call stack, newest first -/
  stack : List Nat := []
  /-- the task that it runs -/
  task : Option Nat := none
  word : Option WordSt := none
  /-- microwords issued since the last boundary (R142) -/
  run : Nat := 0
  wait : Option ShiftWait := none
  /-- stopped at an instruction boundary before its task control: the operation, and the next address (R143) -/
  held : Option (TaskCtl × Nat) := none
  /-- it stands still until the next tick boundary (R27, R164) -/
  halted : Bool := false
  /-- it has overrun the present tick (R27) -/
  overrun : Bool := false
  /-- the bank that is active for it: false A, true B -/
  bank : Bool := false
  /-- local memory -/
  mem : Memory := []
deriving DecidableEq, Repr

/-- A task descriptor (R144, R169, R191). -/
structure TaskSt where
  /-- 0 IDLE, 1 READY, 2 RUNNING, 3 STALLED, 4 CANCELLED, 5 DONE -/
  st : Nat := 0
  shiftWait : Bool := false
  rdy : Nat := 0
  resume : Nat := 0
  mask : Nat := 0
  runs : Nat := 0
  /-- saved g12 to g15 and flags -/
  save : List Word := [0, 0, 0, 0]
  fl : Flags := {}
  /-- a cancellation waits for the engine's next boundary -/
  cancel : Bool := false
  /-- the engine cycles of its last cancellation and of its last dispatch, each plus 1 (R170) -/
  canAt : Nat := 0
  disAt : Nat := 0
deriving DecidableEq, Repr

/-- A message with its address word and its sender word (R175). -/
structure Msg where
  addr : Word
  sender : Word
  lo : Word
  hi : Word
deriving DecidableEq, Repr

/-- A cluster (R166 to R182). -/
structure Clu where
  /-- shared memory -/
  shared : Memory := []
  tasks : Store TaskSt := []
  msgq : List Msg := []
  ecq : List (List Word) := []
  /-- the machine-check log: MCLOG_STAT without VALID, and TB -/
  mclog : List (Nat × Nat) := []
  latch : BitVec 12 := 0
  /-- it holds its role -/
  holds : Bool := false
  /-- it enters FAULT at the next boundary -/
  faultDue : Bool := false
  /-- its role moves at the next boundary though it is not in FAULT (R182) -/
  moveDue : Bool := false
  /-- the role's state is being copied into it: from which cluster, and whether nothing could be copied (R374) -/
  copy : Option (Nat × Bool) := none
  /-- the comparator self-test of the last tick failed -/
  testFail : Bool := false
deriving DecidableEq, Repr

/-- The marks of a control-store bank (R184, R373). -/
structure BankSt where
  valid : Bool := false
  copy : Bool := false
  win : Bool := false
  /-- SHA-256 of the image last written -/
  sha : Option (BitVec 256) := none
deriving DecidableEq, Repr

/-- Press (R183 to R188). -/
structure PressSt where
  /-- words replaced by a mirror fetch: cluster, bank, address -/
  repair : List (Nat × Bool × Nat) := []
  /-- clusters of Press's own MIRROR_COPY that are still to copy (R187) -/
  own : List Nat := []
  /-- the bank that the last BANK_SWITCH of a cluster switches to (R185) -/
  dest : Store Bool := []
  /-- words 0 to 3 of control-store slots written through the window, by their offset (R184) -/
  stage : List (Nat × Word) := []
  /-- parity errors by row of the data memories, rows that wait for the next rejoin, and spare rows in use by block of 512 rows; a row
  is 2^20 times its domain plus its address there (R381) -/
  errs : Store Nat := []
  due : List Nat := []
  spares : Store Nat := []
deriving DecidableEq, Repr
/-- A record of a converter ring (R211) in its full form. -/
structure SampRec where
  value : Int
  rng : Nat
  ain : Nat
  settle : Bool := false
  part : Bool := false
  count : Nat := 1
  urgent : Bool := false
  diag : Bool := false
  entry : Nat := 0
  tb : Nat
deriving DecidableEq, Repr

/-- A sample between its hold instant and its store clock (R196, R197), and the records that are emitted at its store clock. -/
structure Held where
  samp : SampRec
  /-- its store clock -/
  due : Nat := 0
  /-- the core whose URGENT command asked for it -/
  cmd : Option Nat := none
  /-- a record of its own: AVGL = 0, or urgent -/
  own : Bool := false
  /-- blocks that it ends -/
  blocks : List SampRec := []
deriving DecidableEq, Repr

/-- An open averaging block of a channel (R205, R206). -/
structure SBlock where
  sum : Int
  k : Nat
  settle : Bool
  diag : Bool
  rng : Nat
  avgl : Nat
  shift : Nat
  tb : Nat
deriving DecidableEq, Repr

/-- A waiting urgent request (R207). -/
structure Urg where
  ch : Nat
  tb : Nat
  cmd : Bool
deriving DecidableEq, Repr

/-- An input of a core: its last hold, the range of its last sample, samples that still carry SETTLE, its open block. -/
structure AIn where
  hold : Option Nat := none
  rng : Option Nat := none
  settle : Nat := 0
  block : Option SBlock := none
deriving DecidableEq, Repr

/-- A converter core (R195 to R215). -/
structure AdcCore where
  /-- how its sequence runs: 0 stopped, 1 triggered, 2 continuous (R203) -/
  kind : Nat := 0
  entry : Nat := 0
  /-- 0 it waits for its trigger, 1 its delay runs, 2 its passes run -/
  phase : Nat := 0
  /-- TRIG and DELAY of the entry as they stood when it began (R201) -/
  trig : Nat := 0
  delay : Nat := 0
  /-- TB from which the entry counts, and that of its first possible hold -/
  beg : Nat := 0
  start : Nat := 0
  passes : Nat := 0
  /-- the last channel converted in the running pass -/
  last : Option Nat := none
  ins : Store AIn := []
  /-- TB of the core's last hold -/
  hold : Option Nat := none
  pipe : List Held := []
  urg : List Urg := []
  /-- the latches of the trigger inputs: TB of the trigger point, plus 1 -/
  latch : Store Nat := []
  /-- trigger points to come: input and TB -/
  due : List (Nat × Nat) := []
  /-- TB at which the reference becomes ready -/
  refDue : Option Nat := none
  /-- ADC4: the group that it substitutes for -/
  sub : Option Nat := none
deriving DecidableEq, Repr

/-- The test DAC (R216, R217). -/
structure TdSt where
  settleDue : Option Nat := none
  /-- a TD_COMPARE: samples taken, their sum, the range of the last, TB of the start -/
  n : Nat := 0
  sum : Int := 0
  rng : Nat := 0
  beg : Nat := 0
deriving DecidableEq, Repr

/-- A sample in a lane (R213, R224), with its store clock. -/
structure LSamp where
  tb : Nat
  val : Int
  rng : Nat
  settle : Bool
  diag : Bool
  stored : Nat
deriving DecidableEq, Repr

/-- A grid point that has been converted (R227): its angle, its TB, the boundaries since, SYNCCHG. -/
structure GPoint where
  ang : Word
  t : Nat
  age : Nat := 0
  sync : Bool
  last : Bool := false
deriving DecidableEq, Repr

/-- The input that a lane had before a commit gave it another: AIN and NOURG, and its samples, which go on arriving for the windows
that the commit has closed (R233). -/
structure OldInput where
  ain : Nat
  nourg : Bool
  samps : List LSamp
deriving DecidableEq, Repr

/-- A window of a lane (R225 to R233). -/
structure RWin where
  start : Int
  /-- next grid point to convert; every point is converted -/
  j : Nat := 0
  done : Bool := false
  sync : Bool := false
  part : Bool := false
  points : List GPoint := []
  recs : Nat := 0
  /-- sample-memory address of its last record -/
  lastAt : Option Nat := none
  /-- its input, where the lane has left that input since (R233) -/
  input : Option OldInput := none
deriving DecidableEq, Repr

/-- A resampler lane (R224 to R235). -/
structure Lane where
  samps : List LSamp := []
  wins : List RWin := []
  /-- records of the last window, and whether it was partial (LSTAT) -/
  recs : Nat := 0
  lastPart : Bool := false
  /-- it wrote a record in the present tick -/
  wrote : Bool := false
deriving DecidableEq, Repr

/-- A pair of PWM channels (R243, R246): the clock since which R has its value, the outputs after dead time, CUT. -/
structure PwmPair where
  since : Nat := 0
  h : Bool := false
  l : Bool := false
  cut : Bool := false
  /-- the clock in which CUT last became 1 -/
  cutAt : Nat := 0
deriving DecidableEq, Repr

/-- A PWM module (R240 to R255): the values in force, the count at a clock, references and pairs. -/
structure PwmMod where
  per : Nat := 3999
  syncpt : Nat := 0
  syncofs : Nat := 0
  dt : List Nat := [0, 0, 0, 0]
  cmp : List Nat := [0, 0, 0, 0, 0, 0, 0, 0]
  /-- the count `cnt` stood at TB `t` -/
  cnt : Nat := 0
  t : Nat := 0
  /-- the mid-period point of this period has passed -/
  mid : Bool := false
  /-- a new PER ends the period at this TB (R242) -/
  endAt : Option Nat := none
  ref : List Bool := [false, false, false, false, false, false, false, false]
  pairs : List PwmPair := [{}, {}, {}, {}]
  /-- the logical module that a spare serves (R254) -/
  sub : Option Nat := none
  forced : Bool := false
  /-- TB of the last VALLEY of SYNCCH, and of the last pulse at SYNCPT that lies before `t` (R249) -/
  sync : Option Nat := none
  pulse : Option Nat := none
  /-- sync events before this TB have been loaded -/
  synced : Nat := 0
deriving DecidableEq, Repr


/-- The state of the block. -/
structure State where
  /-- the waiting commands, first in, first out -/
  pending : List Instr := []
  /-- the time base (R59) -/
  tb : Time := 0
  /-- how often the TB has passed from all ones to zero: the model's own count, with which times are told across a wrap (R65) -/
  era : Nat := 0
  /-- the registers as they stood when the present TB clock began (R10) -/
  atClock : Store Word := []
  /-- what the hardware events of the present TB clock alone would have left in a register: bits set, counts, the last fault (R10) -/
  fresh : Store Word := []
  /-- the TB is stopped: DORMANT or brown-out (R68) -/
  tbStopped : Bool := false
  /-- the armed or last values of the four matches (R64) -/
  matchVal : Store Nat := []
  /-- the TB from which each match is judged: the clock after it was armed (R64) -/
  matchTb : Store Nat := []
  tick : TickSt := {}
  /-- the registers, by BAR0 offset; an unlisted one holds its reset value (R8) -/
  regs : Store Word := []
  /-- the shadows, by BAR0 offset (R52) -/
  shadow : List (Nat × Word) := []
  pages : Store PageSt := []
  running : List Running := []
  groups : List Group := []
  host : HostSt := {}
  ring : RingSt := {}
  /-- host memory as the device has written it, (R303) -/
  hostMem : Memory := []
  iu : IuSt := {}
  whey : WheySt := {}
  eth0 : EthSt := {}
  eth1 : EthSt := {}
  dom : Store DomSt := []
  mode : ModeSt := {}
  rind : RindSt := {}
  chans : Store Chan := []
  cal : CalSt := {}
  maps : Store MapSt := []
  /-- position among the free values that have been drawn: the model's own field -/
  free : Nat := 0
  wheels : Store Wheel := []
  idx0 : IdxPort := {}
  idx1 : IdxPort := {}
  /-- how far the map cycle counts of two units lay apart at the last boundary at which both published, by 8u + s (R376) -/
  cycDiff : Store Int := []
  /-- twin takeovers that wait for their boundary (R376) -/
  twinDue : List (Nat × Nat × Int) := []
  /-- twin takeovers in force: wheel, the unit that serves it, and what is added to the cycles (R376) -/
  twins : List (Nat × Nat × Int) := []
  /-- the microengines, by 8c + e -/
  engs : Store Eng := []
  clus : Store Clu := []
  /-- the epochs of the roles (R167) -/
  epochs : Store Nat := []
  /-- the cluster that held a role last, plus 1; 0 for the cluster of the same number (R166, R289) -/
  lastHeld : Store Nat := []
  /-- messages accepted and not delivered, oldest first, with their cluster (R176) -/
  msgs : List (Nat × Msg) := []
  /-- the control stores, by ((2c + bank) × 4096 + address) -/
  cstore : Store MicroWord := []
  /-- the marks of the banks, by 2c + bank -/
  banks : Store BankSt := []
  press : PressSt := {}
  /-- sample memory (R135) -/
  smem : Memory := []
  /-- the converter cores -/
  adcs : Store AdcCore := []
  td : TdSt := {}
  lanes : Store Lane := []
  /-- pages of blocks that have failed and that the availability logic has not dealt with (R371) -/
  lost : List (Nat × Bool) := []
  pwms : Store PwmMod := []
  /-- PWM-driven pins that follow their channel (R251) -/
  pwmPins : Store Bool := []
  /-- the latches of the safe levels, as the last commit loaded them; none for a pin that it found not driven (R252) -/
  safeLatch : Store (Option Bool) := []
  /-- the pins of an I/O bank that is not ON, as it held them when it left ON (R341) -/
  bankHold : Store (Option Bool) := []
  /-- blocks whose work has been taken over and that have not been restored since (R378) -/
  taken : List Nat := []
deriving DecidableEq, Repr

/-- The machine right after reset: every register at the value that its field table gives it (R8, R9), which is its value
after a fault-free BOOT, in CONFIGURE; nothing queued, nothing in flight. -/
def State.reset : State := {}

/-- A step that stops the block. No command of this hardware faults: the spec gives every one an effect. The reason is for
an access to storage that the spec says does not exist; nothing raises it, since reads of reserved places return zero and
writes to them are rejected with E_ACCESS (R11, R302). Safe. -/
inductive Fault where
  | absentStorage
deriving DecidableEq, Repr

/-- A command without a meaning in the model. -/
inductive Refusal where
  /-- raised by exec's arm of a command that the model does not hold yet; safe -/
  | notModelled (mnemonic : String)
deriving DecidableEq, Repr

/-- The outcome of one command. -/
abbrev Out := Host.Outcome State Fault Refusal

end Sys2Proof.Machine
end

