-- ==== Sys2Proof/Machine/Ops.lean ====
section
/-! DEFINITION. The named operations that every family shares: registers and their fields, block states, doorbells and page
interrupts, host memory, commands and their completion. -/

namespace Sys2Proof.Machine

/-- The present TB clock as a number that goes on when the TB passes zero (R65). -/
def State.now (s : State) : Nat := s.era * 2 ^ 64 + s.tb.toNat

/-- The clock at which the TB shows a value before it next passes zero: targets and matches are judged on it (R65). -/
def State.clockOf (s : State) (x : Nat) : Nat := s.era * 2 ^ 64 + x

/-- The clock next to the present one at which the TB shows a 64-bit value, before it or after it. -/
def State.near (s : State) (x : Nat) : Nat :=
  let d := (x + 2 ^ 64 - s.tb.toNat) % 2 ^ 64
  if d < 2 ^ 63 then s.now + d else s.now - (2 ^ 64 - d)

/-- Draw a value that the spec leaves open. -/
def State.drawn (s : State) : Word × State := (Config.freeWord s.free, { s with free := s.free + 1 })

/-! ### Registers -/

/-- BAR0 offset of a page and an offset inside it (R30). -/
def adr (p o : Nat) : Nat := p * 4096 + o

/-- A register. -/
def State.reg (s : State) (p o : Nat) : Word := Store.get (regReset (adr p o)) s.regs (adr p o)

/-- Put a value into a register. -/
def State.setReg (s : State) (p o : Nat) (w : Word) : State :=
  { s with regs := Store.set (regReset (adr p o)) s.regs (adr p o) w }

/-- A field of a register. -/
def State.fld (s : State) (p o lo len : Nat) : Nat := fieldOf (s.reg p o) lo len

/-- One bit of a register. -/
def State.flag (s : State) (p o i : Nat) : Bool := s.fld p o i 1 == 1

/-- Put a value into a field. -/
def State.setFld (s : State) (p o lo len v : Nat) : State := s.setReg p o (withField (s.reg p o) lo len v)

/-- Hardware changes a register in the present clock (R10). -/
def State.event (s : State) (p o : Nat) (f : Word → Word) : State :=
  { s.setReg p o (f (s.reg p o)) with fresh := Store.modify 0 s.fresh (adr p o) f }

/-- A register with more in a count that saturates at all ones. -/
def countUp (lo len n : Nat) (w : Word) : Word := withField w lo len (min (fieldOf w lo len + n) (2 ^ len - 1))

/-- Hardware adds to a count that saturates at all ones. -/
def State.addSat (s : State) (p o lo len n : Nat) : State := s.event p o (countUp lo len n)

/-- A 64-bit quantity of two registers. -/
def State.reg64 (s : State) (p lo hi : Nat) : Nat := (s.reg p lo).toNat + (s.reg p hi).toNat * 2 ^ 32

/-- Put a 64-bit quantity into two registers. -/
def State.setReg64 (s : State) (p lo hi v : Nat) : State :=
  (s.setReg p lo (BitVec.ofNat 32 v)).setReg p hi (BitVec.ofNat 32 (v / 2 ^ 32))

/-- The registers of a page whose offset meets a test return to their reset values. -/
def State.resetRegs (s : State) (p : Nat) (keep : Nat → Bool) : State :=
  { s with regs := s.regs.filter (fun e => e.1 / 4096 != p || keep (e.1 % 4096)) }

/-- The first point of a grid at or after a TB (R16). -/
def gridFrom (phase step t : Nat) : Nat := if t ≤ phase then phase else phase + (t - phase + step - 1) / step * step

/-! ### Pages, modes and domains -/

def pageSYS : Nat := 0x000
def pagePWR : Nat := 0x001
def pageRIND : Nat := 0x002
def pageHOSTIF : Nat := 0x003
def pageCMDQ : Nat := 0x004
def pageTB : Nat := 0x005
def pageIU : Nat := 0x010
def pageWU (u : Nat) : Nat := 0x020 + u
def pageWUX (u : Nat) : Nat := 0x090 + u
def pageWUS (u : Nat) : Nat := 0x098 + u
def pageANG : Nat := 0x028
def pageANG1 : Nat := 0x029
def pageANG2 : Nat := 0x02A
def pageANG3 : Nat := 0x02B
def pagePCHG (p : Nat) : Nat := 0x030 + p
def pagePWM (m : Nat) : Nat := 0x040 + m
def pageTRIP : Nat := 0x04A
def pagePINMUX : Nat := 0x04B
def pagePINMUX1 : Nat := 0x04C
def pageADC (n : Nat) : Nat := 0x050 + n
def pageADCS (n : Nat) : Nat := 0x0A0 + n
def pageRSMP : Nat := 0x058
def pageRSML (k : Nat) : Nat := 0x0A8 + k
def pageTDAC : Nat := 0x059
def pageCL (c : Nat) : Nat := 0x060 + c
def pageCLT (c : Nat) : Nat := 0x080 + c
def pagePRESS : Nat := 0x070
def pageWHEY : Nat := 0x078
def pageETH (n : Nat) : Nat := 0x07A + n
def pageIDX (p : Nat) : Nat := 0x07C + p
def pageDBG : Nat := 0x07E

/-- Error codes (R12). -/
def eOK : Nat := 0x00
def eVALUE : Nat := 0x01
def eSTATE : Nat := 0x02
def eSEALED : Nat := 0x03
def eBUDGET : Nat := 0x04
def ePOWER : Nat := 0x05
def eRESERVED : Nat := 0x06
def eBUSY : Nat := 0x07
def eLATE : Nat := 0x08
def eEPOCH : Nat := 0x09
def eAUTH : Nat := 0x0A
def ePARTIAL : Nat := 0x0B
def eOVERFLOW : Nat := 0x0C
def eACCESS : Nat := 0x0D
def eTIMEOUT : Nat := 0x0E
def ePARITY : Nat := 0x0F
def eCONFIG : Nat := 0x10

/-- The order in which one of several rejections is reported (R14). -/
def errRank (e : Nat) : Nat :=
  if e = ePOWER then 1 else if e = eACCESS then 2 else if e = eSEALED then 3 else if e = eBUDGET then 4
  else if e = eSTATE then 5 else if e = eRESERVED then 6 else if e = eVALUE then 7 else if e = eBUSY then 8 else 9

/-- The code reported of those that apply: the first in the order of R14; OK if none applies. -/
def firstErr : List (Nat × Bool) → Nat
  | [] => eOK
  | (e, c) :: t =>
    let r := firstErr t
    if c then (if r = eOK ∨ errRank e < errRank r then e else r) else r

/-- The modes (R5). -/
def mBOOT : Nat := 0
def mDORMANT : Nat := 1
def mCONFIGURE : Nat := 2
def mRUN : Nat := 3
def mLIMP : Nat := 4
def mBENCH : Nat := 5
def mHALT : Nat := 6
def mSAFE : Nat := 7

/-- The present mode: SYS.MODE.MODE. -/
def State.md (s : State) : Nat := s.fld pageSYS Off.sys_MODE 0 3

/-- The clock at which the present mode began: SYS.MODETB (R324). -/
def State.modeClock (s : State) : Nat := s.near (s.reg64 pageSYS Off.sys_MODETB_LO Off.sys_MODETB_HI)

/-- A mode in which engines run and outputs serve. -/
def State.serving (s : State) : Bool := s.md == mRUN || s.md == mLIMP || s.md == mBENCH

/-- The power domain of a page; a PCHG page reports its lower bank (R340). -/
def pageDomain (p : Nat) : Nat :=
  match pageKind p with
  | some .cl => p - 0x060 | some .clt => p - 0x080 | some .pchg => 32 + 2 * (p - 0x030)
  | some .adc => 52 + (p - 0x050) | some .adcs => 52 + (p - 0x0A0) | some .pwm => 57 + (p - 0x040)
  | some .wu => 67 + (p - 0x020) | some .wux => 67 + (p - 0x090) | some .wus => 67 + (p - 0x098)
  | some .eth => 80 + (p - 0x07A) | some .idx => 82 + (p - 0x07C) | some .iu => 84 | some .whey => 85
  | some .rsmp => 86 | some .rsml => 86 | some .tdac => 87 | some .dbg => 88 | some .rind => 90
  | _ => 89

/-- DSTATE of a domain: in DORMANT every domain but the always-on one is off (R337). -/
def State.dst (s : State) (d : Nat) : Nat :=
  if s.mode.dark ∧ d ≠ 91 then 1 else (s.dom.get {} d).st

/-- The domain of a page is ON. -/
def State.pageOn (s : State) (p : Nat) : Bool := s.dst (pageDomain p) == 0

/-- PAGE_STATE after BOOT (R33): SPARE for ADC4, ACTIVE for the blocks that their chapters make so, IDLE otherwise. -/
def pageReset (p : Nat) : PageSt :=
  if p = pageADC 4 then { st := 6 }
  else if p ∈ [pageSYS, pagePWR, pageRIND, pageHOSTIF, pageTB, pageIU, pageTRIP, pagePINMUX, pagePRESS, pageWHEY, pageDBG]
  then { st := 3 } else {}

def State.page (s : State) (p : Nat) : PageSt := s.pages.get (pageReset p) p

def State.setPage (s : State) (p : Nat) (x : PageSt) : State := { s with pages := s.pages.set (pageReset p) p x }

/-- Block states (R37). -/
def stDOWN : Nat := 0
def stIDLE : Nat := 1
def stCONFIGURED : Nat := 2
def stACTIVE : Nat := 3
def stFAULT : Nat := 4
def stQUARANTINE : Nat := 5
def stSPARE : Nat := 6
/-- A converter core that calibrates (R209). -/
def stCALIBRATING : Nat := 0x10

/-- The device's own CALIBRATE of BOOT runs on the converter core of a page: from 0.5 to 2.9 ms (R329). -/
def State.bootCalibrates (s : State) (p : Nat) : Bool :=
  pageKind (basePage p) == some .adc && decide (s.modeClock + 400000 ≤ s.now) && decide (s.now < s.modeClock + 2320000)

/-- PAGE_STATE.STATE: that of the block, DOWN while the domain is not ON (R31, R35, R37). The blocks that are ACTIVE, and ADC4 that
is SPARE, from the end of BOOT are IDLE until BOOT ends (R33), but for the calibration of the converter cores (R329). -/
def State.st (s : State) (p : Nat) : Nat :=
  if !s.pageOn p then stDOWN
  else
    let x := (s.page (basePage p)).st
    if s.md ≠ 0 then x
    else if s.bootCalibrates p ∧ x ≠ stFAULT then stCALIBRATING
    else if x = stACTIVE ∨ x = stSPARE then stIDLE else x

/-- The block is in service. -/
def State.active (s : State) (p : Nat) : Bool := s.st p == stACTIVE

/-- The boundary after the boundary at `t0`, with the grid that is in force after it (R17). A grid point past all ones of the TB is
none: the first one is then that of the new values (R65). -/
def State.boundaryAfter (s : State) (t0 : Nat) : Nat :=
  let per := s.fld pageTB Off.tb_TICKCFG 0 16
  let phase := (s.reg pageTB Off.tb_TICKPHASE).toNat
  let t := t0 % 2 ^ 64 + 2 * per
  let next := if per = s.tick.per ∧ phase = s.tick.phase then t else gridFrom phase (2 * per) t
  t0 / 2 ^ 64 * 2 ^ 64 + (if next < 2 ^ 64 then next else 2 ^ 64 + phase)

/-! ### Doorbells and page interrupts -/

/-- The source to which the interrupt of a page goes (R34, R263). -/
def pageSource (p : Nat) : Nat :=
  match pageKind p with
  | some .sys => 0x006 | some .pwr => 0x007 | some .rind => 0x008 | some .hostif => 0x009 | some .cmdq => 0x00A
  | some .dbg => 0x00B | some .tb => 0x005 | some .iu => 0x00F
  | some .pchg => 0x1A0 + (p - 0x030)
  | some .wu => 0x1B0 + (p - 0x020) | some .wux => 0x1B0 + (p - 0x090) | some .wus => 0x1B0 + (p - 0x098)
  | some .ang => 0x1C0 | some .angMap => 0x1C0 | some .angQuota => 0x1C0 | some .angPeek => 0x1C0
  | some .cl => 0x1D0 + (p - 0x060) | some .clt => 0x1D0 + (p - 0x080) | some .press => 0x1E0
  | some .adc => 0x250 + (p - 0x050) | some .adcs => 0x250 + (p - 0x0A0) | some .tdac => 0x255
  | some .rsmp => 0x270 | some .rsml => 0x270 | some .pwm => 0x280 + (p - 0x040) | some .trip => 0x28A
  | some .pinmux => 0x28B | some .pinmuxX => 0x28B | some .whey => 0x290 | some .eth => 0x291 + (p - 0x07A)
  | some .idx => 0x2A0 + (p - 0x07C) | none => 0

/-- A doorbell is raised: it is on its way to the interrupt unit (R262). -/
def State.bell (s : State) (src : Nat) : State := { s with iu := { s.iu with flight := s.iu.flight ++ [src] } }

/-- Ring if a condition holds. -/
def State.bellIf (s : State) (c : Bool) (src : Nat) : State := if c then s.bell src else s

/-- PAGE_INTSTAT AND PAGE_INTEN is nonzero (R34). -/
def State.intUp (s : State) (p : Nat) : Bool := (s.reg p 0x018 &&& s.reg p 0x01C) != 0

/-- Run an update of a page's interrupt registers, and ring the page's source at a rise of its interrupt (R34). -/
def State.ringRise (s : State) (p : Nat) (s' : State) : State :=
  if s'.intUp p ∧ !s.intUp p ∧ s'.pageOn p then s'.bell (pageSource p) else s'

/-- Hardware sets a PAGE_INTSTAT bit. -/
def State.intSet (s : State) (p i : Nat) : State := s.ringRise p (s.event p 0x018 (setBit · i))

/-- The block state becomes `x`; a change sets PAGE_INTSTAT.STCHG on every page of the block (R31, R33). -/
def State.setSt (s : State) (p x : Nat) : State :=
  if (s.page p).st = x then s
  else (blockPages p).foldl (fun s q => s.intSet q 2) (s.setPage p { s.page p with st := x })

/-! ### The clock of the time base -/

/-- A TB clock begins: the registers stand as they did at its start, and nothing has met in it yet (R10, R274). -/
def State.newClock (s : State) : State := { s with atClock := s.regs, fresh := [], iu := { s.iu with clk := {} } }

/-- The TB takes a value in a new clock; no hold of the TB lasts (R10, R59, R316). -/
def State.clockAt (s : State) (v : Time) : State :=
  { s.newClock with tb := v, idx0 := { s.idx0 with hold := 0 } }

/-- The TB passes from all ones to zero: WRAP (R65). -/
def State.wrap (s : State) : State := ({ s.clockAt 0 with era := s.era + 1 }).intSet pageTB 20

/-- Bring the TB forward to a clock that has come; it never runs backwards (R59), and a clock past all ones lies behind the wrap
(R65). -/
def State.upTo (s : State) (t : Nat) : State :=
  if t ≤ s.now ∨ s.mode.clockLost then s
  else if t < (s.era + 1) * 2 ^ 64 then s.clockAt (BitVec.ofNat 64 t)
  else s.wrap.clockAt (BitVec.ofNat 64 t)

/-- A register as it stood when the present clock began. -/
def State.clockReg (s : State) (p o : Nat) : Word := Store.get (regReset (adr p o)) s.atClock (adr p o)

/-! ### Configuration regions -/

/-- The configuration region of a page as words (R31, R36). -/
def State.region (s : State) (p : Nat) : List Word := (List.range 496).map (fun i => s.reg p (0x40 + 4 * i))

def regionBytes (ws : List Word) : List Byte := ws.flatMap wordBytes

/-- PAGE_CFGCRC of a configuration region (R36). -/
def State.regionCrc (s : State) (p : Nat) : Word := crc32 (regionBytes (s.region p))

/-- PAGE_CFGCRC of RIND at its reset value: the CRC of its configuration as it comes out of the store (R33, R36, R367). -/
def State.rindCrc (s : State) : State := s.setReg pageRIND 0x014 (s.regionCrc pageRIND)

/-! ### Host memory -/

/-- The device writes host memory; while the link is down each write is discarded and counted (R300, R303). -/
def State.dma (s : State) (a : Nat) (ws : List Word) : State :=
  if s.host.linkUp then { s with hostMem := s.hostMem.setWords a ws }
  else s.addSat pageHOSTIF Off.hostif_DMAERRCNT 0 16 1

/-- Whether a block may issue a write to host memory now; otherwise it waits as if its ring were full (R303). -/
def State.dmaReady (s : State) : Bool := !s.host.linkUp || (s.host.cfg.busMaster && !s.host.cfg.d3)

/-- A device request has failed (R303): the first error is held. -/
def State.dmaFail (s : State) (p code : Nat) : State :=
  let s := s.addSat pageHOSTIF Off.hostif_DMAERRCNT 0 16 1
  let s := s.event pageHOSTIF Off.hostif_DMAERR (fun w => if fieldOf w 31 1 = 1 then w else BitVec.ofNat 32 (code + p * 2 ^ 8 + 2 ^ 31))
  s.intSet pageHOSTIF 16

/-! ### Completion records -/

def State.cpSize (s : State) : Nat := 2 ^ s.fld pageCMDQ Off.cmdq_CPSIZE 0 4
def State.crSize (s : State) : Nat := 2 ^ s.fld pageCMDQ Off.cmdq_CRSIZE 0 4

/-- Completion records that wait for Bus Master Enable: each keeps its slot (R303). -/
def State.owedRecords (s : State) : Nat :=
  s.ring.owed.countP (fun o => match o with | .record _ _ _ _ => true | .words _ _ => false)

/-- Commands that hold a completion slot, until their record is written: OUTST (R41, R48). -/
def State.outst (s : State) : Nat :=
  (s.running.filter (·.slot)).length + (s.groups.filter (fun g => g.slot && !g.single)).length + s.owedRecords

/-- Slots that the host has not freed, written or reserved (R50). -/
def State.slotsUsed (s : State) : Nat :=
  (s.fld pageCMDQ Off.cmdq_CPHEAD 0 12 + s.cpSize - s.fld pageCMDQ Off.cmdq_CPTAIL 0 12) % s.cpSize + s.outst

/-- A completion slot can be reserved (R50). -/
def State.slotFree (s : State) : Bool :=
  s.active pageCMDQ && decide (s.slotsUsed < s.cpSize - 1) && s.dmaReady

/-- Write a completion record: words 0 and 2 to 7 first, then word 1 with PHASE (R51). -/
def State.writeRecord (s : State) (w0 w1 : Nat) (tb : Nat) (res : List Word) : State :=
  let h := s.fld pageCMDQ Off.cmdq_CPHEAD 0 12
  let a := s.reg64 pageCMDQ Off.cmdq_CPBASE_LO Off.cmdq_CPBASE_HI + 32 * h
  let s := s.dma a [BitVec.ofNat 32 w0]
  let s := s.dma (a + 8) ([BitVec.ofNat 32 tb, BitVec.ofNat 32 (tb / 2 ^ 32)] ++ res ++ List.replicate (4 - res.length) 0)
  let s := s.dma (a + 4) [BitVec.ofNat 32 (w1 + bit s.ring.phase * 2 ^ 31)]
  let h' := (h + 1) % s.cpSize
  let s := s.setFld pageCMDQ Off.cmdq_CPHEAD 0 12 h'
  { s with ring := { s.ring with phase := if h' = 0 then !s.ring.phase else s.ring.phase } }

/-- CMDQ has something to write to host memory: now, or when requests may be issued again (R303). -/
def State.oweHost (s : State) (o : HostOwed) : State :=
  if s.dmaReady then
    match o with
    | .words a ws => s.dma a ws
    | .record w0 w1 tb res => s.writeRecord w0 w1 tb res
  else { s with ring := { s.ring with owed := s.ring.owed ++ [o] } }

/-- What waited for Bus Master Enable goes out, in its order (R303). -/
def State.payHost (s : State) : State :=
  if s.dmaReady then s.ring.owed.foldl State.oweHost { s with ring := { s.ring with owed := [] } } else s

/-- A completion record (R51). -/
def State.putRecord (s : State) (w0 w1 : Nat) (tb : Nat) (res : List Word) : State := s.oweHost (.record w0 w1 tb res)

/-- How a command ended. -/
structure Ended where
  code : Nat := 0
  aborted : Bool := false
  /-- RESULT words 4 to 7 -/
  res : List Word := []
  /-- the TB stamp; none for the present clock -/
  tb : Option Nat := none

/-- The record of a command (R51). -/
def State.record (s : State) (code : Nat) (q : Req) (part : Bool) (e : Ended) : State :=
  s.putRecord (q.tag.toNat + code * 2 ^ 16 + e.code * 2 ^ 24)
    (q.page.toNat + bit e.aborted * 2 ^ 12 + bit part * 2 ^ 13) (e.tb.getD s.now) e.res

/-- A command runs on a page (R42). -/
def State.runningOn (s : State) (p : Nat) : Option Running := s.running.find? (fun r => r.req.page.toNat == p)

def State.runs (s : State) (p code : Nat) : Bool := s.running.any (fun r => r.req.page.toNat == p && r.code == code)

/-- PAGE_STATE.BUSY (R33). -/
def State.busy (s : State) (p : Nat) : Bool := (s.runningOn p).isSome

/-- A running command ends: PAGE_INTSTAT.DONE, its record if it holds a slot, and it leaves the page (R41, R51). -/
def State.endRun (s : State) (r : Running) (e : Ended) : State :=
  let s := { s with running := s.running.erase r }
  let s := s.intSet r.req.page.toNat 1
  if r.slot then s.record r.code r.req false e else s

/-- The command with a code that runs on a page ends. -/
def State.finish (s : State) (p code : Nat) (e : Ended) : State :=
  match s.running.find? (fun r => r.req.page.toNat == p && r.code == code) with
  | none => s
  | some r => s.endRun r e

/-- Change what a running command keeps. -/
def State.keepRun (s : State) (p code : Nat) (d : List Nat) : State :=
  { s with running := s.running.map (fun r => if r.req.page.toNat == p && r.code == code then { r with data := d } else r) }

/-! ### Acceptance and rejection of commands -/

/-- Whether a command came from the device itself. -/
def ownReq (q : Req) : Bool := q.src == .device

/-- Whether a command produces a completion record (R41). -/
def wantsRecord (q : Req) : Bool :=
  match q.src with
  | .ring => true
  | .device => false
  | .port _ => q.tag != 0

/-- PAGE_RESULT, PAGE_ERRADDR and PAGE_INTSTAT.REJECT of a rejection (R33, R43); a page whose domain is not ON, or that
does not exist, shows nothing (R35). -/
def State.markReject (s : State) (p off code cmd tag : Nat) : State :=
  if (pageKind p).isNone ∨ !s.pageOn p then s else
  let s := s.setReg p 0x00C (BitVec.ofNat 32 (code + cmd * 2 ^ 8 + tag * 2 ^ 16))
  let s := s.setReg p 0x010 (BitVec.ofNat 32 off)
  s.intSet p 0

/-- A command is rejected at acceptance: shown on its page, and in a completion record where one can be written (R41, R43). -/
def State.reject (s : State) (code : Nat) (q : Req) (err : Nat) : State :=
  let s := s.markReject q.page.toNat 0x008 err code q.tag.toNat
  if wantsRecord q ∧ s.slotFree then s.record code q false { code := err } else s

/-- A command is accepted: LASTCMD, and it runs until it is finished (R33, R42). -/
def State.accept (s : State) (code : Nat) (q : Req) : State :=
  let s := s.setPage q.page.toNat { s.page q.page.toNat with lastCmd := code }
  { s with running := s.running ++ [{ code := code, req := q, slot := wantsRecord q, data := [] }] }

/-- A command's own rejections, and its effect once it is accepted. -/
structure Cmd where
  errs : Req → State → List (Nat × Bool)
  run : Req → State → State

/-- The codes of common commands (R38). -/
def isCommon (code : Nat) : Bool := 1 ≤ code && code ≤ 7

/-- Any host command is rejected in BOOT (R321). -/
def State.bootBars (s : State) (q : Req) : Bool := s.md == mBOOT && !ownReq q

/-- A page that a seal may cover (R354). -/
def coverable (p : Nat) : Bool :=
  (pageKind p).isSome && p != pageRIND && p != pageHOSTIF && p != pageCMDQ && p != pageDBG

/-- A SEAL that is BUSY covers the page (R354). -/
def State.sealing (s : State) (p : Nat) : Bool :=
  s.runs pageRIND 0x45 && (match s.rind.sealing with
    | some k => k.pages.contains p
    | none => coverable p && bitOf s.rind.sealMask.toNat p)

/-- Rejections that hold for every command of a page (R14, R31, R38, R42, R50, R321, R332). -/
def commonErrs (code : Nat) (q : Req) (s : State) : List (Nat × Bool) :=
  let p := q.page.toNat
  [ (ePOWER, (pageKind p).isSome && !s.pageOn p),
    (eACCESS, (pageKind p).isNone),
    (eSTATE, s.bootBars q),
    (eVALUE, isSecondary p && code != 1),
    (eBUSY, s.busy p && code != 1 && code != 6 && p != pagePWR),
    (eBUSY, s.mode.arm == 1 && (code == 2 || code == 3 || code == 4 || code == 5) && !ownReq q),
    (eBUSY, (s.page (basePage p)).prepared && (code == 2 || code == 3 || code == 4 || code == 7)),
    (eBUSY, wantsRecord q && (!s.slotFree || decide (512 ≤ s.outst))) ]

/-- A converter core calibrates: every command but NOP and ABORT is E_BUSY (R209, R221). -/
def State.calibrating (s : State) (p : Nat) : Bool := pageKind p == some .adc && s.st p == 0x10

/-- The own grounds of a command that a page keeps which accepts it in no state: a seal and a reserved code or bit, which R14 places
before the E_BUSY or E_VALUE of that page (R31, R209, R355). -/
def lastingErr (e : Nat × Bool) : Bool := e.1 == eSEALED || e.1 == eRESERVED

/-- What bars a command: what all share, and its own grounds; a core that calibrates keeps the lasting ones (R14). -/
def Cmd.grounds (c : Cmd) (code : Nat) (q : Req) (s : State) : List (Nat × Bool) :=
  commonErrs code q s ++
    (if s.calibrating q.page.toNat ∧ code ≠ 1 ∧ code ≠ 6 then (c.errs q s).filter lastingErr ++ [(eBUSY, true)]
     else c.errs q s)

/-- A command reaches its page: its error code, OK if it is accepted, and the state after it. -/
def offer (code : Nat) (c : Cmd) (q : Req) (s : State) : Nat × State :=
  let e := firstErr (c.grounds code q s)
  if e = eOK then (eOK, c.run q (s.accept code q)) else (e, s.reject code q e)

end Sys2Proof.Machine
end

