-- ==== Sys2Proof/Machine/Maps.lean ====
section
/-! DEFINITION. Reading a wheel's TB-to-angle map: the angle of a TB and the TB of an angle (R116, R119, R120). -/

namespace Sys2Proof.Machine

/-- An unwrapped angle as an angle position (R7). -/
def angWord (a : Int) : Word := BitVec.ofNat 32 (unsigned 32 a)

/-- (T − A) modulo 2^32 (R116). -/
def angDiff (t a : Nat) : Nat := (t + 2 ^ 32 - a % 2 ^ 32) % 2 ^ 32

/-- T is ahead of A, or equal to it (R116). -/
def angAhead (t a : Nat) : Bool := decide (angDiff t a < 2 ^ 31)

/-- The start and the end of a map. -/
def AMap.start (m : AMap) : Int := m.th.headD 0
def AMap.stop (m : AMap) : Int := m.th.getLastD 0
def AMap.tStart (m : AMap) : Nat := m.t.headD 0
def AMap.tStop (m : AMap) : Nat := m.t.getLastD 0

/-- Whether a TB lies in the interval of a map. -/
def AMap.holds (m : AMap) (t : Nat) : Bool := decide (m.tStart ≤ t) && decide (t < m.tStop)

/-- The angle of a TB: floor(θ_i + s_i × (t − t_i)) with the held slope of its segment (R120). -/
def segAngle : List Nat → List Int → List Nat → Nat → Int
  | t0 :: t1 :: ts, a0 :: a1 :: as, s0 :: ss, t =>
    if t < t1 ∨ ts = [] then a0 + ((s0 * (t - t0) / 2 ^ 24 : Nat) : Int) else segAngle (t1 :: ts) (a1 :: as) ss t
  | _, _, _, _ => 0

def AMap.angle (m : AMap) (t : Nat) : Int := segAngle m.t m.th m.slope t

/-- The TB of an unwrapped angle: t_i + round((T − θ_i) / s_i), ties up, at most t_{i+1} − 1 (R120). -/
def segTime : List Nat → List Int → List Nat → Int → Nat
  | t0 :: t1 :: ts, a0 :: a1 :: as, s0 :: ss, a =>
    if a < a1 ∨ ts = [] then
      let d := (a - a0).toNat * 2 ^ 24
      min (t0 + (2 * d + s0) / (2 * s0)) (t1 - 1)
    else segTime (t1 :: ts) (a1 :: as) ss a
  | _, _, _, _ => 0

def AMap.time (m : AMap) (a : Int) : Nat := segTime m.t m.th m.slope a

def State.mapOf (s : State) (u : Nat) : MapSt := s.maps.get {} u
def State.setMap (s : State) (u : Nat) (x : MapSt) : State := { s with maps := s.maps.set {} u x }

/-- The map that was published for the interval that contains a TB. -/
def MapSt.find (m : MapSt) (t : Nat) : Option AMap := ([m.cur, m.nxt, m.prv].filterMap id).find? (fun x => x.holds t)

/-- The angle stamp of a TB on a wheel, if a map was published for the interval that contains it (R78, R120, R282). -/
def State.angleAt (s : State) (u t : Nat) : Option Word := ((s.mapOf u).find t).map (fun m => angWord (m.angle t))

end Sys2Proof.Machine
end

