-- ==== Sys2Proof/Machine/WheyOps.lean ====
section
/-! DEFINITION. Handing records to Whey and counting losses (R280 to R283, R287 to R289). -/

namespace Sys2Proof.Machine

/-- The wheel of a record's angle stamp (R282): a pin channel's CHCFG.WHEEL, a wheel unit itself, else CFG.ANGWHEEL. -/
def State.stampWheel (s : State) (origin : Nat) : Nat :=
  if 0x100 ≤ origin ∧ origin < 0x1A0 then
    s.fld (pagePCHG ((origin - 0x100) / 16)) (Off.pchg_CHCFG ((origin - 0x100) % 16)) 10 3
  else if 0x1B0 ≤ origin ∧ origin ≤ 0x1B7 then origin - 0x1B0
  else s.fld pageWHEY Off.whey_CFG 1 3

/-- An entry of the summary table. -/
def State.sumEntry (s : State) (i : Nat) : SumEntry := s.whey.sums.get {} i

/-- The entry for a key: one that counts it, else a free one below 63, else 63 (R288). -/
def sumSlot (m : Store SumEntry) (cls origin : Nat) (item : Bool) : Nat :=
  match m.find? (fun e => e.2.cls == cls && e.2.origin == origin && e.2.item == item && e.1 != 63) with
  | some e => e.1
  | none => ((List.range 63).find? (fun i => !m.has i)).getD 63

/-- A TRACE stream loses records: the next one kept stands for them (R290). -/
def streamLose (l : List TrStream) (origin kind count : Nat) : List TrStream :=
  if l.any (fun t => t.origin == origin && t.kind == kind) then
    l.map (fun t => if t.origin == origin && t.kind == kind then { t with lost := t.lost + count } else t)
  else l ++ [{ origin := origin, kind := kind, k := 0, lost := count }]

/-- The page of the block that writes the records of a TRACE stream (R281). -/
def TrStream.page (t : TrStream) : Nat :=
  if t.kind = 2 then pageANG else if t.origin < 0x1A0 then pagePCHG ((t.origin - 0x100) / 16) else pageWU (t.origin - 0x1B0)

/-- The streams of a block count from 1 again (R290). -/
def State.restartStreams (s : State) (p : Nat) : State :=
  { s with whey := { s.whey with streams := s.whey.streams.map (fun t => if t.page = p then { t with k := 0 } else t) } }

/-- A loss is counted in the summary table, and in its stream if it is a TRACE record (R288 to R290). -/
def State.lose (s : State) (cls origin : Nat) (item : Bool) (kind count tb : Nat) : State :=
  let i := sumSlot s.whey.sums cls origin item
  let e := s.sumEntry i
  let e' : SumEntry :=
    { cls := cls, origin := if i = 63 then 0xFFF else origin, item := item, kind := kind,
      count := min (e.count + count) 0xFFFFFFFF, first := if e.count = 0 then tb else e.first, last := tb }
  let s := { s with whey := { s.whey with sums := s.whey.sums.set {} i e' } }
  let s := if cls = 2 ∧ !item then
    { s with whey := { s.whey with streams := streamLose s.whey.streams origin kind count } } else s
  if i = 63 then s.addSat pageWHEY Off.whey_SUMLOST 0 16 count else s

/-- A Whey record of a LOG or TRACE class joins its block's queue: 4 entries, 8 for a cluster; a full queue loses it (R283). -/
def State.hand (s : State) (block : Nat) (r : WRec) : State :=
  let cap := if pageKind block = some .cl then 8 else 4
  if (s.whey.queued.filter (·.1 == block)).length < cap then
    { s with whey := { s.whey with queued := s.whey.queued ++ [(block, r)] } }
  else s.lose r.cls r.origin false r.kind 1 r.tb

/-- A record with the angle stamp of R282. -/
def State.mkRec (s : State) (cls origin kind tb wheel : Nat) (body : List Word) : WRec :=
  { cls := cls, origin := origin, kind := kind, rep := 1, tb := tb, wheel := wheel, ang := s.angleAt wheel tb,
    coal := false, body := body }

/-- A block writes a LOG record. -/
def State.log (s : State) (block origin kind tb : Nat) (body : List Word) : State :=
  s.hand block (s.mkRec 1 origin kind tb (s.stampWheel origin) body)

/-- A block writes a TRACE record. -/
def State.trace (s : State) (block origin kind tb wheel : Nat) (body : List Word) : State :=
  s.hand block (s.mkRec 2 origin kind tb wheel body)

/-- A block raises an ALARM: it waits in its pending-alarm register, where one of the same ORIGIN and KIND gathers it (R283). -/
def State.alarm (s : State) (origin kind tb : Nat) (body : List Word) : State :=
  if s.whey.alarms.any (fun a => a.origin == origin && a.kind == kind) then
    { s with whey := { s.whey with alarms := s.whey.alarms.map (fun a =>
        if a.origin == origin && a.kind == kind then { a with rep := min (a.rep + 1) 0xFFFF } else a) } }
  else
    { s with whey := { s.whey with
        alarms := s.whey.alarms ++ [s.mkRec 0 origin kind tb (s.stampWheel origin) body] } }

/-- ORIGIN of a record that concerns a block by its page (R280). -/
def originOf (p : Nat) : Nat := pageSource (basePage p)

end Sys2Proof.Machine
end

