-- ==== Sys2Proof/Machine/Hooks.lean ====
section
/-! DEFINITION. What one block hands to another in the same clock: event lines of clusters (R144, R173) and converter triggers
(R72). -/

namespace Sys2Proof.Machine

def State.clu (s : State) (c : Nat) : Clu := s.clus.get {} c
def State.setClu (s : State) (c : Nat) (x : Clu) : State := { s with clus := s.clus.set {} c x }

/-- Task states (R191). -/
def tIDLE : Nat := 0
def tREADY : Nat := 1
def tRUNNING : Nat := 2
def tSTALLED : Nat := 3
def tCANCELLED : Nat := 4
def tDONE : Nat := 5

/-- A task waits in WAITEV for an event of a mask bit. -/
def TaskSt.waits (t : TaskSt) (i : Nat) : Bool := t.st == tSTALLED && !t.shiftWait && bitOf t.mask i

/-- The tasks of a cluster that wait on a mask bit become READY (R144, R169). -/
def State.wakeBit (s : State) (c i : Nat) : State :=
  let x := s.clu c
  s.setClu c { x with tasks := x.tasks.map (fun e => (e.1, if e.2.waits i then { e.2 with st := tREADY } else e.2)) }

/-- An occurrence on an event line: it wakes the tasks that wait, or stays latched (R173). -/
def State.lineOccurs (s : State) (c i : Nat) : State :=
  if (s.clu c).tasks.any (fun e => e.2.waits (4 + i)) then s.wakeBit c (4 + i)
  else s.setClu c { s.clu c with latch := (s.clu c).latch ||| BitVec.ofNat 12 (2 ^ i) }

/-- KIND and INDEX of an event line (R173). -/
def State.evsel (s : State) (c i : Nat) : Nat × Nat :=
  (s.fld (pageCL c) (Off.cl_EVSEL i) 0 3, s.fld (pageCL c) (Off.cl_EVSEL i) 8 8)

/-- An occurrence on the event lines that name a source kind and an index (R173). -/
def State.occur (s : State) (kind idx : Nat) : State :=
  (List.range 16).foldl (fun s c =>
    if !s.pageOn (pageCL c) then s else
    (List.range 12).foldl (fun s i => if s.evsel c i = (kind, idx) then s.lineOccurs c i else s) s) s

def State.chan (s : State) (c : Nat) : Chan := s.chans.get {} c
def State.setChan (s : State) (c : Nat) (x : Chan) : State := { s with chans := s.chans.set {} c x }

/-- A field of CHCFG. -/
def chPage (c : Nat) : Nat := pagePCHG (c / 16)
def State.chcfg (s : State) (c lo len : Nat) : Nat := s.fld (chPage c) (Off.pchg_CHCFG (c % 16)) lo len

/-! ### Shift units (R157 to R159) -/

/-- MODE of a descriptor (R158). -/
def ShiftSt.mode (x : ShiftSt) : Nat := fieldOf x.w0 0 3
def ShiftSt.lsbf (x : ShiftSt) : Bool := fieldOf x.w0 3 1 == 1
def ShiftSt.idle (x : ShiftSt) : Bool := fieldOf x.w0 4 1 == 1
def ShiftSt.inv (x : ShiftSt) : Bool := fieldOf x.w0 5 1 == 1
def ShiftSt.thresh (x : ShiftSt) : Nat := fieldOf x.w0 8 6
def ShiftSt.timeout (x : ShiftSt) : Nat := fieldOf x.w0 16 8
def ShiftSt.unit (x : ShiftSt) : Nat := fieldOf x.w1 0 24
def ShiftSt.frm (x : ShiftSt) : Nat := fieldOf x.w1 24 6
def ShiftSt.receives (x : ShiftSt) : Bool := x.mode == 1 || x.mode == 2 || x.mode == 3
def ShiftSt.transmits (x : ShiftSt) : Bool := x.mode == 4 || x.mode == 5

def State.unit (s : State) (c : Nat) : ShiftSt := (s.chan c).shift
def State.setUnit (s : State) (c : Nat) (x : ShiftSt) : State := s.setChan c { s.chan c with shift := x }

/-- A unit signals readiness (R159). -/
def State.shiftReady (s : State) (c : Nat) : Bool :=
  let x := s.unit c
  s.pageOn (chPage c) && x.thresh != 0 &&
    ((x.receives && decide (x.thresh ≤ x.buf.length)) || (x.transmits && decide (x.thresh + x.buf.length ≤ 32)))

/-! ### Levels (R144, R173, R177) -/

/-- Byte address of the bounce ring (R177, R190). -/
def State.bncBase (s : State) (c : Nat) : Nat := s.fld (pageCL c) Off.cl_BNCCFG 4 12 * 16

def State.sharedAt (s : State) (c a : Nat) : Word := (s.clu c).shared.word a

def State.setShared (s : State) (c a : Nat) (w : Word) : State :=
  s.setClu c { s.clu c with shared := (s.clu c).shared.setWord a w }

/-- The bounce ring of a cluster is not empty. -/
def State.bounced (s : State) (c : Nat) : Bool := s.sharedAt c (s.bncBase c) != s.sharedAt c (s.bncBase c + 4)

/-- A level event that a mask selects is true (R144, R173). -/
def State.levelTrue (s : State) (c mask : Nat) : Bool :=
  (bitOf mask 0 && (s.clu c).msgq != []) || (bitOf mask 1 && (s.clu c).ecq != []) ||
    (List.range 12).any (fun i => bitOf mask (4 + i) &&
      (((s.evsel c i).1 == 3 && s.shiftReady (s.evsel c i).2) || ((s.evsel c i).1 == 5 && s.bounced c)))

/-- Tasks that wait on a level which is true become READY. -/
def State.wakeLevels (s : State) : State :=
  { s with clus := s.clus.map (fun e => (e.1, { e.2 with tasks := e.2.tasks.map (fun t =>
      (t.1, if t.2.st == tSTALLED && !t.2.shiftWait && s.levelTrue e.1 t.2.mask then { t.2 with st := tREADY } else t.2)) })) }

/-! ### Converter triggers (R202) -/

def State.adc (s : State) (n : Nat) : AdcCore := s.adcs.get {} n
def State.setAdc (s : State) (n : Nat) (x : AdcCore) : State := { s with adcs := s.adcs.set {} n x }

/-- A source of converter triggers acts: kind and event of TRGCFG, and its index. Each core that selects it gets a trigger point
TRGDLY later. -/
def State.triggerSrc (s : State) (kind evt idx tb : Nat) : State :=
  (List.range 5).foldl (fun s n => (List.range 4).foldl (fun s i =>
    let p := pageADC n
    if s.active p && s.fld p (Off.adc_TRGCFG i) 0 4 == kind + 4 * evt && s.fld p (Off.adc_TRGCFG i) 16 8 == idx then
      let x := s.adc n
      s.setAdc n { x with due := x.due ++ [(i, tb + s.fld p (Off.adc_TRGDLY i) 0 16)] }
    else s) s) s

/-- A compare entry triggers every converter whose trigger source names the channel (R72). -/
def State.triggerFrom (s : State) (chan tb : Nat) : State := s.triggerSrc 1 0 chan tb

def State.wheel (s : State) (u : Nat) : Wheel := s.wheels.get {} u
def State.setWheel (s : State) (u : Nat) (x : Wheel) : State := { s with wheels := s.wheels.set {} u x }

/-- Block state SYNTH of a wheel unit (R107). -/
def stSYNTH : Nat := 0x10

def State.pwm (s : State) (m : Nat) : PwmMod := s.pwms.get {} m
def State.setPwm (s : State) (m : Nat) (x : PwmMod) : State := { s with pwms := s.pwms.set {} m x }

/-- The count at a TB, while the module runs (R240). -/
def PwmMod.countAt (x : PwmMod) (t : Nat) : Nat := min x.per (x.cnt + (t - x.t) / 2)

/-- A module that leaves ACTIVE stops its counter (R240). -/
def State.stopPwm (s : State) (m : Nat) : State :=
  let x := s.pwm m
  s.setPwm m { x with cnt := x.countAt s.now, t := s.now }

/-- A block enters FAULT in the clock in which it detects the fault (R37); the availability logic takes note (R371). -/
def State.blockFault (s : State) (p : Nat) : State :=
  let spare := s.st p == stSPARE
  let used := s.active p || spare
  let s := if s.active p ∧ pageKind p = some .pwm then s.stopPwm (pageInst p) else s
  let s := s.setSt p stFAULT
  { s with lost := if !used || s.lost.any (fun (e : Nat × Bool) => e.1 == p) then s.lost else s.lost ++ [(p, spare)] }

end Sys2Proof.Machine
end

