-- ==== Sys2Proof/Machine/RsmpOps.lean ====
section
/-! DEFINITION. What other blocks do to the resampler: samples arrive, windows close early (R213, R224, R233). -/

namespace Sys2Proof.Machine

def State.lane (s : State) (l : Nat) : Lane := s.lanes.get {} l
def State.setLane (s : State) (l : Nat) (x : Lane) : State := { s with lanes := s.lanes.set {} l x }

def lanePage (l : Nat) : Nat := pageRSML (l / 2)
def State.lcfg (s : State) (l lo len : Nat) : Nat := s.fld (lanePage l) (Off.rsml_LCFG (l % 2)) lo len
def State.laneOn (s : State) (l : Nat) : Bool := s.lcfg l 0 1 == 1 && s.active pageRSMP
def State.laneWheel (s : State) (l : Nat) : Nat := s.lcfg l 16 3

/-- Modes in which the resampler produces records (R235). -/
def State.rsmpMode (s : State) : Bool := s.md == mRUN || s.md == mLIMP || s.md == mBENCH || s.md == mHALT || s.md == mSAFE

def State.resamples (s : State) : Bool := s.active pageRSMP && s.rsmpMode

/-- The lanes. -/
def laneList : List Nat := List.range 16

/-- A lane takes samples while it is in use, and then while grid points of closed windows wait for theirs (R224, R233). -/
def State.laneTakes (s : State) (l : Nat) : Bool := s.lcfg l 0 1 == 1 && (s.active pageRSMP || !(s.lane l).wins.isEmpty)

/-- A sample as a lane keeps it. -/
def SampRec.inLane (r : SampRec) (stored : Nat) : LSamp :=
  { tb := r.tb, val := r.value, rng := r.rng, settle := r.settle, diag := r.diag, stored := stored }

/-- A window that the lane's input has been taken from still takes the samples of that input (R233). -/
def RWin.hand (r : SampRec) (stored : Nat) (w : RWin) : RWin :=
  match w.input with
  | some i => if i.ain = r.ain ∧ ¬(r.urgent = true ∧ i.nourg = true) then
      { w with input := some { i with samps := i.samps ++ [r.inLane stored] } } else w
  | none => w

/-- A sample is handed to the lanes that take its input, and to the closed windows that still wait for it (R213, R224, R233). -/
def handSample (r : SampRec) (s : State) : State :=
  laneList.foldl (fun s l =>
    let x := s.lane l
    let takes := s.laneTakes l && s.lcfg l 8 6 == r.ain && !(r.urgent && s.lcfg l 2 1 == 1)
    if !takes && x.wins.isEmpty then s
    else s.setLane l { x with samps := if takes then x.samps ++ [r.inLane s.now] else x.samps,
                              wins := x.wins.map (RWin.hand r s.now) }) s

/-- Flags of a Curd record's second word (R232). -/
def curdWEND : Nat := 2 ^ 29
def curdPARTIAL : Nat := 2 ^ 30
def curdMARKER : Nat := 2 ^ 31
def curdSYNCCHG : Nat := 2 ^ 26

/-- Mark the last of the grid points. -/
def markLast : List GPoint → List GPoint
  | [] => []
  | [g] => [{ g with last := true }]
  | g :: t => g :: markLast t

/-- A window is open: grid points of it lie at or after the present clock, or are not converted yet. -/
def RWin.openAt (w : RWin) (t : Nat) : Bool := !w.part && (!w.done || w.points.any (fun g => decide (t ≤ g.t)))

/-- An open window is closed early at a clock (R233). -/
def RWin.close (t : Nat) (sync : Bool) (w : RWin) : RWin :=
  if w.openAt t then
    { w with done := true, part := true, sync := w.sync || sync,
             points := markLast ((w.points.filter (fun g => decide (g.t < t))).map (fun g => { g with sync := g.sync || sync })) }
  else w

/-- The last record of a window that was closed early, if it lies in the ring already, carries WEND and PARTIAL (R233). -/
def patchLast (w : RWin) (s : State) : State :=
  match w.points, w.lastAt with
  | [], some a => { s with smem := s.smem.setWord a (s.smem.word a ||| BitVec.ofNat 32 (curdWEND + curdPARTIAL)) }
  | _, _ => s

/-- Every open window of a lane closes early (R233). -/
def closeLane (l t : Nat) (sync : Bool) (s : State) : State :=
  let x := s.lane l
  let n := (x.wins.filter (·.openAt t)).length
  if n = 0 then s else
  let ws := x.wins.map (RWin.close t sync)
  let s := s.setLane l { x with wins := ws }
  let s := (x.wins.zip ws).foldl (fun s w => if w.1.openAt t then patchLast w.2 s else s) s
  (s.addSat pageRSMP Off.rsmp_PARTCNT 0 16 n).intSet pageRSMP 17

/-- The windows of the lanes of a set of wheels close with a loss of the map (R233). -/
def closeWheelLanes (loses : Nat → Bool) (s : State) : State :=
  laneList.foldl (fun s l => if loses (s.laneWheel l) then closeLane l s.now true s else s) s

/-- A change between FULL_SYNC and CAM_ONLY, or a map without δ: the records of an open window from here on carry SYNCCHG (R227). -/
def markWheelLanes (takes : Nat → Bool) (s : State) : State :=
  laneList.foldl (fun s l =>
    if takes (s.laneWheel l) then
      let x := s.lane l
      s.setLane l { x with wins := x.wins.map (fun w => if w.openAt s.now then
        { w with sync := true, points := w.points.map (fun g => { g with sync := g.sync || decide (s.now ≤ g.t) }) } else w) }
    else s) s

end Sys2Proof.Machine
end

