-- ==== Sys2Proof/Machine/CalOps.lean ====
section
/-! DEFINITION. Calendar events: their storage, how they end, and what cancels them (R122 to R130). -/

namespace Sys2Proof.Machine

/-- Owner number of the host (R122). -/
def hostOwner : Nat := 0x1F

def State.ev (s : State) (slot : Nat) : Option CalEv := s.cal.evs.find? (fun e => e.slot == slot)

/-- Change one event. -/
def State.setEv (s : State) (e : CalEv) : State :=
  { s with cal := { s.cal with evs := s.cal.evs.map (fun x => if x.slot = e.slot then e else x) } }

/-- An event leaves the calendar: its slot is free. -/
def State.dropEv (s : State) (slot : Nat) : State :=
  { s with cal := { s.cal with evs := s.cal.evs.filter (fun x => x.slot != slot) } }

/-- The handle of an event (R124). -/
def CalEv.handle (e : CalEv) : Nat := e.slot + e.gen * 2 ^ 14

/-- Words 4 to 7 of a completion record (R128). -/
def CalEv.words (e : CalEv) : List Word :=
  [ BitVec.ofNat 32 e.handle, BitVec.ofNat 32 (e.status + e.kind * 2 ^ 8 + e.pch * 2 ^ 16),
    BitVec.ofNat 32 e.target, BitVec.ofNat 32 (e.target / 2 ^ 32 % 2 ^ 16) ]

/-- The entry as four words (R122). -/
def CalEv.entry (e : CalEv) : List Word :=
  [ BitVec.ofNat 32 e.target, BitVec.ofNat 32 (e.target / 2 ^ 32 % 2 ^ 16 + e.tag * 2 ^ 16),
    BitVec.ofNat 32 (e.pch + e.kind * 2 ^ 8 + bit e.angle * 2 ^ 11 + e.wheel * 2 ^ 12 + bit e.drop * 2 ^ 15 +
      bit e.nextcyc * 2 ^ 16 + bit e.cpl * 2 ^ 17 + e.owner * 2 ^ 19 + e.epoch * 2 ^ 24),
    BitVec.ofNat 32 e.dur ]

/-- The statuses (R127). -/
def evFIRED : Nat := 0
def evFIREDLATE : Nat := 1
def evDROPPED : Nat := 2
def evCANCELLED : Nat := 3
def evSYNCLOST : Nat := 4
def evREFUSED : Nat := 5
def evDISCARDED : Nat := 6

/-- The counts that go with a status: LATECNT and SYNCCAN with their flags (R130, R131). -/
def State.countEnd (s : State) (status : Nat) : State :=
  if status = evFIREDLATE then (s.addSat pageANG Off.ang_LATECNT 0 16 1).intSet pageANG 17
  else if status = evDROPPED then (s.addSat pageANG Off.ang_LATECNT 16 16 1).intSet pageANG 17
  else if status = evSYNCLOST then (s.addSat pageANG Off.ang_SYNCCAN 0 16 1).intSet pageANG 19
  else s

/-- An event ends: its status and TB, its TRACE record, and, where it wants no record, its entry is free (R127, R128). -/
def State.endEv (s : State) (e : CalEv) (status code tb : Nat) : State :=
  let e := { e with st := 2, status := status, code := code, tb := tb, fin := s.cal.fin }
  let wheel := if e.angle then e.wheel else s.stampWheel (0x100 + e.pch)
  let s := s.trace pageANG (0x100 + e.pch) 0x002 tb wheel e.words
  let s := s.countEnd status
  let s := { s with cal := { s.cal with fin := s.cal.fin + 1 } }
  if e.owner = hostOwner ∧ !e.cpl then s.dropEv e.slot else s.setEv e

/-- The compare entries of an event are removed from its channel's queue; a new head can fire from the next clock on (R72). -/
def State.unload (s : State) (e : CalEv) : State :=
  let x := s.chan e.pch
  let q := x.cq.filter (fun k => k.ev != some e.slot)
  s.setChan e.pch { x with cq := q, headTb := if q.head? = x.cq.head? then x.headTb else s.now + 1 }

/-- An event that has not ended is cancelled with a status and a code (R95, R126). -/
def State.cancelEv (s : State) (e : CalEv) (status code : Nat) : State :=
  if e.st = 2 then s
  else if e.st = 1 then (s.unload e).endEv e status code s.now
  else s.endEv e status code s.now

/-- Cancel every event that meets a test; answers how many. -/
def State.cancelAll (s : State) (test : CalEv → Bool) (status code : Nat) : Nat × State :=
  let l := s.cal.evs.filter (fun e => e.st != 2 && test e)
  (l.length, l.foldl (fun s e => s.cancelEv e status code) s)

/-- Every pending event is cancelled: DISABLE of ANG, DISARM, DORMANT (R126, R328, R337). -/
def State.cancelCalendar (s : State) : State := (s.cancelAll (fun _ => true) evCANCELLED eSTATE).2

/-- Events whose compare entries a channel discards end DISCARDED (R77, R127). -/
def State.discardQueue (s : State) (c code : Nat) : State :=
  let x := s.chan c
  let s := s.setChan c { x with cq := [] }
  x.cq.foldl (fun s k => match k.ev with
    | none => s
    | some i => match s.ev i with
      | none => s
      | some e => s.endEv e evDISCARDED code s.now) s

/-- A quadrant of the calendar leaves ON: every unloaded event in it ends DISCARDED, its TARGET words reading zero (R380). -/
def State.quadrantLost (s : State) (q : Nat) : State :=
  (s.cal.evs.filter (fun e => e.st == 0 && e.slot / 4096 == q)).foldl
    (fun s e => s.endEv { e with target := 0 } evDISCARDED ePOWER s.now) s

end Sys2Proof.Machine
end

