-- ==== Sys2Proof/Machine/IdxOps.lean ====
section
/-! DEFINITION. What other blocks use of the Idxia chain: the line, port states, sending a frame (R310 to R313, R317), and twin
takeovers of wheels (R376). -/

namespace Sys2Proof.Machine

def State.devnum (s : State) : Nat := s.fld (pageIDX 0) Off.idx_CHAIN 0 2
def State.lastDev (s : State) : Nat := s.fld (pageIDX 0) Off.idx_CHAIN 2 2

/-- Partner states (R312, R319). -/
def pABSENT : Nat := 0
def pTRAINING : Nat := 1
def pAUTHENTICATING : Nat := 2
def pUP : Nat := 3
def pDEGRADED : Nat := 4
def pQUARANTINED : Nat := 5

def State.idx (s : State) (p : Nat) : IdxPort := if p = 0 then s.idx0 else s.idx1
def State.setIdx (s : State) (p : Nat) (x : IdxPort) : State := if p = 0 then { s with idx0 := x } else { s with idx1 := x }

/-- PSTAT.STATE of a port. -/
def State.pst (s : State) (p : Nat) : Nat := s.fld (pageIDX p) Off.idx_PSTAT 0 3

/-- A port carries frames of the chain: UP or DEGRADED. -/
def State.portUp (s : State) (p : Nat) : Bool := s.active (pageIDX p) && (s.pst p == pUP || s.pst p == pDEGRADED)

/-- NOAUTH of a port. -/
def State.noauth (s : State) (p : Nat) : Bool := s.flag (pageIDX p) Off.idx_LCFG 1

/-- TYPE of a frame (R311). -/
def payloadType : Payload → Nat
  | .hello _ => 1 | .auth _ => 2 | .time _ => 3 | .map _ => 4 | .state _ => 5 | .msg _ _ _ => 6 | .bounce _ _ => 7 | .credit _ => 8

/-- The 64-bit header of a frame, in the byte order of registers (R6, R311). -/
def headerBytes (h : FrameHdr) (l : Payload) : List Byte :=
  leBytes 8 (payloadType l + h.src.toNat * 2 ^ 8 + h.dst.toNat * 2 ^ 10 + bit h.bcast * 2 ^ 12 + h.fseq.toNat * 2 ^ 16)

/-- A frame on the wire up to its CRC: header, payload, tag (R311). -/
def wireBytes (h : FrameHdr) (l : Payload) : List Byte := headerBytes h l ++ Config.payloadBytes l ++ wordBytes h.tag

/-- The tag of a frame (R311): zero in HELLO and AUTH and under NOAUTH, else the first 32 bits of the CMAC under the session
key over the 64-bit frame count and the frame up to its tag. -/
def State.frameTag (s : State) (p cnt : Nat) (h : FrameHdr) (l : Payload) : Word :=
  match l with
  | .hello _ => 0
  | .auth _ => 0
  | _ => if s.noauth p then 0 else
    match (s.idx p).key with
    | some k => (Config.aesCmac k (leBytes 8 cnt ++ headerBytes h l ++ Config.payloadBytes l)).extractLsb' 96 32
    | none => 0

/-- A frame leaves a port: it is numbered, tagged and counted; every frame but CREDIT uses a credit and is kept (R311). -/
def State.transmit (s : State) (p : Nat) (src dst : BitVec 2) (bcast : Bool) (l : Payload) : State :=
  let x := s.idx p
  let h : FrameHdr := { src := src, dst := dst, bcast := bcast, fseq := BitVec.ofNat 16 x.txCnt }
  let h := { h with tag := s.frameTag p x.txCnt h l }
  let f : TxFrame := { cnt := x.txCnt, hdr := h, load := l, crc := crc32 (wireBytes h l) }
  let keep := match l with | .credit _ => false | _ => true
  let s := s.setReg (pageIDX p) Off.idx_TXFRM (s.reg (pageIDX p) Off.idx_TXFRM + 1)
  s.setIdx p { x with
    txCnt := x.txCnt + bit keep, last := some f, cred := if keep then x.cred - 1 else x.cred,
    unacked := if keep then x.unacked ++ [f] else x.unacked }

/-- A frame is given to a port: CREDIT goes at once, another waits while no credit is held. -/
def State.idxSend (s : State) (p : Nat) (src dst : BitVec 2) (bcast : Bool) (l : Payload) : State :=
  let x := s.idx p
  match l with
  | .credit _ => s.transmit p src dst bcast l
  | _ =>
    if x.cred = 0 ∨ x.waiting ≠ [] then s.setIdx p { x with waiting := x.waiting ++ [(src, dst, bcast, l)] }
    else s.transmit p src dst bcast l

/-- A frame of this device goes to every other device of the chain (R317). -/
def State.idxCast (s : State) (l : Payload) : State :=
  let d := BitVec.ofNat 2 s.devnum
  let s := if s.portUp 0 then s.idxSend 0 d d true l else s
  if s.portUp 1 then s.idxSend 1 d d true l else s

/-- Wheel unit u is exported (R317). -/
def State.exported (s : State) (u : Nat) : Bool := s.flag (pageIDX 0) Off.idx_EXPORT u

/-- Wheel unit u imports (R317). -/
def State.imports (s : State) (u : Nat) : Bool := s.flag (pageIDX 0) (Off.idx_IMP u) 0

/-- PSTAT.ALIGNED of the leader side; device 0 is always aligned (R316). -/
def State.aligned (s : State) : Bool := s.devnum == 0 || s.flag (pageIDX 0) Off.idx_PSTAT 12

/-- The unit that serves wheel u, and what its cycles are raised by (R376). -/
def State.serve (s : State) (u : Nat) : Nat × Int :=
  match s.twins.find? (fun t => t.1 == u) with
  | some t => t.2
  | none => (u, 0)

/-- Whether the state of unit v goes out as that of wheel u: it serves the wheel, and the wheel is exported (R317, R376). -/
def State.castsFor (s : State) (v u : Nat) : Bool := s.exported u && (s.serve u).1 == v

/-- A reference to wheel u is served by unit v. -/
def State.servedBy (s : State) (u v : Nat) : Bool := (s.serve u).1 == v

/-- Every angle event of a wheel that the unit serves is cancelled, loaded ones with their entries (R95, R376). -/
def State.cancelAngles (s : State) (v : Nat) : State :=
  (s.cancelAll (fun e => e.angle && s.servedBy e.wheel v) evSYNCLOST eSTATE).2

/-- The wheel loses its map: its events are cancelled and its windows close (R95, R233). -/
def State.syncLost (s : State) (v : Nat) : State := closeWheelLanes (fun u => s.servedBy u v) (s.cancelAngles v)

end Sys2Proof.Machine
end

