-- ==== Sys2Proof/Machine/Pins.lean ====
section
/-! DEFINITION. Pin channels: compare queue, capture queue, period counter and their commands (R69 to R84). -/

namespace Sys2Proof.Machine

/-- A field of CNTCFG. -/
def State.cntcfg (s : State) (c lo len : Nat) : Nat := s.fld (chPage c) (Off.pchg_CNTCFG (c % 16)) lo len

def State.safeLvl (s : State) (c : Nat) : Bool := s.chcfg c 3 1 == 1

/-- MODE 0b01 or 0b11: a compare output. -/
def State.drivesChan (s : State) (c : Nat) : Bool := s.chcfg c 0 2 % 2 == 1

/-- Hardware sets a CHSTAT flag; an enabled one rings the channel's source each time (R71). -/
def State.chStat (s : State) (c i : Nat) : State :=
  let p := chPage c
  let o := Off.pchg_CHSTAT (c % 16)
  let s := s.event p o (setBit · i)
  s.bellIf (s.flag p (Off.pchg_CHINTEN (c % 16)) i) (0x100 + c)

/-- A pin lies in the live output set (R334). -/
def State.live (s : State) (c : Nat) : Bool := s.flag pageSYS (Off.sys_LIVE (c / 32)) (c % 32)

/-- A pin is held by the rev ceiling (R359). -/
def State.revHeld (s : State) (c : Nat) : Bool := s.rind.hold && s.flag pageRIND (Off.rind_HOMMAP (c / 32)) (c % 32)

/-- The pin of a channel may follow it: RUN, BENCH, or LIMP for the live set (R75), outside a rev-ceiling hold (R359). -/
def State.mayFollow (s : State) (c : Nat) : Bool :=
  (s.md == mRUN || s.md == mBENCH || (s.md == mLIMP && s.live c)) && !s.revHeld c && s.pageOn (chPage c) && !s.mode.safeDue

/-- Pins that may no longer follow wait for the next entry that sets their level (R75). -/
def State.dropFollow (s : State) : State :=
  s.chans.foldl (fun s e => if e.2.follow && !s.mayFollow e.1 then s.setChan e.1 { s.chan e.1 with follow := false } else s) s

/-- CHSTAT.OUTLVL: the level the channel presents to the pin (R75); a transmitting shift unit takes the place of the channel
level (R157). -/
def State.outLvl (s : State) (c : Nat) : Bool :=
  s.drivesChan c && (if (s.chan c).follow && s.mayFollow c then
    (if (s.unit c).transmits then (s.unit c).line else (s.chan c).lvl) else s.safeLvl c)

/-- The pulse end: the level returns to SAFELVL (R74). -/
def endPulse (c : Nat) (s : State) : State := s.setChan c { s.chan c with lvl := s.safeLvl c, pulseEnd := none }

/-- The pending pulse end of a channel comes; a channel of a domain that is not ON waits (R74, R341). -/
def pulseEnd (c : Nat) (s : State) : State :=
  match (s.chan c).pulseEnd with
  | none => s
  | some t => if s.pageOn (chPage c) then endPulse c (s.upTo t) else s

def execPulseEnd (c : Fin 160) (s : State) : Out := .next (pulseEnd c s)

/-- The level change of an edge kind (R72). -/
def edgeLevel (kind : Nat) (lvl safe : Bool) : Bool :=
  if kind = 0 then true else if kind = 1 then false else if kind = 2 then !lvl else !safe

/-- An entry acts in its fire clock (R72, R74, R75). -/
def fireAct (c : Nat) (k : CmpEntry) (f : Nat) (s : State) : State :=
  if k.kind ≤ 3 then
    let s := if (s.chan c).pulseEnd.isSome then (s.setChan c { s.chan c with pulseEnd := none }).chStat c 3 else s
    let x := s.chan c
    s.setChan c { x with
      lvl := edgeLevel k.kind x.lvl (s.safeLvl c), follow := s.mayFollow c,
      pulseEnd := if k.kind = 3 then some (f + k.dur) else none }
  else if k.kind = 4 then s.triggerFrom c f
  else (s.chStat c 4).occur 1 c

/-- What a fired entry leaves behind (R73): FIRED, the queue empty, a late firing counted, and the trace record or the
event's record. -/
def afterFire (c : Nat) (k : CmpEntry) (rest late : Bool) (f : Nat) (s : State) : State :=
  let s := s.chStat c 0
  let s := if rest then s else s.chStat c 1
  let s := if late then (s.chStat c 2).addSat (chPage c) (Off.pchg_CMPLATECNT (c % 16)) 0 8 1 else s
  match k.ev with
  | none =>
    if s.flag pageWHEY Off.whey_TRMASK 1 then
      s.trace (chPage c) (0x100 + c) 0x004 f (s.stampWheel (0x100 + c)) [BitVec.ofNat 32 (k.kind + bit late * 8)]
    else s
  | some i =>
    match s.ev i with
    | none => s
    | some e => if late ∨ e.late then s.endEv e evFIREDLATE eLATE f else s.endEv e evFIRED eOK f

/-- The head entry leaves the queue in clock `f`: the next one can fire one clock later (R73). -/
def popHead (c : Nat) (t : List CmpEntry) (f : Nat) (s : State) : State :=
  s.setChan c { s.chan c with cq := t, headTb := f + 1 }

/-- The head entry of a compare queue fires (R73): in the first clock with TB at or past its target in which it has been
head for a clock. -/
def compareFire (c : Nat) (s : State) : State :=
  match (s.chan c).cq with
  | [] => s
  | k :: t =>
    if !s.pageOn (chPage c) then s else
    let g := s.clockOf k.tgt
    let s := s.upTo (max g (s.chan c).headTb)
    let f := s.now
    let late := decide (g < f)
    let s := match (s.chan c).pulseEnd with
      | some e => if e ≤ f then endPulse c s else s
      | none => s
    afterFire c k (!t.isEmpty) late f (fireAct c k f (popHead c t f s))

def execCompareFire (c : Fin 160) (s : State) : Out := .next (compareFire c s)

/-- An entry joins the tail of a queue, which holds four (R72). -/
def State.pushEntry (s : State) (c : Nat) (k : CmpEntry) : State :=
  let x := s.chan c
  if 4 ≤ x.cq.length then s else
  s.setChan c { x with cq := x.cq ++ [k], headTb := if x.cq = [] then s.now + 1 else x.headTb }

/-! ### Captures -/

/-- CAPEDGE selects a polarity (R70). -/
def State.capSelects (s : State) (c : Nat) (pol : Bool) : Bool := bitOf (s.chcfg c 4 2) (if pol then 0 else 1)

/-- An edge that the filter accepts (R78, R79): stamped with its first sample, enqueued if there is room, else lost. -/
def capture (c t : Nat) (pol : Bool) (s : State) : State :=
  if !s.pageOn (chPage c) ∨ s.chcfg c 0 2 < 2 then s else
  let s := s.upTo (t + 8 * s.chcfg c 6 4)
  let s := s.setChan c { s.chan c with inLvl := pol }
  if !s.capSelects c pol then s else
  let wheel := s.chcfg c 10 3
  let ang := s.angleAt wheel t
  let s := if s.flag pageWHEY Off.whey_TRMASK 0 then
      s.trace (chPage c) (0x100 + c) 0x003 t wheel [BitVec.ofNat 32 (bit pol + bit ang.isSome * 2)] else s
  let x := s.chan c
  if x.capq.length < 4 then
    ((s.setChan c { x with capq := x.capq ++ [{ tb := t, pol := pol, ang := ang }] }).chStat c 5).occur 2 c
  else (s.addSat (chPage c) (Off.pchg_CAPLOST (c % 16)) 0 8 1).chStat c 6

def execCapture (c : Fin 160) (tb : Time) (pol : Bool) (s : State) : Out := .next (capture c (s.clockOf tb.toNat) pol s)

/-- Pop the head of a capture queue (R78 to R80). -/
def popCapture (c : Nat) (s : State) : Option CapEntry × State :=
  match (s.chan c).capq with
  | [] => (none, s)
  | e :: t => (some e, s.setChan c { s.chan c with capq := t })

/-- A host read of CAPPOP: its value, and the hold set takes the popped entry (R78). -/
def hostPop (c : Nat) (s : State) : Word × State :=
  match popCapture c s with
  | (none, s) => (0, s)
  | (some e, s) =>
    let p := chPage c
    let k := c % 16
    let s := s.setReg64 p (Off.pchg_CAPH_TB_LO k) (Off.pchg_CAPH_TB_HI k) e.tb
    let s := s.setReg p (Off.pchg_CAPH_ANG k) (e.ang.getD 0)
    (BitVec.ofNat 32 (1 + bit e.pol * 2 + bit e.ang.isSome * 4 + (s.chan c).capq.length * 8), s)

/-! ### The period counter -/

/-- The counter runs: CNTEN, the block ACTIVE, TOP not 0 (R81). -/
def State.counting (s : State) (c : Nat) : Bool :=
  s.cntcfg c 0 1 == 1 && s.active (chPage c) && (s.chan c).top != 0

/-- Committed TOP, CNTMATCH and BLANKWIN are applied (R82); TOP 0 holds the counter at 0 (R81). -/
def State.applyCounter (s : State) (c : Nat) : State :=
  let p := chPage c
  let k := c % 16
  let top := (s.reg p (Off.pchg_CNTTOP k)).toNat
  let x := s.chan c
  s.setChan c { x with top := top, mat := (s.reg p (Off.pchg_CNTMATCH k)).toNat, win := (s.reg p (Off.pchg_BLANKWIN k)).toNat,
                       cnt := if top = 0 then 0 else x.cnt }

/-- One step of a counter that runs: the count, its direction and its flags (R81, R82). -/
def counterStep (c : Nat) (s : State) : State :=
  if !s.counting c then s else
  let x := s.chan c
  let s := s.upTo x.stepTb
  let down := if x.down then x.cnt != 0 else decide (x.top ≤ x.cnt)
  let cnt := if down then x.cnt - 1 else x.cnt + 1
  let s := s.setChan c { x with cnt := cnt, down := down, stepTb := s.now + 2 ^ s.cntcfg c 1 4 }
  let s := if !down ∧ cnt = x.top then (s.chStat c 7).triggerSrc 2 0 c s.now else s
  let s := if cnt = x.mat ∧ bitOf (s.cntcfg c 5 2) (if down then 1 else 0) then (s.chStat c 9).triggerSrc 2 2 c s.now else s
  if down ∧ cnt = 0 then ((s.chStat c 8).triggerSrc 2 1 c s.now).applyCounter c else s

/-- The blanking signal of a channel (R82). -/
def State.blanking (s : State) (c : Nat) : Bool := decide ((s.chan c).cnt < (s.chan c).win)

/-- The blanking signal in a TB clock that is this one or the next, with the steps that fall in it (R82, R247). -/
def State.blankingAt (s : State) (c t : Nat) : Bool :=
  let step (s : State) : State := if s.counting c ∧ (s.chan c).stepTb ≤ t then counterStep c s else s
  (step (step s)).blanking c

/-- A counter that does not step takes committed values at the boundary itself; one that TOP 0 held starts from 0 there (R82). -/
def applyIdle (c : Nat) (s : State) : State :=
  if s.counting c then s
  else
    let s := s.applyCounter c
    if s.counting c then s.setChan c { s.chan c with stepTb := s.now + 2 ^ s.cntcfg c 1 4 } else s

/-- The counters of a page that do not step (R82). -/
def applyIdleCounters (p : Nat) (s : State) : State :=
  (List.range 16).foldl (fun s k => applyIdle (16 * (p - 0x030) + k) s) s

/-- The counters of a page start when its block becomes ACTIVE: from 0 counting up, or from what STAGGER loaded (R81, R83). -/
def startCounters (p : Nat) (s : State) : State :=
  (List.range 16).foldl (fun s k =>
    let c := 16 * (p - 0x030) + k
    let x := s.chan c
    let x := if x.held ∧ x.top ≠ 0 then x else { x with cnt := 0, down := false }
    s.setChan c { x with held := false, stepTb := s.now + 2 ^ s.cntcfg c 1 4 }) s

/-- RESET_BLOCK or a domain reset empties the queues of a page, drops pulse ends and stops the counters at 0 (R77). -/
def resetPins (p code : Nat) (s : State) : State :=
  (List.range 16).foldl (fun s k =>
    let c := 16 * (p - 0x030) + k
    let s := s.discardQueue c code
    s.setChan c { s.chan c with capq := [], pulseEnd := none, cnt := 0, down := false, held := false }) s

/-! ### Block commands -/

/-- The channels that a command selects: CHSEL, or ARG word 2 from the ring (R76, R83). -/
def selection (q : Req) (s : State) : List Nat :=
  let p := q.page.toNat
  let m := if q.src = .ring then q.args.w2.toNat % 2 ^ 16 else s.fld p Off.pchg_CHSEL 0 16
  ((List.range 16).filter (fun k => m / 2 ^ k % 2 == 1)).map (fun k => 16 * (p - 0x030) + k)

/-- The staged entry of a channel (R76). -/
def State.staged (s : State) (c : Nat) : CmpEntry :=
  let p := chPage c
  let k := c % 16
  { tgt := s.reg64 p (Off.pchg_CMPSTG_LO k) (Off.pchg_CMPSTG_HI k), kind := s.fld p (Off.pchg_CMPSTG_KIND k) 0 3,
    dur := (s.reg p (Off.pchg_CMPSTG_DUR k)).toNat, ev := none }

/-- A command of a PCHG page runs in the states that R77 lists. -/
def pchgState (inActiveOnly : Bool) (q : Req) (s : State) : List (Nat × Bool) :=
  let st := s.st q.page.toNat
  [(eSTATE, !(st == stACTIVE || (!inActiveOnly && st == stCONFIGURED)))]

def cmpPush : Cmd where
  errs q s :=
    let l := selection q s
    pchgState true q s ++
    [ (eVALUE, l.isEmpty || l.any (fun c => (s.staged c).kind == 3 && (s.staged c).dur == 0)),
      (eSTATE, l.any (fun c => !s.drivesChan c || s.chcfg c 2 1 == 0)),
      (eBUSY, l.any (fun c => decide (4 ≤ (s.chan c).cq.length))) ]
  run q s := ((selection q s).foldl (fun s c => s.pushEntry c (s.staged c)) s).finish q.page.toNat 0x40 {}

def cmpFlush : Cmd where
  errs q s := pchgState false q s ++ [(eSTATE, (selection q s).any (fun c => s.chcfg c 2 1 == 0))]
  run q s := ((selection q s).foldl (fun s c => s.discardQueue c eSTATE) s).finish q.page.toNat 0x41 {}

def capFlush : Cmd where
  errs q s := pchgState false q s
  run q s := ((selection q s).foldl (fun s c => s.setChan c { s.chan c with capq := [] }) s).finish q.page.toNat 0x43 {}

/-- STAGGER is checked and waits for its boundary with its selection, TOTAL, FIRSTK and TOP (R83). -/
def stagger : Cmd where
  errs q s :=
    let l := selection q s
    let p := q.page.toNat
    let n := s.fld p Off.pchg_STAGCFG 0 8
    let c0 := l.headD 0
    pchgState false q s ++
    [ (eVALUE, l.isEmpty || decide (n < s.fld p Off.pchg_STAGCFG 8 8 + l.length) ||
        l.any (fun c => (s.chan c).top != (s.chan c0).top || s.cntcfg c 1 4 != s.cntcfg c0 1 4) || (s.chan c0).top == 0) ]
  run q s :=
    let l := selection q s
    let p := q.page.toNat
    s.keepRun p 0x42 ([s.fld p Off.pchg_STAGCFG 0 8, s.fld p Off.pchg_STAGCFG 8 8, (s.chan (l.headD 0)).top] ++ l)

/-- The load of one counter by STAGGER: phase φ of its index (R83). -/
def staggerLoad (n top psc : Nat) (k : Nat) (c : Nat) (s : State) : State :=
  let phi := k * 2 * top / n
  let x := s.chan c
  s.setChan c { x with cnt := if phi < top then phi else 2 * top - phi, down := decide (top ≤ phi),
                       held := s.st (chPage c) != stACTIVE, stepTb := s.now + 2 ^ psc }

/-- STAGGER loads its counters at the boundary and completes (R77, R83). -/
def staggerBoundary (r : Running) (s : State) : State :=
  match r.data with
  | n :: k0 :: top :: l =>
    let s := (l.zipIdx).foldl (fun s e => staggerLoad n top (s.cntcfg e.1 1 4) (k0 + e.2) e.1 s) s
    s.endRun r {}
  | _ => s

/-! ### Views -/

def chstatWord (s : State) (c : Nat) : Word :=
  let w := (s.reg (chPage c) (Off.pchg_CHSTAT (c % 16))).toNat % 2 ^ 10
  BitVec.ofNat 32 (w + bit (s.chan c).inLvl * 2 ^ 16 + bit (s.outLvl c) * 2 ^ 17 +
    bit (s.chan c).pulseEnd.isSome * 2 ^ 18 + bit (s.chan c).down * 2 ^ 19)

def cmpqWord (s : State) (c : Nat) : Word :=
  match (s.chan c).cq with
  | [] => 0
  | k :: t => BitVec.ofNat 32 (t.length + 1 + k.kind * 8 + bit k.ev.isSome * 64)

def cmpHead (s : State) (c : Nat) : Nat := match (s.chan c).cq with | [] => 0 | k :: _ => k.tgt

end Sys2Proof.Machine
end

