-- ==== Sys2Proof/Machine/Calendar.lean ====
section
/-! DEFINITION. The event calendar: posting, draining, cancelling and completing events (R21 to R25, R116, R117, R122 to R133). -/

namespace Sys2Proof.Machine

/-- The fields of an entry's four words (R122). -/
structure EntryF where
  target : Nat
  tag : Nat
  pch : Nat
  kind : Nat
  angle : Bool
  wheel : Nat
  drop : Bool
  nextcyc : Bool
  cpl : Bool
  resv : Bool
  owner : Nat
  epoch : Nat
  dur : Nat

def entryFields (w0 w1 w2 w3 : Word) : EntryF :=
  let b := w2.toNat
  { target := w0.toNat + w1.toNat % 2 ^ 16 * 2 ^ 32, tag := w1.toNat / 2 ^ 16, pch := bitsOf b 0 8, kind := bitsOf b 8 3,
    angle := bitOf b 11, wheel := bitsOf b 12 3, drop := bitOf b 15, nextcyc := bitOf b 16, cpl := bitOf b 17,
    resv := bitOf b 18, owner := bitsOf b 19 5, epoch := bitsOf b 24 8, dur := w3.toNat }

/-- SYNCST.STATE of a wheel (R93, R111): FULL_SYNC is 3, CAM_ONLY is 4; a unit that is not ACTIVE reads SEARCH. -/
def State.sync (s : State) (u : Nat) : Nat :=
  let v := (s.serve u).1
  if s.active (pageWU v) then (s.wheels.get {} v).state else 0

/-- The wheel's MAPVALID (R111, R118). -/
def State.mapValid (s : State) (u : Nat) : Bool := (s.wheels.get {} (s.serve u).1).mapValid

/-- A slot that can be given out: free, and its quadrant ON (R124, R380). -/
def findSlot (used : List Nat) (on : Nat → Bool) : Nat → Nat → Option Nat
  | 0, _ => none
  | f + 1, i => if 16384 ≤ i then none
    else if !on (i / 4096) then findSlot used on f ((i / 4096 + 1) * 4096)
    else if used.contains i then findSlot used on f (i + 1) else some i

def State.freeSlot (s : State) : Option Nat :=
  findSlot (s.cal.evs.map (·.slot)) (fun q => s.dst (75 + q) == 0) 16384 0

/-- Events of an owner. -/
def State.ownCount (s : State) (o : Nat) : Nat := (s.cal.evs.filter (·.owner == o)).length

def State.quota (s : State) (o : Nat) : Nat :=
  if o = hostOwner then s.fld pageANG Off.ang_CALCFG 0 15 else s.fld pageANG2 (Off.angQuota_ROLEQUOTA o) 0 15

/-- The calendar or the owner's quota is full (R123). -/
def State.calFull (s : State) (o : Nat) : Bool := s.freeSlot.isNone || decide (s.quota o ≤ s.ownCount o)

/-- The checks of an entry at acceptance but for the room (R123). `host`: OWNER and EPOCH are checked. -/
def entryErrs (e : EntryF) (host : Bool) (s : State) : List (Nat × Bool) :=
  let pinOk := e.pch < 160
  [ (ePOWER, pinOk && !s.pageOn (chPage e.pch)),
    (eSTATE, s.st pageANG != stACTIVE),
    (eSTATE, pinOk && (!s.drivesChan e.pch || s.chcfg e.pch 2 1 == 1)),
    (eSTATE, e.angle && !(s.sync e.wheel == 3 || s.sync e.wheel == 4)),
    (eSTATE, e.angle && e.nextcyc && !s.mapValid e.wheel),
    (eRESERVED, e.resv),
    (eVALUE, !pinOk || decide (5 < e.kind) || (e.kind == 3) != (e.dur != 0) ||
      (!e.angle && (e.wheel != 0 || e.nextcyc)) || (e.angle && decide (2 ^ 32 ≤ e.target)) ||
      (e.nextcyc && e.target / 2 ^ 24 % 2 ^ 8 != 0) || (host && (e.owner != hostOwner || e.epoch != 0))) ]

/-- A 48-bit target taken within ±2^47 of the TB, modulo 2^64 (R122). -/
def fullTarget (t now : Nat) : Nat :=
  let b := now / 2 ^ 48 * 2 ^ 48 + t
  if b + 2 ^ 47 ≤ now then (b + 2 ^ 48) % 2 ^ 64 else if now + 2 ^ 47 < b then (b + 2 ^ 64 - 2 ^ 48) % 2 ^ 64 else b

/-- The cycle bits that place a target first at or ahead of a reference angle (R117). -/
def resolveCyc (target ref : Nat) : Nat :=
  let b := ref / 2 ^ 24 % 2 ^ 8 * 2 ^ 24 + target % 2 ^ 24
  if angAhead b ref then b else (b + 2 ^ 24) % 2 ^ 32

/-- The end angle of the map for interval n + 1, once it is published (R117). -/
def State.refAngle (s : State) (u : Nat) : Option Nat :=
  match (s.mapOf u).nxt with
  | some m => some (angWord m.stop).toNat
  | none => none

/-- An entry is accepted: slot, generation, and its cycle bits resolved if the map is published (R117, R124). -/
def enterEvent (e : EntryF) (owner epoch : Nat) (cpl : Bool) (s : State) : Nat × State :=
  match s.freeSlot with
  | none => (0, s)
  | some slot =>
    let ref := if e.nextcyc then s.refAngle e.wheel else none
    let target := if !e.angle then fullTarget e.target s.tb.toNat
      else match ref with
        | some a => resolveCyc e.target a
        | none => e.target
    let gen := s.cal.uses.get 0 slot % 256
    let x : CalEv :=
      { slot := slot, gen := gen, order := s.cal.order, target := target, tag := e.tag, pch := e.pch, kind := e.kind,
        angle := e.angle, wheel := e.wheel, drop := e.drop, nextcyc := e.nextcyc, unres := e.nextcyc && ref.isNone,
        cpl := cpl, owner := owner, epoch := epoch, dur := e.dur, fresh := true, st := 0, spill := false, late := false,
        status := 0, code := 0, tb := 0, fin := 0 }
    let s := { s with cal := { s.cal with evs := s.cal.evs ++ [x], order := s.cal.order + 1,
                                          uses := s.cal.uses.set 0 slot (s.cal.uses.get 0 slot + 1) } }
    let s := if s.cal.evs.length = 15360 then s.intSet pageANG 20 else s
    (x.handle, s)

/-- The staged words of a port and the word of EVW3 (R122, R131). -/
def State.evwEntry (s : State) (port : Nat) (w3 : Word) : EntryF :=
  entryFields (s.cal.evw.get 0 (3 * port)) (s.cal.evw.get 0 (3 * port + 1)) (s.cal.evw.get 0 (3 * port + 2)) w3

/-- A host post (R123): accepted, or refused for want of room with OVFCNT and a REFUSED record, which a
TRACE record matches (R127). -/
def hostPost (port : Nat) (w3 : Word) (s : State) : State :=
  let e := s.evwEntry port w3
  if s.calFull hostOwner then
    let s := (s.addSat pageANG Off.ang_OVFCNT 0 16 1).intSet pageANG 18
    if e.cpl then
      let s := s.trace pageANG (0x100 + e.pch) 0x002 s.now (if e.angle then e.wheel else s.stampWheel (0x100 + e.pch))
        [0, BitVec.ofNat 32 (evREFUSED + e.kind * 2 ^ 8 + e.pch * 2 ^ 16), BitVec.ofNat 32 e.target,
          BitVec.ofNat 32 (e.target / 2 ^ 32)]
      { s with cal := { s.cal with refused := s.cal.refused ++ [[e.tag, e.kind, e.pch, e.target, s.now]] } }
    else s
  else (enterEvent e hostOwner 0 e.cpl s).2

/-! ### The drain -/

/-- The maps resolve the events that wait for them, in the publication clock (R117). -/
def resolveHeld (u : Nat) (s : State) : State :=
  match s.refAngle u with
  | none => s
  | some a =>
    (s.cal.evs.filter (fun e => e.unres && e.angle && e.wheel == u && e.st == 0)).foldl
      (fun s e => s.setEv { e with target := resolveCyc e.target a, unres := false }) s

/-- What a drain finds of an event in its intake: the TB at which it would be loaded, and whether it is late (R23, R125). -/
def State.judge (s : State) (e : CalEv) : Option (Nat × Bool) :=
  let b0 := s.tick.next
  let b1 := s.boundaryAfter b0
  if !e.angle then
    let t := s.near e.target
    if t < b0 then some (b0, true) else if t < b1 then some (t, false) else none
  else
    match (s.mapOf e.wheel).nxt with
    | none => none
    | some m =>
      let a0 := (angWord m.start).toNat
      if !angAhead e.target a0 then some (b0, true)
      else
        let d := angDiff e.target a0
        if (d : Int) < m.stop - m.start then some (m.time (m.start + d), false) else none

/-- Events that the drain has to deal with now: due or late, with their load time, earliest first, then in the order of
acceptance (R24). -/
def State.dueEvents (s : State) : List (Nat × Bool × CalEv) :=
  let l := s.cal.evs.filterMap (fun e => if e.st != 0 || e.fresh || e.unres then none
    else match s.judge e with
      | some (t, late) => some (t, late, e)
      | none => none)
  sortBy (fun x y => x.1 < y.1 || (x.1 == y.1 && x.2.2.order < y.2.2.order)) l

/-- The drain can act on an event now: its channel has room, or it is to be dropped or discarded (R23, R24, R380). -/
def State.canDrain (s : State) (late : Bool) (e : CalEv) : Bool :=
  (late && e.drop) || !s.pageOn (chPage e.pch) ||
    (decide ((s.chan e.pch).cq.length < 4) && decide (s.cal.loaded < s.fld pageANG Off.ang_CALCFG 16 10))

/-- The calendar drains in RUN, LIMP, BENCH and HALT while ANG is ACTIVE (R321). -/
def State.draining (s : State) : Bool := (s.serving || s.md == mHALT) && s.active pageANG && !s.tick.cutoff

/-- One cycle of the drain: the next event that it can deal with is loaded, dropped or discarded (R23, R24, R125). -/
def drain (s : State) : State :=
  let s := s.upTo (s.tick.bnd + 256)
  if !s.draining then s else
  match s.dueEvents.find? (fun x => s.canDrain x.2.1 x.2.2) with
  | none => s
  | some (t, late, e) =>
    if !s.pageOn (chPage e.pch) then s.endEv e evDISCARDED ePOWER s.now
    else if late ∧ e.drop then s.endEv e evDROPPED eLATE s.now
    else
      let s := s.setEv { e with st := 1, late := late }
      let s := { s with cal := { s.cal with loaded := s.cal.loaded + 1 } }
      s.pushEntry e.pch { tgt := t % 2 ^ 64, kind := e.kind, dur := e.dur, ev := some e.slot }

def execDrain (s : State) : Out := .next (drain s)

/-- The drain cut-off: what is due and not loaded is left behind (R19, R24); DRAINSTAT shows the drain. -/
def drainCutoff (s : State) : State :=
  let s := s.upTo (s.tick.bnd + 2 * (s.tick.len - 256))
  let s :=
    if s.draining then
      let left := s.dueEvents.map (·.2.2)
      (left.foldl (fun s e => s.setEv { e with spill := true }) s).setReg pageANG Off.ang_DRAINSTAT
        (BitVec.ofNat 32 (s.cal.loaded + min left.length 1023 * 2 ^ 16))
    else s
  { s with tick := { s.tick with cutoff := true } }

def execDrainCutoff (s : State) : Out := .next (drainCutoff s)

/-- At a boundary the calendar intake closes: what was accepted before belongs to the coming drain (R20). -/
def closeIntake (s : State) : State :=
  { s with cal := { s.cal with evs := s.cal.evs.map (fun e => { e with fresh := false }) } }

/-- A new drain begins with the new tick: the events that the last one left behind are late now, and each is counted as
spilled (R24). -/
def startDrain (s : State) : State :=
  let n := (s.cal.evs.filter (fun e => e.spill && e.st == 0)).length
  let s := if n = 0 then s else (s.addSat pageANG Off.ang_SPILLCNT 0 16 n).intSet pageANG 16
  { s with cal := { s.cal with loaded := 0, evs := s.cal.evs.map (fun e => { e with spill := false }) },
           tick := { s.tick with cutoff := false } }

/-! ### Cancelling by the host (R133) -/

def angState (s : State) : List (Nat × Bool) := [(eSTATE, s.st pageANG != stACTIVE)]

/-- A cancelling command completes with the number of events that it cancelled. -/
def cancelCmd (code : Nat) (test : State → CalEv → Bool) : Cmd where
  errs _ s := angState s
  run q s :=
    let (n, s) := s.cancelAll (test s) evCANCELLED eOK
    s.finish q.page.toNat code { res := [BitVec.ofNat 32 n] }

/-- EV_CANCEL: host events whose tag matches under the mask. -/
def evCancel : Cmd := cancelCmd 0x40 (fun s e =>
  e.owner == hostOwner &&
  (BitVec.ofNat 16 e.tag &&& BitVec.ofNat 16 (s.fld pageANG Off.ang_CANTAG 16 16)) ==
    (BitVec.ofNat 16 (s.fld pageANG Off.ang_CANTAG 0 16) &&& BitVec.ofNat 16 (s.fld pageANG Off.ang_CANTAG 16 16)))

/-- EV_CANCEL_ROLE: events of a role, with OLDONLY those of an older epoch; `epoch` gives a role's present epoch. -/
def evCancelRole (epoch : State → Nat → Nat) : Cmd := cancelCmd 0x41 (fun s e =>
  let r := s.fld pageANG Off.ang_CANSEL 0 4
  e.owner == r && (!s.flag pageANG Off.ang_CANSEL 8 || e.epoch != epoch s r))

/-- EV_FLUSH_WHEEL: angle events of the selected wheels, of any owner. -/
def evFlushWheel : Cmd := cancelCmd 0x42 (fun s e => e.angle && bitOf (s.fld pageANG Off.ang_CANSEL 16 8) e.wheel)

/-! ### Completions -/

/-- Ended host events whose records wait, oldest first (R128). -/
def State.hostEnded (s : State) : List CalEv :=
  sortBy (fun x y => x.fin < y.fin) (s.cal.evs.filter (fun e => e.st == 2 && e.owner == hostOwner))

/-- ANG.CPLWAIT: host completions that wait (R128). -/
def State.cplWait (s : State) : Nat := s.hostEnded.length + s.cal.refused.length

/-- The next host event completion is written while a slot is free; the event's entry is free with it (R127, R128). -/
def hostEventCompletion (s : State) : State :=
  if !s.slotFree then s else
  match s.hostEnded with
  | e :: _ =>
    let s := s.putRecord (e.tag + 0xFE * 2 ^ 16 + e.code * 2 ^ 24) 0x028 e.tb e.words
    s.dropEv e.slot
  | [] =>
    match s.cal.refused with
    | [tag, kind, pch, target, tb] :: t =>
      let s := s.putRecord (tag + 0xFE * 2 ^ 16 + eOVERFLOW * 2 ^ 24) 0x028 tb
        [0, BitVec.ofNat 32 (evREFUSED + kind * 2 ^ 8 + pch * 2 ^ 16), BitVec.ofNat 32 target,
          BitVec.ofNat 32 (target / 2 ^ 32)]
      { s with cal := { s.cal with refused := t } }
    | _ :: t => { s with cal := { s.cal with refused := t } }
    | [] => s

/-- Every host event completion that has a slot is written. -/
def drainCompletions : Nat → State → State
  | 0, s => s
  | n + 1, s => drainCompletions n (hostEventCompletion s)

def execHostEventCompletion (s : State) : Out := .next (hostEventCompletion s)

/-- The 128-bit record of an engine event as four words (R129). -/
def engineRecord (e : CalEv) (epochNow : Nat) : List Word :=
  let hi := e.owner * 2 ^ 27 + e.status * 2 ^ 24 + e.code * 2 ^ 16 + e.tag
  let w1 := e.handle + e.epoch * 2 ^ 22 + bit (e.epoch != epochNow) * 2 ^ 30
  [BitVec.ofNat 32 hi, BitVec.ofNat 32 w1, BitVec.ofNat 32 e.tb, BitVec.ofNat 32 (e.tb / 2 ^ 32)]

/-! ### Views -/

def calstat (s : State) : Word := BitVec.ofNat 32 (s.cal.evs.length + s.ownCount hostOwner * 2 ^ 16)

/-- The event that PEEKH names (R124, R132). -/
def State.peek (s : State) : Option CalEv :=
  let h := s.fld pageANG3 Off.angPeek_PEEKH 0 22
  s.cal.evs.find? (fun e => e.handle == h)

def peekWord (s : State) (w : Nat) : Word := match s.peek with | some e => e.entry.getD w 0 | none => 0

def peekStat (s : State) : Word :=
  match s.peek with
  | some e => BitVec.ofNat 32 (1 + bit (e.st == 1) * 2 + bit (e.st == 2) * 4)
  | none => 0

/-- The handle names an event (R124). -/
def State.byHandle (s : State) (h : Nat) : Option CalEv := s.cal.evs.find? (fun e => e.handle == h)

end Sys2Proof.Machine
end

