-- ==== Sys2Proof/Machine/Flags.lean ====
section
/-! DEFINITION. The conditions of the sequencer and the flag rules of the A slot (R141, R148). -/

namespace Sys2Proof.Machine

/-- Whether a condition holds on the flags as they stood at the start of the cycle (R141). -/
def condHolds (fl : Flags) (c : BitVec 4) : Bool :=
  match c.toNat with
  | 0x0 => true
  | 0x1 => fl.z
  | 0x2 => !fl.z
  | 0x3 => fl.n
  | 0x4 => !fl.n
  | 0x5 => fl.c
  | 0x6 => !fl.c
  | 0x7 => fl.v
  | 0x8 => !fl.v
  | 0x9 => fl.c && !fl.z
  | 0xA => !fl.c || fl.z
  | 0xB => fl.n == fl.v
  | 0xC => fl.n != fl.v
  | 0xD => !fl.z && fl.n == fl.v
  | 0xE => fl.s
  | _ => !fl.s

/-- What an A operation produces: its register results, the value that Z and N follow, and C and V where it defines them. -/
structure ARes where
  wr : List (Nat × Word)
  val : Word
  c : Option Bool := none
  v : Option Bool := none

/-- The flags after an A operation with AFLG = 1 (R148). -/
def ARes.flags (r : ARes) (fl : Flags) : Flags :=
  { fl with z := r.val == 0, n := r.val.msb, c := r.c.getD fl.c, v := r.v.getD fl.v }

/-- a + b + cin with carry and signed overflow (R148). -/
def addRes (a b : Word) (cin : Bool) : Word × Bool × Bool :=
  let n := a.toNat + b.toNat + bit cin
  let i := a.toInt + b.toInt + bit cin
  let r := BitVec.ofNat 32 n
  (r, decide (2 ^ 32 ≤ n), decide (r.toInt ≠ i))

/-- a − b − (1 − cin): C = 1 means that no borrow occurred (R141, R148). -/
def subRes (a b : Word) (cin : Bool) : Word × Bool × Bool :=
  let i := a.toInt - b.toInt - (1 - bit cin : Int)
  let r := BitVec.ofInt 32 i
  (r, decide (b.toNat + (1 - bit cin) ≤ a.toNat), decide (r.toInt ≠ i))

/-- The last bit that a shift moves out, for a nonzero count (R148). -/
def shiftOut (left : Bool) (a : Word) (n : Nat) : Option Bool :=
  if n = 0 then none else some (if left then bitOf a.toNat (32 - n) else bitOf a.toNat (n - 1))

end Sys2Proof.Machine
end

