-- ==== Sys2Proof/Machine/Operands.lean ====
section
/-! DEFINITION. The operand forms of a microword: sources, op2, addresses, channels, sizes, register groups (R135, R145, R146,
R149). -/

namespace Sys2Proof.Machine

/-- A source register as it stood at the start of the cycle (R145). -/
def WordSt.r (w : WordSt) (i : Nat) : Word := w.g.get 0 i

/-- op2: IMM with AIMM = 1, g[AS2] otherwise (R146). -/
def op2 (w : WordSt) (f : AFields) : Word := if f.aimm then f.imm else w.r f.as2.toNat

/-- The first source of the A slot. -/
def op1 (w : WordSt) (f : AFields) : Word := w.r f.as1.toNat

/-- addr: g[XS1] + IMM with XIMM = 1, g[XS1] otherwise (R149). -/
def xAddr (w : WordSt) (x : XFields) : Nat := (if x.ximm then w.r x.xs1.toNat + x.imm else w.r x.xs1.toNat).toNat

/-- chan: IMM[7:0] with XIMM = 1, g[XS2][7:0] otherwise (R149). -/
def xChan (w : WordSt) (x : XFields) : Nat := fieldOf (if x.ximm then x.imm else w.r x.xs2.toNat) 0 8

/-- A field of XARG. -/
def xArg (x : XFields) (lo len : Nat) : Nat := bitsOf x.xarg.toNat lo len

/-- Bytes of a sized access: XARG[1:0] (R149); 0 for the reserved code. -/
def xSize (x : XFields) : Nat := if xArg x 0 2 = 0 then 1 else if xArg x 0 2 = 1 then 2 else if xArg x 0 2 = 2 then 4 else 0

/-- An access of `n` bytes lies in a space of `size` bytes on its alignment (R135). -/
def inSpace (size addr n : Nat) : Bool := decide (addr + n ≤ size) && addr % n == 0

/-- The registers of a group of `n` that starts at `i`. -/
def regGroup (i n : Nat) : List Nat := (List.range n).map (i + ·)

/-- A group of `n` starts where R145 lets it. -/
def groupOk (i n : Nat) : Bool := i % n == 0

/-- The fields that an A operation uses; the others must be 0 (R147, R137). -/
def aLegal (useD use1 use2 useH : Bool) (f : AFields) : Bool :=
  (useD || f.ad == 0) && (use1 || f.as1 == 0) && (useH || f.ahd == 0) && ((use2 && !f.aimm) || f.as2 == 0) &&
    (use2 || !f.aimm)

/-- Part of a word as a load sees it: `n` bytes from byte `a` mod 4, extended by sign or with zeros. -/
def loadPart (w : Word) (a n : Nat) (sext : Bool) : Word :=
  let v := bitsOf w.toNat (8 * (a % 4)) (8 * n)
  BitVec.ofNat 32 (if sext then unsigned 32 (signed (8 * n) v) else v)

/-- A word after a store of `n` bytes at byte `a` mod 4. -/
def storePart (w : Word) (a n : Nat) (d : Word) : Word := withField w (8 * (a % 4)) (8 * n) d.toNat

end Sys2Proof.Machine
end

