-- ==== Sys2Proof/Machine/Fetch.lean ====
section
/-! DEFINITION. Engines and the microwords that they fetch: the control stores, the fields of a microword, what makes a word illegal,
and the machine check that keeps it from executing (R134, R135, R137 to R142, R144, R145, R147, R149, R179, R182, R187). -/

namespace Sys2Proof.Machine

/-! ### Engines and pairs -/

def State.eng (s : State) (e : Nat) : Eng := s.engs.get {} e

/-- CHK of the pair of an engine (R179). -/
def State.pairChk (s : State) (e : Nat) : Bool := s.flag (pageCL (e / 8)) Off.cl_PAIRCFG (e % 8 / 2)

/-- The held state of a pair: 0b10 CHECKER_LOST, 0b11 PAIRFAULT, else 0 (R190). -/
def State.pairHeld (s : State) (c p : Nat) : Nat := s.fld (pageCL c) Off.cl_PAIRSTAT (4 * p) 2

/-- PAIRSTAT.STATE: CHECKED where CHK is set and nothing is held (R190). -/
def State.pairState (s : State) (c p : Nat) : Nat :=
  if s.pairHeld c p ≠ 0 then s.pairHeld c p else bit (s.flag (pageCL c) Off.cl_PAIRCFG p)

/-- An engine is in a pair that is checked now. -/
def State.checked (s : State) (e : Nat) : Bool := s.pairState (e / 8) (e % 8 / 2) == 1

/-- The engine trails its pair: it dispatches nothing of its own (R171, R182). -/
def State.trails (s : State) (e : Nat) : Bool := e % 2 == 1 && s.pairChk e

/-! ### The control stores (R134, R138, R187) -/

/-- Mirror mode is in force for a cluster (R187). -/
def State.split (s : State) (c : Nat) : Bool := (List.range 8).any (fun i => (s.eng (8 * c + i)).bank != (s.eng (8 * c)).bank)
def bankKey (c : Nat) (b : Bool) : Nat := 2 * c + bit b
def State.bankSt (s : State) (c : Nat) (b : Bool) : BankSt := s.banks.get {} (bankKey c b)
def State.setBank (s : State) (c : Nat) (b : Bool) (x : BankSt) : State := { s with banks := s.banks.set {} (bankKey c b) x }
def State.mirrorOn (s : State) (c : Nat) : Bool :=
  s.flag (pageCL c) Off.cl_CSCFG 0 && (s.md == mRUN || s.md == mLIMP) && !s.split c && (s.bankSt c (!(s.eng (8 * c)).bank)).copy

/-- Each quarter of a microword holds, with its parity bit, an odd number of ones (R138). -/
def parityOk (m : MicroWord) : Bool :=
  (List.range 4).all (fun q =>
    (((List.range 32).map (fun i => bit (m.getLsbD (32 * q + i)))).sum + bit (m.getLsbD (128 + q))) % 2 == 1)

/-- A word of the control store. -/
def storeKey (c : Nat) (b : Bool) (a : Nat) : Nat := bankKey c b * 4096 + a
def State.storeWord (s : State) (c : Nat) (b : Bool) (a : Nat) : MicroWord := s.cstore.get 0 (storeKey c b a)

/-- The word at an engine's PC in the bank that is active for it, and the one at the same address of the mirror bank. -/
def State.activeWord (s : State) (e : Nat) : MicroWord := s.storeWord (e / 8) (s.eng e).bank (s.eng e).pc
def State.mirrorWord (s : State) (e : Nat) : MicroWord := s.storeWord (e / 8) (!(s.eng e).bank) (s.eng e).pc

/-! ### The fields of a microword (R137) -/

def aopOf (m : MicroWord) : Nat := bitsOf m.toNat 58 6
def xopOf (m : MicroWord) : Nat := bitsOf m.toNat 26 6
def nxtOf (m : MicroWord) : Nat := bitsOf m.toNat 124 3

def aFieldsOf (m : MicroWord) : AFields where
  ad := m.extractLsb' 54 4
  as1 := m.extractLsb' 50 4
  as2 := m.extractLsb' 46 4
  aimm := m.getLsbD 45
  aflg := m.getLsbD 44
  ahd := m.extractLsb' 40 4
  imm := m.extractLsb' 64 32

def xFieldsOf (m : MicroWord) : XFields where
  xd := m.extractLsb' 22 4
  xs1 := m.extractLsb' 18 4
  xs2 := m.extractLsb' 14 4
  ximm := m.getLsbD 13
  xarg := m.extractLsb' 0 13
  imm := m.extractLsb' 64 32

def nFieldsOf (m : MicroWord) : NFields where
  cond := m.extractLsb' 120 4
  target := m.extractLsb' 108 12
  last := m.getLsbD 127

/-- The reserved fields [107:96] and [39:32]. -/
def reservedOf (m : MicroWord) : Nat := bitsOf m.toNat 96 12 + bitsOf m.toNat 32 8

/-! ### Legal words (R139, R140, R144, R145, R147, R149, R159) -/

/-- Whether an A operation uses AD, AS1, op2 and AHD; none for a reserved code (R147). -/
def aShape (op : Nat) : Option (Bool × Bool × Bool × Bool) :=
  if op = 0 then some (false, false, false, false)
  else if op = 0x01 ∨ op = 0x09 ∨ op = 0x17 then some (true, false, true, false)
  else if op = 0x0E ∨ op = 0x0F then some (false, true, true, false)
  else if op = 0x10 ∨ op = 0x11 then some (true, true, true, true)
  else if op ≤ 0x19 then some (true, true, true, false)
  else none

/-- The A slot is legal: its code, no field set that it does not use, AHD apart from AD, AIMM = 1 for BFI. -/
def aOk (op : Nat) (f : AFields) : Bool :=
  match aShape op with
  | none => false
  | some (d, s1, s2, h) => aLegal d s1 s2 h f && (op != 0 || !f.aflg) && (!h || f.ahd != f.ad) && (op != 0x19 || f.aimm)

/-- The destination registers of the A slot. -/
def aDest (op : Nat) (f : AFields) : List Nat :=
  match aShape op with
  | some (true, _, _, true) => [f.ad.toNat, f.ahd.toNat]
  | some (true, _, _, false) => [f.ad.toNat]
  | _ => []

/-- XARG of a SHIFT: [10:5] is reserved, and the count of CFG and ST is 0 (R159). -/
def shiftLegal (x : XFields) (counts : Bool) : Bool := xArg x 5 6 == 0 && (counts || xArg x 0 5 == 0)

/-- The mask of WAITEV; zero is illegal (R144). -/
def waitMask (w : WordSt) (x : XFields) : Nat := fieldOf (if x.ximm then x.imm else w.r x.xs1.toNat) 0 16

/-- The X slot is legal: its code, its XARG selector, its register groups, and the mask of WAITEV. -/
def xOk (op : Nat) (x : XFields) (w : WordSt) : Bool :=
  if op = 0 ∨ op = 0x05 ∨ op = 0x08 ∨ op = 0x12 ∨ op = 0x13 ∨ op = 0x17 ∨ op = 0x1C ∨ op = 0x1D then true
  else if op ≤ 0x04 then xSize x != 0
  else if op = 0x06 ∨ op = 0x15 ∨ op = 0x16 ∨ op = 0x1B then groupOk x.xd.toNat 4
  else if op = 0x07 then groupOk x.xs2.toNat 4
  else if op = 0x10 then decide (xArg x 0 3 < 4)
  else if op = 0x11 then decide (xArg x 0 3 < 2)
  else if op = 0x14 then groupOk x.xs2.toNat 2
  else if op = 0x18 then groupOk x.xs1.toNat 4
  else if op = 0x19 then
    if xArg x 11 2 = 0 then shiftLegal x false && groupOk x.xs1.toNat 2 else shiftLegal x (xArg x 11 2 != 3)
  else if op = 0x1A then xArg x 0 1 == 0 || groupOk x.xd.toNat 4
  else if op = 0x1E then waitMask w x != 0
  else false

/-- The destination registers of the X slot. -/
def xDest (op : Nat) (x : XFields) : List Nat :=
  if op = 0x06 ∨ op = 0x15 ∨ op = 0x16 ∨ op = 0x1B ∨ (op = 0x1A ∧ xArg x 0 1 = 1) then regGroup x.xd.toNat 4
  else if op = 0x01 ∨ op = 0x03 ∨ op = 0x05 ∨ (0x10 ≤ op ∧ op ≤ 0x14) ∨ op = 0x19 ∨ op = 0x1A then [x.xd.toNat]
  else []

/-- The source register group of the X slot (R145). -/
def xGroup (op : Nat) (x : XFields) : List Nat :=
  if op = 0x07 then regGroup x.xs2.toNat 4
  else if op = 0x14 then regGroup x.xs2.toNat 2
  else if op = 0x18 then regGroup x.xs1.toNat 4
  else if op = 0x19 ∧ xArg x 11 2 = 0 then regGroup x.xs1.toNat 2
  else []

/-- The X operation gives up the engine (R144). -/
def givesUp (op : Nat) : Bool := op == 0x1C || op == 0x1D || op == 0x1E

/-- The sequencer is legal: its code, COND and TARGET (R140), END and NXT of a word that gives up the engine (R144). -/
def nOk (nxt : Nat) (n : NFields) (gives : Bool) : Bool :=
  decide (nxt < 7) && (nxt == 2 || nxt == 4 || nxt == 6 || n.cond == 0) && (decide (nxt < 5) || n.target == 0) &&
    (!gives || (n.last && decide (nxt < 2)))

/-- A word breaks no rule that makes it MC_ILLEGAL, but for the addresses that INC forms. -/
def WordSt.legal (w : WordSt) : Bool :=
  let f := aFieldsOf w.m
  let x := xFieldsOf w.m
  reservedOf w.m == 0 && aOk (aopOf w.m) f && xOk (xopOf w.m) x w && nOk (nxtOf w.m) (nFieldsOf w.m) (givesUp (xopOf w.m)) &&
    (aDest (aopOf w.m) f).all (fun d => !(xDest (xopOf w.m) x).contains d && !(xGroup (xopOf w.m) x).contains d)

/-- The address or the channel that an X operation forms lies where R135 and R149 let it. -/
def xInside (op : Nat) (x : XFields) (w : WordSt) : Bool :=
  if op = 0x01 ∨ op = 0x02 then inSpace 0x1000 (xAddr w x) (xSize x)
  else if op = 0x03 ∨ op = 0x04 then inSpace 0x10000 (xAddr w x) (xSize x)
  else if op = 0x05 then inSpace 0x10000 (xAddr w x) 4
  else if op = 0x06 ∨ op = 0x07 ∨ op = 0x12 then inSpace 0x1000 (xAddr w x) 16
  else if op = 0x19 ∨ op = 0x1B then decide (xChan w x < 160)
  else if op = 0x1A then inSpace 0x40000 (xAddr w x) (if xArg x 0 1 = 1 then 16 else 4)
  else true

/-! ### Machine checks of a word (R140, R142, R163) -/

/-- Codes of machine checks (R163). -/
def mcPARITY : Nat := 1
def mcMEMPAR : Nat := 2
def mcILLEGAL : Nat := 3
def mcRUNLEN : Nat := 4
def mcWDOG : Nat := 5
def mcSTACK : Nat := 6
def mcADDR : Nat := 7

/-- What NXT does: the next address and stack, or a machine check. -/
inductive NextAddr where
  | go (pc : Nat) (stack : List Nat)
  | check (cls : Nat)

/-- INC, or a conditional that is not taken: PC + 1, illegal at 0xFFF. -/
def incAddr (x : Eng) : NextAddr := if x.pc = 0xFFF then .check mcILLEGAL else .go (x.pc + 1) x.stack

/-- A call: TARGET, and PC + 1 pushed. -/
def callAddr (x : Eng) (n : NFields) : NextAddr :=
  if 4 ≤ x.stack.length then .check mcSTACK else .go n.target.toNat ((x.pc + 1) % 4096 :: x.stack)

/-- A return: the popped address; TARGET must be 0. -/
def retAddr (x : Eng) : NextAddr :=
  match x.stack with
  | [] => .check mcSTACK
  | a :: t => .go a t

/-- The next address by NXT, `c` whether COND holds (R140). -/
def nextAddr (x : Eng) (nxt : Nat) (n : NFields) (c : Bool) : NextAddr :=
  if nxt = 0 then incAddr x
  else if nxt = 1 then .go n.target.toNat x.stack
  else if nxt = 2 then (if c then .go n.target.toNat x.stack else incAddr x)
  else if nxt = 3 then callAddr x n
  else if nxt = 4 then (if c then callAddr x n else incAddr x)
  else if nxt = 5 then retAddr x
  else if c then retAddr x else incAddr x

/-- The machine check of class NextAddr, if any. -/
def NextAddr.fault : NextAddr → Option Nat
  | .go _ _ => none
  | .check c => some c

/-- The machine check that keeps a word from executing (R135, R139, R140, R142, R144, R145). -/
def wordFault (x : Eng) (w : WordSt) : Option Nat :=
  if x.run = 64 then some mcRUNLEN
  else if !w.legal then some mcILLEGAL
  else if givesUp (xopOf w.m) && x.stack != [] then some mcSTACK
  else match (nextAddr x (nxtOf w.m) (nFieldsOf w.m) (condHolds w.fl (nFieldsOf w.m).cond)).fault with
    | some c => some c
    | none => if xInside (xopOf w.m) (xFieldsOf w.m) w then none else some mcADDR

/-- The word in progress, else the word at PC, which starts from the registers and flags as they stand (R145); none where that word
fails parity, and a mirror fetch has to come first (R165). -/
def State.opened (s : State) (e : Nat) : Option WordSt :=
  match (s.eng e).word with
  | some w => some w
  | none => if parityOk (s.activeWord e) then some { m := s.activeWord e, g := (s.eng e).g, fl := (s.eng e).fl } else none

/-- A word has in its A slot an operation with these fields, in its X slot, in its sequencer. -/
def WordSt.holdsA (w : WordSt) (op : Nat) (f : AFields) : Bool := aopOf w.m == op && aFieldsOf w.m == f
def WordSt.holdsX (w : WordSt) (op : Nat) (x : XFields) : Bool := xopOf w.m == op && xFieldsOf w.m == x
def WordSt.holdsN (w : WordSt) (nxt : Nat) (n : NFields) : Bool := nxtOf w.m == nxt && nFieldsOf w.m == n

/-- A reserved code of the X slot (R149). -/
def xReserved (op : Nat) : Bool := (decide (0x09 ≤ op) && decide (op ≤ 0x0F)) || decide (0x1F ≤ op)

/-- Its A slot, or its X slot, has nothing more to do: a reserved code names no operation. -/
def WordSt.aDone (w : WordSt) : Bool := w.a || aopOf w.m == 0 || (aShape (aopOf w.m)).isNone
def WordSt.xDone (w : WordSt) : Bool := w.x || xopOf w.m == 0 || xReserved (xopOf w.m)

/-- The row that ends a word; one with the reserved NXT, which is a machine check, is issued as with INC (R139). -/
def WordSt.endsBy (w : WordSt) (nxt : Nat) (n : NFields) : Bool :=
  (nxtOf w.m == nxt || (nxt == 0 && nxtOf w.m == 7)) && nFieldsOf w.m == n

end Sys2Proof.Machine
end

