-- ==== Sys2Proof/Machine/EngOps.lean ====
section
/-! DEFINITION. What the commands of an engine share: the word in progress, machine checks, instruction boundaries, tasks, the
SHIFT stall and the shift unit (R26, R27, R139 to R145, R157 to R170, R179, R180, R186). -/

namespace Sys2Proof.Machine

/-! ### Engines, tasks, roles -/

/-- Change an engine; the trailer of a checked pair does what its leader does (R179). -/
def State.setEng (s : State) (e : Nat) (x : Eng) : State :=
  let s := { s with engs := s.engs.set {} e x }
  if e % 2 = 0 ∧ s.checked e then
    { s with engs := s.engs.set {} (e + 1) { x with task := none, wait := none, held := none, bank := (s.eng (e + 1)).bank } }
  else s

def State.task (s : State) (c t : Nat) : TaskSt := (s.clu c).tasks.get {} t
def State.setTask (s : State) (c t : Nat) (x : TaskSt) : State :=
  s.setClu c { s.clu c with tasks := (s.clu c).tasks.set {} t x }

/-- Fields of TASKCFG (R191). -/
def State.taskEntry (s : State) (c t : Nat) : Nat := s.fld (pageCLT c) (Off.clt_TASKCFG t) 0 12
def State.taskEngine (s : State) (c t : Nat) : Nat := s.fld (pageCLT c) (Off.clt_TASKCFG t) 12 3
def State.taskOn (s : State) (c t : Nat) : Bool := s.flag (pageCLT c) (Off.clt_TASKCFG t) 15

/-- The role of a cluster, and the present epoch of a role (R166, R167). -/
def State.role (s : State) (c : Nat) : Nat := s.fld (pageCL c) Off.cl_ROLECFG 0 4
def State.epoch (s : State) (r : Nat) : Nat := s.epochs.get 0 r

/-- The ACTIVE cluster that holds a role (R176). -/
def State.holder (s : State) (r : Nat) : Option Nat :=
  (List.range 16).find? (fun c => s.active (pageCL c) && (s.clu c).holds && s.role c == r)

/-- ORIGIN of what an engine writes, and of what its cluster writes (R280). -/
def engOrigin (e : Nat) : Nat := 0x800 + e
def cluOrigin (c : Nat) : Nat := 0x1D0 + c

/-! ### Tasks (R169) -/

/-- The engine cycle of this clock, plus 1. -/
def State.cycle (s : State) : Nat := (s.now + s.tick.phase % 2) / 2 + 1

/-- A ready request; one in the cycle of a cancellation is lost, and its task is CANCELLED (R170). -/
def readyTask (c t : Nat) (s : State) : State :=
  let x := s.task c t
  if x.canAt = s.cycle then (if x.st = tIDLE then s.setTask c t { x with st := tCANCELLED } else s)
  else if x.st = tIDLE ∨ x.st = tDONE ∨ x.st = tCANCELLED then
    s.setTask c t { x with st := tREADY, resume := s.taskEntry c t, cancel := false, shiftWait := false }
  else s.setTask c t { x with rdy := min (x.rdy + 1) 255 }

/-- The task ends CANCELLED. -/
def endTask (c t : Nat) (s : State) : State :=
  s.setTask c t { s.task c t with st := tCANCELLED, rdy := 0, cancel := false, shiftWait := false, canAt := s.cycle }

/-- An engine no longer runs its task. -/
def freeEngine (e : Nat) (s : State) : State :=
  s.setEng e { s.eng e with task := none, word := none, run := 0, wait := none, held := none, stack := [] }

/-! ### The end of a stalled SHIFT (R159, R162, R186) -/

/-- A stalled SHIFT ends: g[XD], S, and its task runs on. -/
def endShift (e : Nat) (res : Word) (sflag : Bool) (s : State) : State :=
  let x := s.eng e
  match x.wait with
  | none => s
  | some w =>
    let s := s.setEng e { x with g := x.g.set 0 w.xd res, fl := { x.fl with s := sflag }, wait := none }
    match x.task with
    | none => s
    | some t => s.setTask (e / 8) t { s.task (e / 8) t with st := tRUNNING, shiftWait := false }

/-- What a SHIFT that ends early writes: a RX 0, a TX a code in [31:24]. -/
def shiftResult (w : ShiftWait) (code : Nat) : Word := if w.tx then BitVec.ofNat 32 (code * 2 ^ 24) else 0

/-- The engines that are stalled on a unit, in ascending order. -/
def State.stalledOn (s : State) (c : Nat) : List Nat :=
  (s.engs.filter (fun e => match e.2.wait with | some w => w.chan == c | none => false)).map (·.1)

/-- A SHIFT ends as under SHIFT_ABORT (R186): the bits held are discarded, with a Whey loss record. -/
def abortShift (e : Nat) (s : State) : State :=
  match (s.eng e).wait with
  | none => s
  | some w =>
    let c := e / 8
    let u := s.unit w.chan
    let s := s.log (pageCL c) (cluOrigin c) 0x005 s.now [BitVec.ofNat 32 (w.chan + u.buf.length * 2 ^ 8)]
    let s := (s.setUnit w.chan { u with buf := [] }).intSet (pageCL c) 23
    (endShift e (shiftResult w eSTATE) true s).wakeLevels

/-- The engine that has a task. -/
def State.engineOf (s : State) (c t : Nat) : Option Nat :=
  ((s.engs.filter (fun e => e.1 / 8 == c && e.2.task == some t)).head?).map (·.1)

/-- A cancellation (R169, R170): for a RUNNING task at the engine's next boundary, but in the cycle of its dispatch it wins and the
dispatch is undone; a SHIFT that stalls ends first. -/
def cancelTask (c t : Nat) (s : State) : State :=
  let x := s.task c t
  if x.st = tIDLE then s.setTask c t { x with canAt := s.cycle }
  else if x.st = tRUNNING then
    match s.engineOf c t with
    | some e =>
      if x.disAt = s.cycle ∧ (s.eng e).run = 0 ∧ (s.eng e).word = none then
        freeEngine e (endTask c t (s.setTask c t { x with runs := (x.runs + 65535) % 2 ^ 16 }))
      else s.setTask c t { x with cancel := true, rdy := 0, canAt := s.cycle }
    | none => s.setTask c t { x with cancel := true, rdy := 0, canAt := s.cycle }
  else if x.shiftWait then
    let s := match s.engineOf c t with
      | some e => abortShift e s
      | none => s
    s.setTask c t { s.task c t with cancel := true, rdy := 0, canAt := s.cycle }
  else endTask c t s

/-! ### Machine checks (R163, R164, R180) -/

/-- An engine entry of the machine-check log, without VALID (R190). -/
def mcWord (e cls pc task : Nat) : Nat := cls + pc * 2 ^ 8 + e % 8 * 2 ^ 20 + task * 2 ^ 24

/-- A machine check is logged; a full log counts it (R190). -/
def logCheck (c stat : Nat) (s : State) : State :=
  let x := s.clu c
  if x.mclog.length < 8 then s.setClu c { x with mclog := x.mclog ++ [(stat, s.now)] }
  else (s.addSat (pageCL c) Off.cl_MCLOST 0 8 1).intSet (pageCL c) 24

/-- A core fault of a pair (R180): both engines stop, the task is cancelled, PAIRFAULT, source and ALARM, FAULT at the boundary. -/
def pairFault (e : Nat) (s : State) : State :=
  let c := e / 8
  let p := e % 8 / 2
  let s := match (s.eng e).task with
    | some t => endTask c t s
    | none => s
  let s := freeEngine e s
  let s := [e, e + 1].foldl (fun s i => { s with engs := s.engs.set {} i { s.eng i with halted := true } }) s
  let s := (s.setFld (pageCL c) Off.cl_PAIRSTAT (4 * p) 4 0xF).intSet (pageCL c) 18
  let s := (s.bell (0x030 + c)).alarm (cluOrigin c) 0x003 s.now [BitVec.ofNat 32 (p + 3 * 2 ^ 2 + c * 2 ^ 4)]
  s.setClu c { s.clu c with faultDue := true }

/-- A checker fault puts a pair in CHECKER_LOST; under MIGRATE its role moves at the next boundary (R182). -/
def checkerLost (c p cause : Nat) (s : State) : State :=
  if s.pairState c p ≠ 1 then s else
  let s := (s.setFld (pageCL c) Off.cl_PAIRSTAT (4 * p) 4 (2 + cause * 4)).intSet (pageCL c) 19
  let s := (s.bell (0x020 + c)).alarm (cluOrigin c) 0x004 s.now [BitVec.ofNat 32 (p + cause * 2 ^ 2 + c * 2 ^ 4)]
  if s.flag (pageCL c) Off.cl_PAIRCFG 8 then s else s.setClu c { s.clu c with moveDue := true }

/-- A machine check (R164): the word is not executed, the task ends CANCELLED, it is logged, rung and alarmed. A software check
lets the engine dispatch again from the next boundary; a hardware check puts the cluster in FAULT there. -/
def machineCheck (e cls : Nat) (s : State) : State :=
  let c := e / 8
  let x := s.eng e
  match x.task with
  | none => s
  | some t =>
    let (g, fl) := match x.word with
      | some w => (w.g, w.fl)
      | none => (x.g, x.fl)
    let stat := mcWord e cls x.pc t
    let s := endTask c t s
    let s := s.setEng e { x with g := g, fl := fl, task := none, word := none, run := 0, wait := none, held := none, stack := [], halted := true }
    let s := (logCheck c stat s).intSet (pageCL c) 17
    let s := (s.bell (0x010 + c)).alarm (engOrigin e) 0x002 s.now [BitVec.ofNat 32 (stat + 2 ^ 23)]
    if cls = mcPARITY ∨ cls = mcMEMPAR then s.setClu c { s.clu c with faultDue := true } else s

/-- A row of a memory: its domain and its address there (R371, R381). -/
def rowOf (d a : Nat) : Nat := d * 2 ^ 20 + a
def rowDomain (r : Nat) : Nat := r / 2 ^ 20

/-- The rows of the cluster logic, a word each: the local memories of the engines, the shared memory, the task descriptors and the
event-completion queue (R381). -/
def memRow (e : Nat) (own : Bool) (a : Nat) : Nat :=
  rowOf (e / 8) (if own then e % 8 * 1024 + a / 4 % 1024 else 8192 + a / 4 % 16384)
def taskRow (c t w : Nat) : Nat := rowOf c (24576 + t * 8 + w)
def eventRow (c i w : Nat) : Nat := rowOf c (26624 + i * 4 + w)

/-- The origin of a record about a row: its cluster, else the first block of its domain. -/
def rowOrigin (r : Nat) : Nat :=
  let d := rowDomain r
  if d < 32 then cluOrigin (d % 16) else pageSource ((basePages.find? (fun p => pageDomain p == d)).getD pagePRESS)

/-- The ROW_REPAIR record of a row and source 0x00E (R371, R381). -/
def rowReport (r flags : Nat) (s : State) : State :=
  (s.log pagePRESS (rowOrigin r) 0x013 s.now [BitVec.ofNat 32 (rowDomain r + r % 2 ^ 20 * 2 ^ 8 + flags)]).bell 0x00E

/-- A spare row of its block of 512 rows is left for a row. -/
def State.spareRow (s : State) (r : Nat) : Bool := decide (s.press.spares.get 0 (r / 512) < 4)

/-- A spare row takes the place of a row, which has no errors from then on. -/
def useSpare (r : Nat) (s : State) : State :=
  { s with press := { s.press with spares := s.press.spares.set 0 (r / 512) (s.press.spares.get 0 (r / 512) + 1),
                                   errs := s.press.errs.set 0 r 0, due := s.press.due.filter (· != r) } }

/-- A word of a data memory failed parity: at the second error in its row the row is to be repaired at the next rejoin (R381). -/
def rowError (r : Nat) (s : State) : State :=
  let n := s.press.errs.get 0 r + 1
  let s := { s with press := { s.press with errs := s.press.errs.set 0 r n } }
  if n = 2 then rowReport r (2 ^ 29) { s with press := { s.press with due := s.press.due ++ [r] } } else s

/-- What the checkers see of a request, or of a word at its end (R163, R179, R180). `reads`: the memory that it reads, true for the
engine's own, and where. A parity error is a machine check; in a checked pair a mismatch, or an error that only one engine detects,
is a core fault; nothing else happens then, but that the row of the memory is noted (R381). A mismatch that the delay registers can have
caused is a checker fault, and the word goes on (R182). -/
def hwCheck (e : Nat) (hw : HwFault) (reads : Option (Bool × Nat)) (k : State → State) (s : State) : State :=
  let only (by_ : Nat) (s : State) : State :=
    pairFault e ((logCheck (e / 8) (mcWord by_ mcMEMPAR (s.eng e).pc ((s.eng e).task.getD 0)) s).intSet (pageCL (e / 8)) 17)
  match hw, reads with
  | .memPar, some (own, a) => rowError (memRow e own a) (if s.checked e ∧ own then only e s else machineCheck e mcMEMPAR s)
  | .memParTrailer, some (own, a) => if s.checked e then rowError (memRow (e + 1) own a) (only (e + 1) s) else k s
  | .mismatch, _ => if s.checked e then pairFault e s else k s
  | .mismatchParity, _ => k (checkerLost (e / 8) (e % 8 / 2) 2 s)
  | _, _ => k s

/-! ### Issuing words -/

/-- The engine may begin an instruction and act on task control: its cluster serves its role, no stop for HALT, for a mode without
dispatch or for a FAULT of the cluster stands against it (R143, R321). -/
def State.inService (s : State) (e : Nat) : Bool :=
  s.serving && s.active (pageCL (e / 8)) && !(s.clu (e / 8)).faultDue

/-- The engine issues microwords: it runs a task and is not stalled, stopped or trailing; nothing from outside stops it within an
instruction (R143). -/
def State.issues (s : State) (e : Nat) : Bool :=
  let x := s.eng e
  x.task.isSome && x.wait.isNone && x.held.isNone && !x.halted && !s.trails e && s.pageOn (pageCL (e / 8)) &&
    s.dst (16 + e / 8) == 0 && !s.mode.clockLost && (decide (0 < x.run) || x.word.isSome || s.inService e)

/-- An engine stands at an instruction boundary. -/
def Eng.atBoundary (x : Eng) : Bool := x.wait.isNone && x.word.isNone && x.run == 0

/-- No slot of the word at PC has acted. -/
def Eng.fresh (x : Eng) : Bool := x.word.all (fun w => !w.a && !w.x)

/-- A slot of the word that an engine issues acts: `x` the X slot, `holds` that this word has it. A word that is a machine check does
not act at all (R135, R139, R142, R145); a slot that the word does not have, or that has acted, does nothing. -/
def State.slot (s : State) (e : Nat) (x : Bool) (holds : WordSt → Bool) (k : WordSt → State → State) : State :=
  if !s.issues e then s else
  match s.opened e with
  | none => s
  | some w =>
    if (if x then w.x else w.a) || !holds w then s
    else match wordFault (s.eng e) w with
      | some cls => machineCheck e cls s
      | none =>
        let w' := { w with a := w.a || !x, x := w.x || x }
        k w' (s.setEng e { s.eng e with word := some w' })

/-- Write results into registers. -/
def State.setRegs (s : State) (e : Nat) (l : List (Nat × Word)) : State :=
  let x := s.eng e
  s.setEng e { x with g := l.foldl (fun g p => g.set 0 p.1 p.2) x.g }

def State.setS (s : State) (e : Nat) (b : Bool) : State :=
  let x := s.eng e
  s.setEng e { x with fl := { x.fl with s := b } }

/-! ### Instruction boundaries (R143, R144) -/

/-- The lines that a mask selects and whose latch is set (R173). -/
def State.latched (s : State) (c mask : Nat) : Bool := (List.range 12).any (fun i => bitOf mask (4 + i) && (s.clu c).latch.getLsbD i)

/-- The task gives up the engine. -/
def taskControl (e t : Nat) (op : TaskCtl) (next : Nat) (s : State) : State :=
  let c := e / 8
  let x := s.eng e
  let k := s.task c t
  let saved := { k with save := [x.g.get 0 12, x.g.get 0 13, x.g.get 0 14, x.g.get 0 15], fl := x.fl, resume := next }
  match op with
  | .none => s
  | .done =>
    (freeEngine e s).setTask c t
      (if k.rdy = 0 then { k with st := tDONE } else { k with st := tREADY, rdy := k.rdy - 1, resume := s.taskEntry c t })
  | .yield => (freeEngine e s).setTask c t { saved with st := tREADY }
  | .waitev mask =>
    let now := s.levelTrue c mask || s.latched c mask
    let s := (freeEngine e s).setTask c t { saved with st := if now then tREADY else tSTALLED, mask := mask }
    s.setClu c { s.clu c with latch := (s.clu c).latch &&& ~~~ (BitVec.ofNat 12 (mask / 2 ^ 4)) }

/-- A cancellation that waits for the boundary, else the task control (R143, R169). -/
def boundaryWork (e t : Nat) (op : TaskCtl) (next : Nat) (s : State) : State :=
  if (s.task (e / 8) t).cancel then freeEngine e (endTask (e / 8) t s) else taskControl e t op next s

/-- The boundary after an END word: the stops come first, and hold what follows them (R143). -/
def endInstr (e : Nat) (op : TaskCtl) (next : Nat) (s : State) : State :=
  let x := s.eng e
  match x.task with
  | none => s
  | some t =>
    if x.overrun then s.setEng e { x with halted := true }
    else if !s.inService e then s.setEng e { x with held := some (op, next) }
    else boundaryWork e t op next s

/-- What a stop has held at a boundary is done. -/
def releaseHeld (e : Nat) (s : State) : State :=
  let x := s.eng e
  match x.held, x.task with
  | some (op, next), some t => boundaryWork e t op next (s.setEng e { x with held := none })
  | _, _ => s

/-- The stop of an engine has ended: it goes on from its boundary (R143). -/
def resumeHeld (s : State) : State :=
  (s.engs.map (·.1)).foldl (fun s e => if s.inService e then releaseHeld e s else s) s

/-- The word is done: the next address, the run length, and the boundary where END is 1. -/
def endWord (e next : Nat) (stack : List Nat) (last : Bool) (op : TaskCtl) (s : State) : State :=
  let x := s.eng e
  let s := s.setEng e { x with pc := next, stack := stack, word := none, run := if last then 0 else x.run + 1 }
  if last then endInstr e op next s else s

/-! ### Dispatch (R171) -/

/-- An engine may dispatch: its cluster serves its role, it runs nothing, it is not stopped, and the guard has not begun. -/
def State.mayDispatch (s : State) (e : Nat) : Bool :=
  let c := e / 8
  s.serving && s.active (pageCL c) && s.dst (16 + c) == 0 && (s.clu c).holds && (s.clu c).copy.isNone && !(s.clu c).faultDue &&
    (s.eng e).task.isNone && !(s.eng e).halted && !s.trails e && !s.tick.guard && !s.mode.clockLost

/-- The lowest-numbered READY task that names an engine. -/
def State.nextTask (s : State) (e : Nat) : Option Nat :=
  ((s.clu (e / 8)).tasks.find? (fun t => t.2.st == tREADY && s.taskEngine (e / 8) t.1 == e % 8)).map (·.1)

/-- Dispatch: g12 to g15 and the flags come from the descriptor, execution starts at its resume address (R144). -/
def dispatch (e : Nat) (s : State) : State :=
  if !s.mayDispatch e then s else
  match s.nextTask e with
  | none => s
  | some t =>
    let c := e / 8
    let k := s.task c t
    let x := s.eng e
    let g := k.save.zipIdx.foldl (fun g p => g.set 0 (12 + p.2) p.1) x.g
    let s := s.setEng e { x with g := g, fl := k.fl, pc := k.resume, stack := [], task := some t, word := none, run := 0 }
    s.setTask c t { k with st := tRUNNING, runs := (k.runs + 1) % 2 ^ 16, disAt := s.cycle }

def execDispatch (e : Fin 128) (s : State) : Out := .next (dispatch e.val s)

/-! ### The shift unit (R157 to R162) -/

/-- Bits as a number, the oldest most significant, or least significant with LSBF = 1. -/
def bitsVal (lsbf : Bool) (l : List Bool) : Nat := (if lsbf then l.reverse else l).foldl (fun n b => 2 * n + bit b) 0

/-- Bits [n−1:0] of a word in line order. -/
def wordBits (lsbf : Bool) (w : Word) (n : Nat) : List Bool :=
  let l := (List.range n).map (fun i => bitOf w.toNat i)
  if lsbf then l else l.reverse

/-- The stalled SHIFTs of a unit that can end now do so, lowest engine first (R159, R162). -/
def serveStall (c e : Nat) (s : State) : State :=
  match (s.eng e).wait with
  | none => s
  | some w =>
    let u := s.unit c
    if w.tx then
      if u.transmits && decide (u.buf.length + w.n ≤ 32) then
        endShift e 0 false (s.setUnit c { u with buf := u.buf ++ wordBits u.lsbf w.data w.n })
      else s
    else if u.receives && decide (w.n ≤ u.buf.length) then
      endShift e (BitVec.ofNat 32 (bitsVal u.lsbf (u.buf.take w.n))) false (s.setUnit c { u with buf := u.buf.drop w.n })
    else s

def serveStalls (c : Nat) (s : State) : State := (s.stalledOn c).foldl (fun s e => serveStall c e s) s

/-- Every SHIFT stalled on a unit ends with S = 1, a TX with a code (R162). -/
def failStalls (c code : Nat) (s : State) : State :=
  (s.stalledOn c).foldl (fun s e => match (s.eng e).wait with
    | some w => endShift e (shiftResult w code) true s
    | none => s) s

/-- A receiving unit finds a frame error: FRMERR, the partial frame is gone, a stalled RX ends with S = 1 (R160). -/
def frameError (c : Nat) (s : State) : State :=
  let u := s.unit c
  failStalls c eOK (s.setUnit c { u with frmErr := true, nibs := [], drop := false, tick := none })

/-- A whole frame enters the buffer, or has been dropped for want of room (R160). -/
def frameDone (c : Nat) (l : List Bool) (drop : Bool) (s : State) : State :=
  let u := s.unit c
  if drop then s.setUnit c { u with ovr := true, nibs := [], drop := false }
  else
    let s := s.setUnit c { u with buf := u.buf ++ l, frames := (u.frames + 1) % 2 ^ 16, nibs := [], drop := false }
    (serveStalls c s).wakeLevels

/-- One interval between falling edges of a SENT line (R160). -/
def sentInterval (c : Nat) (s : State) (i : Nat) : State :=
  let u := s.unit c
  if 3 * 56 * u.unit ≤ 4 * i ∧ 4 * i ≤ 5 * 56 * u.unit then s.setUnit c { u with tick := some i, nibs := [], drop := false, busy := true }
  else
    match u.tick with
    | none => frameError c s
    | some t =>
      -- the interval in ticks of t / 56, to the nearest
      let k := (2 * 56 * i + t) / (2 * t)
      if u.busy ∧ 12 ≤ k ∧ k ≤ 27 then
        let drop := if u.nibs = [] then decide (32 < u.buf.length + 4 * u.frm) else u.drop
        let nibs := u.nibs ++ [k - 12]
        let s := s.setUnit c { u with nibs := nibs, drop := drop }
        if nibs.length = u.frm then
          let s := s.setUnit c { s.unit c with busy := false }
          frameDone c (nibs.flatMap (fun n => [bitOf n 3, bitOf n 2, bitOf n 1, bitOf n 0])) drop s
        else s
      else if !u.busy ∧ 12 ≤ k ∧ k ≤ 768 then s
      else frameError c (s.setUnit c { u with busy := false })

/-- Samples that a bit takes: PSI5 at ¼ and ¾ of it, NRZ at its middle (R160). -/
def ShiftSt.perBit (u : ShiftSt) : Nat := if u.mode = 2 then 2 else 1

/-- Samples due before a time after the begin of the frame. -/
def ShiftSt.samples (u : ShiftSt) (t : Nat) : Nat := (2 * u.perBit * t + u.unit - 1) / (2 * u.unit)

/-- One sample of the frame in progress: PSI5 needs a transition between the two of a bit, and its bit is the level of the second. -/
def lineSample (l : Bool) (c : Nat) (s : State) : State :=
  let u := s.unit c
  if !u.busy then s
  else if u.mode = 2 ∧ u.half = none then s.setUnit c { u with half := some l }
  else if u.half = some l then frameError c (s.setUnit c { u with busy := false, half := none, bits := [] })
  else
    let drop := if u.bits = [] then decide (32 < u.buf.length + u.frm) else u.drop
    let bits := u.bits ++ [l]
    if u.frm ≤ bits.length then frameDone c bits drop (s.setUnit c { u with busy := false, half := none, bits := [] })
    else s.setUnit c { u with bits := bits, drop := drop, half := none }

/-- The line holds a level for a time (R160). A PSI5 frame begins at the first transition after 2 × UNIT without one, an NRZ frame at
a falling edge after one UNIT of high level. -/
def lineRun (c : Nat) (s : State) (r : Bool × Nat) : State :=
  let u := s.unit c
  let l := r.1 != u.inv
  let edge := u.lvl == some (!l)
  let first := edge && !u.busy && (if u.mode = 2 then decide (2 * u.unit ≤ u.quiet) else !l && decide (u.unit ≤ u.quiet))
  let u := if first then { u with busy := true, since := 0, bits := [], half := none } else u
  let u' := { u with lvl := some l, quiet := (if edge then 0 else u.quiet) + r.2, since := u.since + r.2 }
  let n := min (u'.samples u'.since - u'.samples u.since) (u'.perBit * u'.frm)
  (List.replicate n l).foldl (fun s l => lineSample l c s) (s.setUnit c u')

/-- What a receiving unit decodes from its line (R160); a unit whose domain is not ON decodes nothing. -/
def rxFrame (c : Nat) (f : RxFrame) (s : State) : State :=
  let u := s.unit c
  if !s.pageOn (chPage c) ∨ !u.receives then s else
  match f with
  | .intervals is => if u.mode = 1 then is.foldl (sentInterval c) s else s
  | .line l => if u.mode = 1 then s else l.foldl (lineRun c) s

def execShiftRxFrame (c : Fin 160) (f : RxFrame) (s : State) : Out := .next (rxFrame c.val f s)

/-- The level that a bit puts on the line: NRZ the bit, Manchester its first half (R160, R161). -/
def txLevel (u : ShiftSt) (b : Bool) : Bool := (if u.mode = 5 then !b else b) != u.inv

/-- A transmitting unit goes on: to the second half of a Manchester bit, to the next bit, or to IDLE (R161). -/
def txBit (c : Nat) (s : State) : State :=
  let u := s.unit c
  if !s.pageOn (chPage c) ∨ !u.transmits then s else
  let s := if u.busy then s.upTo u.due else s
  match u.half with
  | some l => s.setUnit c { u with line := l, half := none, due := s.now + u.unit - u.unit / 2 }
  | none =>
    match u.buf with
    | b :: t =>
      let s := s.setUnit c { u with
        buf := t, busy := true, line := txLevel u b, half := if u.mode = 5 then some (b != u.inv) else none,
        due := s.now + (if u.mode = 5 then u.unit / 2 else u.unit) }
      (serveStalls c s).wakeLevels
    | [] => if u.busy then s.setUnit c { u with busy := false, line := u.idle } else s

def execShiftTxBit (c : Fin 160) (s : State) : Out := .next (txBit c.val s)

/-- A SHIFT stalled for TIMEOUT × 10 µs ends with E_TIMEOUT, an RX with S = 1; TO is set (R159). -/
def shiftTimeout (e : Nat) (s : State) : State :=
  match (s.eng e).wait with
  | none => s
  | some w =>
    let u := s.unit w.chan
    if u.timeout = 0 then s
    else endShift e (shiftResult w eTIMEOUT) true ((s.upTo (w.since + u.timeout * 8000)).setUnit w.chan { u with tmo := true })

def execShiftTimeout (e : Fin 128) (s : State) : Out := .next (shiftTimeout e.val s)

end Sys2Proof.Machine
end

