-- ==== Sys2Proof/Machine/Alu.lean ====
section
/-! DEFINITION. The A slot and the sequencer of the microengines (R140, R141, R146 to R148). -/

namespace Sys2Proof.Machine

/-- The A operation of a code (R145 to R148): its results are written at the end of the cycle, the flags with AFLG = 1. -/
def aOp (e code : Nat) (f : AFields) (op : WordSt → ARes) (s : State) : State :=
  s.slot e false (fun w => w.holdsA code f) (fun w s =>
    let r := op w
    let s := s.setRegs e r.wr
    if f.aflg then
      let x := s.eng e
      s.setEng e { x with fl := { r.flags w.fl with s := x.fl.s } }
    else s)

/-- An operation that writes one register from a value. -/
def aValue (e code : Nat) (f : AFields) (val : WordSt → Word) (s : State) : State :=
  aOp e code f (fun w => { wr := [(f.ad.toNat, val w)], val := val w }) s

/-- An addition or a subtraction, with its carry and overflow. -/
def aArith (e code : Nat) (f : AFields) (write : Bool) (op : WordSt → Word × Bool × Bool) (s : State) : State :=
  aOp e code f
    (fun w => let r := op w; { wr := if write then [(f.ad.toNat, r.1)] else [], val := r.1, c := some r.2.1, v := some r.2.2 }) s

/-- A shift or a rotation by op2[4:0]. -/
def aShift (e code : Nat) (f : AFields) (left : Bool) (op : Word → Nat → Word) (s : State) : State :=
  aOp e code f
    (fun w =>
      let n := (op2 w f).toNat % 32
      let r := op (op1 w f) n
      { wr := [(f.ad.toNat, r)], val := r, c := shiftOut left (op1 w f) n }) s

/-- A 64-bit product into g[AHD]:g[AD]; Z and N follow g[AD]. -/
def aProduct (e code : Nat) (f : AFields) (op : WordSt → BitVec 64) (s : State) : State :=
  aOp e code f
    (fun w => let r := op w; { wr := [(f.ad.toNat, lo32 r), (f.ahd.toNat, hi32 r)], val := lo32 r }) s

/-- The field of `width` bits at `lsb`, zero-extended; bits past bit 31 read 0 (R147). -/
def bfxOf (a : Word) (c : Word) : Word := BitVec.ofNat 32 (bitsOf a.toNat (c.toNat % 32) (bitsOf c.toNat 5 5 + 1))

/-- The field of `old` at IMM[4:0] with width IMM[9:5] + 1 is replaced by the low bits of `a` (R147). -/
def bfiOf (old a : Word) (c : Word) : Word :=
  let lsb := c.toNat % 32
  let width := bitsOf c.toNat 5 5 + 1
  let m := BitVec.ofNat 32 ((2 ^ width - 1) * 2 ^ lsb)
  (old &&& ~~~m) ||| ((a <<< lsb) &&& m)

/-- Leading zeros of a word, 0 to 32. -/
def clzOf (a : Word) : Word := BitVec.ofNat 32 (if a.toNat = 0 then 32 else 31 - Nat.log2 a.toNat)

/-- Rotate right. -/
def rorOf (a : Word) (n : Nat) : Word := if n = 0 then a else (a >>> n) ||| (a <<< (32 - n))

def execMov (e : Fin 128) (f : AFields) (s : State) : Out := .next (aValue e 0x01 f (fun w => op2 w f) s)
def execAdd (e : Fin 128) (f : AFields) (s : State) : Out := .next (aArith e 0x02 f true (fun w => addRes (op1 w f) (op2 w f) false) s)
def execAdc (e : Fin 128) (f : AFields) (s : State) : Out := .next (aArith e 0x03 f true (fun w => addRes (op1 w f) (op2 w f) w.fl.c) s)
def execSub (e : Fin 128) (f : AFields) (s : State) : Out := .next (aArith e 0x04 f true (fun w => subRes (op1 w f) (op2 w f) true) s)
def execSbc (e : Fin 128) (f : AFields) (s : State) : Out := .next (aArith e 0x05 f true (fun w => subRes (op1 w f) (op2 w f) w.fl.c) s)
def execAnd (e : Fin 128) (f : AFields) (s : State) : Out := .next (aValue e 0x06 f (fun w => op1 w f &&& op2 w f) s)
def execOr (e : Fin 128) (f : AFields) (s : State) : Out := .next (aValue e 0x07 f (fun w => op1 w f ||| op2 w f) s)
def execXor (e : Fin 128) (f : AFields) (s : State) : Out := .next (aValue e 0x08 f (fun w => op1 w f ^^^ op2 w f) s)
def execNot (e : Fin 128) (f : AFields) (s : State) : Out := .next (aValue e 0x09 f (fun w => ~~~op2 w f) s)
def execShl (e : Fin 128) (f : AFields) (s : State) : Out := .next (aShift e 0x0A f true (fun a n => a <<< n) s)
def execShr (e : Fin 128) (f : AFields) (s : State) : Out := .next (aShift e 0x0B f false (fun a n => a >>> n) s)
def execSar (e : Fin 128) (f : AFields) (s : State) : Out := .next (aShift e 0x0C f false (fun a n => a.sshiftRight n) s)
def execRor (e : Fin 128) (f : AFields) (s : State) : Out := .next (aShift e 0x0D f false rorOf s)
def execCmp (e : Fin 128) (f : AFields) (s : State) : Out := .next (aArith e 0x0E f false (fun w => subRes (op1 w f) (op2 w f) true) s)

/-- TST: as AND, without writing (R147). -/
def execTst (e : Fin 128) (f : AFields) (s : State) : Out :=
  .next (aOp e 0x0F f (fun w => { wr := [], val := op1 w f &&& op2 w f }) s)

def execMulu (e : Fin 128) (f : AFields) (s : State) : Out := .next (aProduct e 0x10 f (fun w => (op1 w f).setWidth 64 * (op2 w f).setWidth 64) s)
def execMuls (e : Fin 128) (f : AFields) (s : State) : Out := .next (aProduct e 0x11 f (fun w => (op1 w f).signExtend 64 * (op2 w f).signExtend 64) s)
def execMull (e : Fin 128) (f : AFields) (s : State) : Out := .next (aValue e 0x12 f (fun w => op1 w f * op2 w f) s)
def execMin (e : Fin 128) (f : AFields) (s : State) : Out := .next (aValue e 0x13 f (fun w => if (op1 w f).toInt ≤ (op2 w f).toInt then op1 w f else op2 w f) s)
def execMax (e : Fin 128) (f : AFields) (s : State) : Out := .next (aValue e 0x14 f (fun w => if (op1 w f).toInt ≤ (op2 w f).toInt then op2 w f else op1 w f) s)
def execMinu (e : Fin 128) (f : AFields) (s : State) : Out := .next (aValue e 0x15 f (fun w => if (op1 w f).toNat ≤ (op2 w f).toNat then op1 w f else op2 w f) s)
def execMaxu (e : Fin 128) (f : AFields) (s : State) : Out := .next (aValue e 0x16 f (fun w => if (op1 w f).toNat ≤ (op2 w f).toNat then op2 w f else op1 w f) s)
def execClz (e : Fin 128) (f : AFields) (s : State) : Out := .next (aValue e 0x17 f (fun w => clzOf (op2 w f)) s)
def execBfx (e : Fin 128) (f : AFields) (s : State) : Out := .next (aValue e 0x18 f (fun w => bfxOf (op1 w f) (op2 w f)) s)

/-- BFI takes its field from IMM; AIMM must be 1 (R147). -/
def execBfi (e : Fin 128) (f : AFields) (s : State) : Out :=
  .next (aOp e 0x19 f (fun w => let r := bfiOf (w.r f.ad.toNat) (op1 w f) f.imm; { wr := [(f.ad.toNat, r)], val := r }) s)

/-! ### The sequencer (R140) -/

/-- The sequencer ends the word whose slots have acted (R140); the pair is compared (R179). -/
def seqOp (e nxt : Nat) (n : NFields) (hw : HwFault) (s : State) : State :=
  if !s.issues e then s else
  match s.opened e with
  | none => s
  | some w =>
    if !(w.aDone && w.xDone && w.endsBy nxt n && !givesUp (xopOf w.m)) then s
    else match wordFault (s.eng e) w with
      | some cls => machineCheck e cls s
      | none => hwCheck e hw none (fun s =>
          match nextAddr (s.eng e) nxt n (condHolds w.fl n.cond) with
          | .check cls => machineCheck e cls s
          | .go pc stack => endWord e pc stack n.last .none s) s

def execInc (e : Fin 128) (n : NFields) (hw : HwFault) (s : State) : Out := .next (seqOp e 0 n hw s)
def execBr (e : Fin 128) (n : NFields) (hw : HwFault) (s : State) : Out := .next (seqOp e 1 n hw s)
def execBrc (e : Fin 128) (n : NFields) (hw : HwFault) (s : State) : Out := .next (seqOp e 2 n hw s)
def execCall (e : Fin 128) (n : NFields) (hw : HwFault) (s : State) : Out := .next (seqOp e 3 n hw s)
def execCallc (e : Fin 128) (n : NFields) (hw : HwFault) (s : State) : Out := .next (seqOp e 4 n hw s)
def execRet (e : Fin 128) (n : NFields) (hw : HwFault) (s : State) : Out := .next (seqOp e 5 n hw s)
def execRetc (e : Fin 128) (n : NFields) (hw : HwFault) (s : State) : Out := .next (seqOp e 6 n hw s)

/-- The watchdog reaches 256 cycles: the word that would issue next is not executed (R142). -/
def execMcWdog (e : Fin 128) (s : State) : Out :=
  .next (if s.issues e && (s.eng e).fresh then machineCheck e mcWDOG s else s)

/-- A 65th word is fetched without a boundary (R142). -/
def execMcRunlen (e : Fin 128) (s : State) : Out :=
  .next (if s.issues e && (s.eng e).fresh && decide ((s.eng e).run = 64) then machineCheck e mcRUNLEN s else s)

end Sys2Proof.Machine
end

