-- ==== Sys2Proof/Machine/Converter.lean ====
section
/-! DEFINITION. Converters and the test DAC (R195 to R223). -/

namespace Sys2Proof.Machine

/-! ### Clock, ranges and inputs (R195, R196, R198) -/

/-- A conversion clock in TB LSBs; its edges lie at the multiples. -/
def State.cclk (s : State) (n : Nat) : Nat := 2 * s.fld (pageADC n) Off.adc_CORECFG 0 8
def State.edgeFrom (s : State) (n t : Nat) : Nat := (t + s.cclk n - 1) / s.cclk n * s.cclk n

/-- The group that a core serves. -/
def State.group (s : State) (n : Nat) : Nat := if n = 4 then (s.adc 4).sub.getD 0 else n

def State.ain (s : State) (n ch : Nat) : AIn := (s.adc n).ins.get {} ch
def State.setAin (s : State) (n ch : Nat) (x : AIn) : State := s.setAdc n { s.adc n with ins := (s.adc n).ins.set {} ch x }

/-- The clock from which a channel has left its slot. -/
def State.chReady (s : State) (n ch : Nat) : Nat :=
  match (s.ain n ch).hold with
  | some h => h + (s.fld (pageADC n) Off.adc_CORECFG 8 7 + 1) * s.cclk n
  | none => 0

/-- Code limits of a range (R198). -/
def clampCode (rng : Nat) (v : Int) : Int := if rng = 3 then max (-8192) (min 8191 v) else max 0 (min 16383 v)

/-- The code of a value that leaves the pipeline, in 1/16 LSB of its range: the offset is subtracted, the gain applied, the
result rounded and clamped (R198, R210). -/
def State.sampleCode (s : State) (n rng : Nat) (raw : Int) : Int :=
  let ofs := signed 16 (s.fld (pageADC n) (Off.adc_CALOFS rng) 0 16)
  clampCode rng (divRound ((raw - ofs) * (s.fld (pageADC n) (Off.adc_CALGAIN rng) 0 18 : Int)) (2 ^ 20))

/-! ### Sequence entries (R199 to R203) -/

def State.seqA (s : State) (n e lo len : Nat) : Nat := s.fld (pageADCS n) (Off.adcs_SEQA e) lo len
def State.seqB (s : State) (n e lo len : Nat) : Nat := s.fld (pageADCS n) (Off.adcs_SEQB e) lo len

/-- The channels that a pass of an entry converts. -/
def State.seqMask (s : State) (n e : Nat) : List Nat :=
  (List.range 16).filter (fun i => bitOf (s.seqA n e 0 16) i && s.flag (pageADC n) Off.adc_ENMASK i)

/-- The next channel of the running pass. -/
def State.nextCh (s : State) (n : Nat) : Option Nat :=
  (s.seqMask n (s.adc n).entry).find? (fun i => match (s.adc n).last with | some l => decide (l < i) | none => true)

/-- How a mode runs the sequence of an ACTIVE core (R203). -/
def seqKind (md prev : Nat) : Nat :=
  let k (m : Nat) := if m = mRUN ∨ m = mLIMP then 1 else if m = mBENCH ∨ m = mSAFE ∨ m = mBOOT then 2 else 0
  if md = mHALT then k prev else k md

/-- The core converts. -/
def State.converts (s : State) (n : Nat) : Bool := s.active (pageADC n) && (s.adc n).kind != 0

/-- An entry begins: it takes a latched trigger at once, or waits for one, or for its delay only; TRIG and DELAY are those of its
start (R200 to R202). -/
def beginEntry (n e beg : Nat) (s : State) : State :=
  let x := s.adc n
  let delay := s.seqB n e 0 16 * s.cclk n
  let trig := s.seqB n e 20 3
  let x := { x with entry := e, beg := s.edgeFrom n beg, passes := 0, last := none, trig := trig, delay := delay }
  if x.kind = 1 ∧ trig ≠ 0 then
    match x.latch.get 0 (trig - 1) with
    | 0 => s.setAdc n { x with phase := 0 }
    | t + 1 => s.setAdc n { x with phase := 1, latch := x.latch.erase (trig - 1), start := max x.beg (s.edgeFrom n t + delay) }
  else s.setAdc n { x with phase := 1, start := x.beg + delay }

/-! ### Rings (R211, R212) -/

/-- The four words of a full record. -/
def SampRec.words (r : SampRec) : List Word :=
  [ BitVec.ofNat 32 (unsigned 22 r.value + r.rng * 2 ^ 22 + r.ain * 2 ^ 24 + bit r.settle * 2 ^ 30 + bit r.part * 2 ^ 31),
    BitVec.ofNat 32 (r.count % 256 + bit r.urgent * 2 ^ 8 + bit r.diag * 2 ^ 9 + r.entry * 2 ^ 10),
    BitVec.ofNat 32 r.tb, BitVec.ofNat 32 (r.tb / 2 ^ 32) ]

/-- Put half a word at a byte address. -/
def putHalf (w : Word) (a v : Nat) : Word := withField w (a % 4 * 8) 16 v

/-- A record goes to a ring in sample memory or host memory. -/
def State.ringStore (s : State) (host full : Bool) (a : Nat) (r : SampRec) : State :=
  let half := unsigned 14 r.value + r.rng * 2 ^ 14
  if host then
    if full then s.dma a r.words else s.dma (a / 4 * 4) [putHalf (s.hostMem.word a) a half]
  else if full then { s with smem := s.smem.setWords a r.words }
  else { s with smem := s.smem.setWord a (putHalf (s.smem.word a) a half) }

/-- A record is written to ring r of a core, or dropped where the ring is full; while the link takes no writes a host ring counts
as full (R212, R303). No sample of BOOT reaches a ring (R203). -/
def ringPut (n r : Nat) (rec : SampRec) (s : State) : State :=
  let p := pageADC n
  let cfg := s.reg p (Off.adc_RINGCFG r)
  if fieldOf cfg 0 1 = 0 ∨ s.md = mBOOT then s else
  let host := fieldOf cfg 1 1 == 1
  let full := fieldOf cfg 2 1 == 1
  let size := 2 ^ fieldOf cfg 4 5
  let wp := s.fld p (Off.adc_RINGWP r) 0 25
  let len := if full then 16 else 2
  let wp' := (wp + len) % size
  if (fieldOf cfg 3 1 = 0 ∧ wp' = s.fld p (Off.adc_RINGRP r) 0 25) ∨ (host ∧ !s.dmaReady) then
    (s.addSat p (Off.adc_RINGLOST r) 0 16 1).intSet p 21
  else
    let s := s.ringStore host full (s.reg64 p (Off.adc_RINGBASE_LO r) (Off.adc_RINGBASE_HI r) + wp) rec
    let s := s.setReg p (Off.adc_RINGWP r) (BitVec.ofNat 32 wp')
    let s := if host then s else { s with smem := s.smem.setWord (0x3FC00 + 0x40 * n + 4 * r) (BitVec.ofNat 32 wp') }
    let w := s.fld p (Off.adc_RINGWM r) 0 24
    s.bellIf (w != 0 && (wp + len) / w != wp / w) (0x200 + 16 * s.group n + r)

/-- The ring of a record: an entry's, unless NORING; of an urgent sample URGCFG's (R200, R207). -/
def State.ringOf (s : State) (n : Nat) (r : SampRec) : Option Nat :=
  if r.urgent then
    if s.flag (pageADC n) Off.adc_URGCFG 4 then some (s.fld (pageADC n) Off.adc_URGCFG 0 4) else none
  else if s.seqB n r.entry 28 1 = 1 then none else some (s.seqB n r.entry 24 4)

def recPut (n : Nat) (r : SampRec) (s : State) : State :=
  match s.ringOf n r with
  | some i => ringPut n i r s
  | none => s

/-! ### Averaging blocks (R205, R206) -/

/-- The record of a block. -/
def SBlock.record (b : SBlock) (ain entry : Nat) (part : Bool) : SampRec :=
  { value := b.sum / 2 ^ b.shift, rng := b.rng, ain := ain, settle := b.settle, part := part, count := b.k, diag := b.diag,
    entry := entry, tb := b.tb }

/-- A block is emitted at the store clock of its last sample; at once where that has passed. -/
def emitBlock (n ch : Nat) (b : SBlock) (part : Bool) (s : State) : State :=
  let r := b.record (16 * s.group n + ch) (s.adc n).entry part
  let x := s.adc n
  let mine (h : Held) : Bool := h.samp.tb == b.tb && h.samp.ain == r.ain && !h.samp.urgent
  if x.pipe.any mine then
    s.setAdc n { x with pipe := x.pipe.map (fun h => if mine h then { h with blocks := h.blocks ++ [r] } else h) }
  else recPut n r s

/-- The open block of a channel is closed early. -/
def closeBlock (n ch : Nat) (s : State) : State :=
  match (s.ain n ch).block with
  | none => s
  | some b => emitBlock n ch b true (s.setAin n ch { s.ain n ch with block := none })

def closeBlocks (n : Nat) (s : State) : State := (List.range 16).foldl (fun s ch => closeBlock n ch s) s

/-- The entry ends in the CCLK after `h`, and the next begins (R200, R201). -/
def endEntry (n h : Nat) (s : State) : State :=
  let e := (s.adc n).entry + 1
  beginEntry n (if s.fld (pageADC n) Off.adc_SEQCTL 0 7 ≤ e then 0 else e) (h + s.cclk n) (closeBlocks n s)

/-- The running pass is over if no channel is left in it; after the last pass the entry ends (R199, R201). -/
def passOver (n h : Nat) (s : State) : State :=
  if (s.nextCh n).isSome then s
  else
    let x := s.adc n
    let s := s.setAdc n { x with passes := x.passes + 1, last := none }
    if s.seqA n x.entry 16 8 + 1 ≤ x.passes + 1 ∨ s.seqMask n x.entry = [] then endEntry n h s else s

/-- A commit has changed the entry in progress (R201, R204): RNG, AVGL or SHIFT close its blocks; the pass goes on under the new
mask, and an entry whose passes reach a new REP ends after the pass that runs, one that waits for its first hold too. -/
def seqChanged (n : Nat) (blocks : Bool) (s : State) : State :=
  let s := if blocks then closeBlocks n s else s
  let x := s.adc n
  if x.kind = 0 ∨ x.phase ≠ 2 then s
  else passOver n s.now s

/-! ### Triggers and urgent requests (R202, R207) -/

/-- A request joins the queue: in order of arrival, within one clock in ascending channel. -/
def addUrgent (n : Nat) (u : Urg) (s : State) : State :=
  let x := s.adc n
  s.setAdc n { x with urg := insertBy (fun a b => decide (a.tb < b.tb) || (a.tb == b.tb && decide (a.ch < b.ch))) u x.urg }

/-- A trigger that is not used is counted (R202). -/
def trigLost (n i : Nat) (s : State) : State := (s.addSat (pageADC n) Off.adc_TRGOVR (8 * i) 8 1).intSet (pageADC n) 19

/-- The trigger point of an input: the earliest that a source has set, else the present clock. -/
def trigger (n i : Nat) (s : State) : State :=
  let x := s.adc n
  let p := pageADC n
  let pend := x.due.filter (fun d => d.1 == i)
  let t := match pend with
    | [] => s.now
    | d :: r => r.foldl (fun m e => min m e.2) d.2
  let s := (s.upTo t).setAdc n { x with due := x.due.erase (i, t) }
  let cfg := s.reg p (Off.adc_TRGCFG i)
  if !s.converts n ∨ fieldOf cfg 0 2 = 0 then s
  else if fieldOf cfg 5 1 = 1 then
    if !s.flag p Off.adc_ENMASK (fieldOf cfg 8 4) ∨ 4 ≤ (s.adc n).urg.length then (s.addSat p Off.adc_URGLOST 0 16 1).intSet p 20
    else addUrgent n { ch := fieldOf cfg 8 4, tb := t, cmd := false } s
  else
    let x := s.adc n
    let waits := x.kind == 1 && x.phase == 0 && x.trig == i + 1
    if waits then
      s.setAdc n { x with phase := 1, start := max x.beg (s.edgeFrom n t + x.delay) }
    else if fieldOf cfg 4 1 = 1 ∨ x.latch.has i then trigLost n i s
    else s.setAdc n { x with latch := x.latch.set 0 i (t + 1) }

def execTrigger (n : Fin 5) (i : Fin 4) (s : State) : Out := .next (trigger n i s)

/-- The delay of the entry ends and its passes begin; an entry without channels takes one CCLK (R200). -/
def seqEntryStart (n : Nat) (s : State) : State :=
  let x := s.adc n
  if !s.converts n ∨ x.phase ≠ 1 then s else
  let s := s.upTo x.start
  if s.seqMask n x.entry = [] then endEntry n x.start s
  else s.setAdc n { x with phase := 2, passes := 0, last := none }

def execSeqEntryStart (n : Fin 5) (s : State) : Out := .next (seqEntryStart n s)

/-! ### Holds (R196, R199, R204, R207) -/

/-- The first CCLK edge at which a channel can hold. -/
def State.holdAt (s : State) (n ch beg : Nat) : Nat :=
  let free := match (s.adc n).hold with | some h => h + s.cclk n | none => 0
  s.edgeFrom n (max (max beg s.now) (max free (s.chReady n ch)))

/-- The next hold of a core: urgent or not, its channel, its instant. An urgent request goes ahead of the sequence's hold for the
same CCLK. -/
def State.nextHold (s : State) (n : Nat) : Option (Bool × Nat × Nat) :=
  let x := s.adc n
  if !s.converts n then none else
  let u := match x.urg with
    | u :: _ => some (true, u.ch, s.holdAt n u.ch u.tb)
    | [] => none
  let q := if x.phase = 2 then
      match s.nextCh n with
      | some ch => some (false, ch, s.holdAt n ch x.start)
      | none => none
    else none
  match u, q with
  | some u, some q => if u.2.2 ≤ q.2.2 then some u else some q
  | some u, none => some u
  | none, q => q

/-- The sample of a hold: its range, its SETTLE flag, and a block that a new range closes (R198, R204). -/
def takeSample (n ch rng h : Nat) (urgent : Bool) (raw : Int) (s : State) : SampRec × State :=
  let i := s.ain n ch
  let changed := match i.rng with | some r => r != rng | none => false
  let s := if changed then closeBlock n ch s else s
  let left := if changed then 3 else i.settle
  let s := s.setAin n ch { s.ain n ch with hold := some h, rng := some rng, settle := left - 1 }
  let s := s.setAdc n { s.adc n with hold := some h }
  let s := s.setReg (pageADC n) Off.adc_SEQN (s.reg (pageADC n) Off.adc_SEQN + 1)
  let ain := 16 * s.group n + ch
  let diag := s.flag pageTDAC Off.tdac_TDCFG 16 && s.fld pageTDAC Off.tdac_TDCFG 24 6 == ain && s.pageOn pageTDAC
  ({ value := s.sampleCode n rng raw, rng := rng, ain := ain, settle := left != 0, urgent := urgent, diag := diag,
     entry := if urgent then 0 else (s.adc n).entry, tb := h }, s)

/-- A sample enters the pipeline; its store clock is 12 CCLKs after its hold (R197). -/
def State.pushHeld (s : State) (n : Nat) (h : Held) : State :=
  s.setAdc n { s.adc n with pipe := (s.adc n).pipe ++ [{ h with due := h.samp.tb + 12 * s.cclk n }] }

/-- A sample of the sequence: a record of its own, or a part of its channel's block (R205). -/
def seqSample (n ch : Nat) (r : SampRec) (s : State) : State :=
  let e := (s.adc n).entry
  let avgl := s.seqA n e 26 4
  if avgl = 0 then s.pushHeld n { samp := r, own := true }
  else
    let b0 := (s.ain n ch).block.getD
      { sum := 0, k := 0, settle := false, diag := false, rng := r.rng, avgl := avgl, shift := s.seqB n e 16 4, tb := r.tb }
    let b := { b0 with sum := b0.sum + r.value, k := b0.k + 1, settle := b0.settle || r.settle, diag := b0.diag || r.diag, tb := r.tb }
    let s := s.pushHeld n { samp := r }
    if b.k = 2 ^ b.avgl then emitBlock n ch b false (s.setAin n ch { s.ain n ch with block := none })
    else s.setAin n ch { s.ain n ch with block := some b }

/-- A hold of the core's next channel; `raw` leaves the pipeline for it, in 1/16 LSB of its range. -/
def sampleHold (n ch : Nat) (raw : Int) (s : State) : State :=
  match s.nextHold n with
  | none => s
  | some (urgent, c, h) =>
    if c ≠ ch then s else
    let s := s.upTo h
    if urgent then
      let x := s.adc n
      let cmd := match x.urg with | u :: _ => u.cmd | [] => false
      let s := s.setAdc n { x with urg := x.urg.drop 1 }
      let (r, s) := takeSample n ch ((s.ain n ch).rng.getD 3) h true raw s
      s.pushHeld n { samp := r, cmd := if cmd then some n else none, own := true }
    else
      let (r, s) := takeSample n ch (s.seqA n (s.adc n).entry 24 2) h false raw s
      let s := seqSample n ch r s
      passOver n h (s.setAdc n { s.adc n with last := some ch })

def execSampleHold (n : Fin 5) (ch : Fin 16) (raw : Int) (s : State) : Out := .next (sampleHold n ch raw s)

/-! ### The store clock (R197, R205, R207, R213, R217) -/

/-- The PCIe interface and its configuration space are reset; what waited to be written is discarded and counted (R300). -/
def linkDown (s : State) : State :=
  let up := s.host.linkUp
  let s := { s with host := { s.host with linkUp := false, cfg := {}, msix := [], msixTab := [] } }
  let s := (s.setReg pageHOSTIF Off.hostif_PCIESTAT 0).payHost
  if up then s.intSet pageHOSTIF 18 else s

/-- The domains of DORMANT go off, the link with them; what still ran ends with its domain (R337, R341). -/
def goDark (s : State) : State :=
  let s := s.running.foldl (fun s r => s.endRun r { code := ePOWER }) s
  linkDown { s with mode := { s.mode with dark := true }, groups := [], shadow := [] }

/-- A core holds a sample that is not stored yet. -/
def State.holdsSample (s : State) : Bool := (List.range 5).any (fun n => !(s.adc n).pipe.isEmpty)

/-- In DORMANT the domains go off once the last held sample is stored (R203, R337). -/
def darkIfStored (s : State) : State := if s.md = mDORMANT ∧ !s.mode.dark ∧ !s.holdsSample then goDark s else s

/-- A sample that a TD_COMPARE takes (R217). -/
def tdCollect (r : SampRec) (s : State) : State :=
  if s.runs pageTDAC 0x40 ∧ r.ain = s.fld pageTDAC Off.tdac_TDCFG 24 6 ∧ s.td.n < 2 ^ s.fld pageTDAC Off.tdac_TDCMP 0 4 then
    { s with td := { s.td with n := s.td.n + 1, sum := s.td.sum + r.value, rng := r.rng } }
  else s

/-- What happens to a sample at its store clock. -/
def storeHeld (n : Nat) (h : Held) (s : State) : State :=
  let s := if h.own then recPut n h.samp s else s
  let s := h.blocks.foldl (fun s r => recPut n r s) s
  let s := tdCollect h.samp (handSample h.samp s)
  match h.cmd with
  | some m => s.finish (pageADC m) 0x41 { res := h.samp.words }
  | none => s

/-- The oldest sample of the pipeline comes to its store clock, 12 CCLKs after its hold. -/
def sampleStore (n : Nat) (s : State) : State :=
  match (s.adc n).pipe with
  | [] => s
  | h :: t =>
    if !s.pageOn (pageADC n) then s else
    let s := (s.upTo h.due).setAdc n { s.adc n with pipe := t }
    darkIfStored (storeHeld n h s)

def execSampleStore (n : Fin 5) (s : State) : Out := .next (sampleStore n s)

/-! ### Commands of an ADC page (R209, R214, R215, R221) -/

def State.refRdy (s : State) (n : Nat) : Bool := s.flag (pageADC n) Off.adc_CORESTAT 8
def State.calValid (s : State) (n : Nat) : Bool := s.flag (pageADC n) Off.adc_CORESTAT 9

def calibrate : Cmd where
  errs q s :=
    let p := q.page.toNat
    [ (eSTATE, !(s.st p == stIDLE || s.st p == stCONFIGURED || s.st p == stSPARE)), (eSTATE, !s.refRdy (pageInst p)) ]
  run q s :=
    let p := q.page.toNat
    (s.keepRun p 0x40 [s.st p, s.now]).setSt p stCALIBRATING

/-- The factors lie in their legal ranges (R209, R219). -/
def calOk (r : CalResult) : Bool :=
  r.pass && r.ofs.all (fun w => decide (-4096 ≤ signed 16 (fieldOf w 0 16)) && decide (signed 16 (fieldOf w 0 16) ≤ 4096)) &&
    r.gain.all (fun w => decide (0xE000 ≤ w.toNat) && decide (w.toNat ≤ 0x12000))

/-- The CAL registers take the factors of a calibration, active and shadow. -/
def putCal (n : Nat) (r : CalResult) (s : State) : State :=
  let p := pageADC n
  let s := r.ofs.zipIdx.foldl (fun s x => if x.2 < 4 then s.setFld p (Off.adc_CALOFS x.2) 0 16 x.1.toNat else s) s
  let s := r.gain.zipIdx.foldl (fun s x => if x.2 < 4 then s.setFld p (Off.adc_CALGAIN x.2) 0 18 x.1.toNat else s) s
  let s := r.stg.zipIdx.foldl (fun s x => if x.2 < 10 then s.setFld p (Off.adc_CALSTG x.2) 0 12 x.1.toNat else s) s
  { s with shadow := s.shadow.filter (fun x => !(decide (adr p 0x820 ≤ x.1) && decide (x.1 < adr p 0x868))) }

def calibrateComplete (n : Nat) (r : CalResult) (s : State) : State :=
  let p := pageADC n
  match s.running.find? (fun q => q.req.page.toNat == p && q.code == 0x40) with
  | none => s
  | some q =>
    let s := s.upTo (q.data.getD 1 0 + 1920000)
    if calOk r then
      let s := ((putCal n r s).setFld p Off.adc_CORESTAT 9 1 1).intSet p 16
      (s.setSt p (q.data.getD 0 stIDLE)).endRun q {}
    else ((s.intSet p 17).blockFault p).endRun q { code := eVALUE }

def execCalibrateComplete (n : Fin 5) (r : CalResult) (s : State) : Out := .next (calibrateComplete n r s)

/-- ABORT of CALIBRATE. -/
def abortCalibrate (p : Nat) (r : Running) (s : State) : State :=
  (s.setSt p (r.data.getD 0 stIDLE)).endRun r { code := eSTATE, aborted := true }

/-- The channel of URGENT: URGSEL.CH, or from the ring ARG word 2. -/
def State.urgCh (s : State) (q : Req) : Nat :=
  if q.src = .ring then fieldOf q.args.w2 0 4 else s.fld q.page.toNat Off.adc_URGSEL 0 4

def urgent : Cmd where
  errs q s :=
    let p := q.page.toNat
    [ (eSTATE, !s.converts (pageInst p)), (eSTATE, !s.flag p Off.adc_ENMASK (s.urgCh q)),
      (eBUSY, decide (4 ≤ (s.adc (pageInst p)).urg.length)) ]
  run q s := addUrgent (pageInst q.page.toNat) { ch := s.urgCh q, tb := s.now, cmd := true } s

/-- ABORT of URGENT: the request is withdrawn, or its sample is no longer returned. -/
def abortUrgent (n : Nat) (r : Running) (s : State) : State :=
  let deaf (m : Nat) (s : State) : State :=
    s.setAdc m { s.adc m with pipe := (s.adc m).pipe.map (fun h => if h.cmd = some n then { h with cmd := none } else h) }
  let s := s.setAdc n { s.adc n with urg := (s.adc n).urg.filter (fun u => !u.cmd) }
  ((List.range 5).foldl (fun s m => deaf m s) s).endRun r { code := eSTATE, aborted := true }

def seqRestart : Cmd where
  errs q s := [(eSTATE, !s.active q.page.toNat)]
  run _ s := s

/-- The group of SUBSTITUTE: SUBSEL.GROUP, or ARG word 2 of a ring entry or of the availability logic. -/
def State.subGroup (s : State) (q : Req) : Nat :=
  match q.src with
  | .port _ => s.fld q.page.toNat Off.adc_SUBSEL 0 2
  | _ => fieldOf q.args.w2 0 2

def adcSubstitute : Cmd where
  errs q s :=
    let n := pageInst q.page.toNat
    [ (eRESERVED, n != 4), (eSTATE, s.st q.page.toNat != stSPARE), (eSTATE, !s.refRdy n || !s.calValid n) ]
  run q s := s.keepRun q.page.toNat 0x43 [s.subGroup q]

def adcRelease : Cmd where
  errs q s :=
    let n := pageInst q.page.toNat
    let g := (s.adc 4).sub.getD 0
    [ (eRESERVED, n != 4), (eSTATE, !s.active q.page.toNat || (s.adc 4).sub.isNone),
      (eSTATE, s.st (pageADC g) != stCONFIGURED || !s.refRdy g || !s.calValid g) ]
  run _ s := s

/-! ### At boundaries -/

/-- A sequence that is to start, stop or change its kind does so; it begins at entry 0 (R203). -/
def seqSync (n : Nat) (s : State) : State :=
  let k := if s.active (pageADC n) then seqKind s.md (s.fld pageSYS Off.sys_MODE 8 3) else 0
  if k = (s.adc n).kind then s
  else
    let s := closeBlocks n s
    let s := s.setAdc n { s.adc n with kind := k, entry := 0, phase := 0, passes := 0, last := none }
    if k = 0 then s else beginEntry n 0 s.now s

/-- DORMANT begins: the sequences stop; what the cores hold goes to its store clocks, for which the domains stay on (R203, R206,
R337). -/
def stopCores (s : State) : State :=
  (List.range 5).foldl (fun s n =>
    let s := closeBlocks n s
    s.setAdc n { s.adc n with kind := 0, entry := 0, phase := 0, passes := 0, last := none }) s

/-- Every held sample that is still to be stored is, each at its store clock. -/
def storeAll (s : State) : State :=
  (List.range 5).foldl (fun s n => (s.adc n).pipe.foldl (fun s _ => sampleStore n s) s) s

/-- The TB stops, with every domain but the always-on one off (R68, R337). -/
def tbStop (s : State) : State :=
  if s.md = mDORMANT then { darkIfStored (storeAll s) with tbStopped := true } else s

/-- ENABLE: counts and ranges start again (R207, R219). -/
def startCore (n : Nat) (s : State) : State :=
  let x := s.adc n
  (s.setAdc n { x with ins := x.ins.map (fun e => (e.1, { e.2 with rng := none, settle := 0 })), urg := [] }).setReg
    (pageADC n) Off.adc_SEQN 0

/-- SEQ_RESTART takes effect. -/
def restartAtBoundary (n : Nat) (s : State) : State :=
  if s.runs (pageADC n) 0x42 then
    let s := closeBlocks n s
    let s := if (s.adc n).kind = 0 then s else beginEntry n 0 s.now s
    s.finish (pageADC n) 0x42 {}
  else s

/-- Configuration, sequence table and ring indices of a core go to another (R214, R215). -/
def copyCore (src dst : Nat) (cfg : Bool) (s : State) : State :=
  let put (s : State) (ps pd lo hi : Nat) : State :=
    (List.range ((hi - lo) / 4)).foldl (fun s i =>
      let o := lo + 4 * i
      if o = Off.adc_SUBSEL ∧ ps = pageADC src then s else s.setReg pd o (s.reg ps o)) s
  let s := if cfg then put (put s (pageADC src) (pageADC dst) 0x040 0x200) (pageADCS src) (pageADCS dst) 0x040 0x240 else s
  (List.range 16).foldl (fun s r =>
    (s.setReg (pageADC dst) (Off.adc_RINGWP r) (s.reg (pageADC src) (Off.adc_RINGWP r))).setReg
      (pageADC dst) (Off.adc_RINGRP r) (s.reg (pageADC src) (Off.adc_RINGRP r))) s

/-- The samples that a core held are lost with its domain: counted in RINGLOST, and as items of SAMPLE_LOST (R214, R289). -/
def loseHeld (n : Nat) (s : State) : State :=
  let recs := (s.adc n).pipe.flatMap (fun h => (if h.own then [h.samp] else []) ++ h.blocks)
  let s := recs.foldl (fun s r => match s.ringOf n r with
    | some i => (s.addSat (pageADC n) (Off.adc_RINGLOST i) 0 16 1).lose 3 (0x200 + 16 * n + i) true 0x021 1 s.now
    | none => s) s
  s.setAdc n { s.adc n with pipe := [] }

/-- The samples that a core holds complete at their store clocks in the rings of the core that serves the group now, which goes on
from the same write indices (R214, R215). -/
def passPipe (src dst : Nat) (s : State) : State :=
  let l := (s.adc src).pipe
  let s := s.setAdc src { s.adc src with pipe := [] }
  s.setAdc dst { s.adc dst with pipe := (s.adc dst).pipe ++ l }

/-- ADC4 takes over group g at the boundary (R214). -/
def substitute (g : Nat) (s : State) : State :=
  let on := s.pageOn (pageADC g)
  let s := copyCore g 4 true (closeBlocks g s)
  let x := s.adc 4
  let s := s.setAdc 4 { x with
    sub := some g, kind := 0, latch := (s.adc g).latch, due := (s.adc g).due, urg := [], hold := none,
    ins := (List.range 16).foldl (fun m ch => m.set {} ch { hold := some s.now }) [] }
  let s := s.setReg (pageADC 4) Off.adc_SEQN 0
  let s := seqSync 4 (s.setSt (pageADC 4) stACTIVE)
  let s := (List.range 16).foldl (fun s r => s.bellIf (s.flag (pageADC 4) (Off.adc_RINGCFG r) 0) (0x200 + 16 * g + r)) s
  let s := if on then passPipe g 4 s else loseHeld g s
  let s := s.setAdc g { s.adc g with urg := [], due := [], kind := 0 }
  let s := if on && s.st (pageADC g) != stFAULT then s.setSt (pageADC g) stQUARANTINE else s
  (s.intSet (pageADC g) 22).intSet (pageADC 4) 22

/-- Group g returns to its core at the boundary (R215). -/
def release (g : Nat) (s : State) : State :=
  let s := passPipe 4 g (copyCore 4 g false (closeBlocks 4 s))
  let x := s.adc 4
  let s := s.setAdc 4 { x with kind := 0, urg := [], due := [], latch := [] }
  let s := s.setAdc g { s.adc g with
    kind := 0, urg := [], hold := none, ins := (List.range 16).foldl (fun m ch => m.set {} ch { hold := some s.now }) [] }
  let s := seqSync g (s.setSt (pageADC g) stACTIVE)
  let s := s.setSt (pageADC 4) stSPARE
  let s := (s.intSet (pageADC g) 22).intSet (pageADC 4) 22
  s.setAdc 4 { s.adc 4 with sub := none }

/-- The migration step of a boundary for converters (R20, R214, R215). -/
def convertersMigrate (s : State) : State :=
  let s := match s.running.find? (fun r => r.req.page.toNat == pageADC 4 && r.code == 0x43) with
    | some r => (substitute (r.data.getD 0 0) s).endRun r {}
    | none => s
  match s.running.find? (fun r => r.req.page.toNat == pageADC 4 && r.code == 0x44) with
  | some r => (match (s.adc 4).sub with | some g => release g s | none => s).endRun r {}
  | none => s

/-- A ring whose registers a commit has changed is empty (R212). -/
def emptyRing (n r : Nat) (s : State) : State :=
  (s.setReg (pageADC n) (Off.adc_RINGWP r) 0).setReg (pageADC n) (Off.adc_RINGRP r) 0

/-- RESET_BLOCK of a core. -/
def resetCore (n : Nat) (s : State) : State :=
  let x := s.adc n
  (List.range 16).foldl (fun s r => emptyRing n r s) (s.setAdc n { refDue := x.refDue })

/-- After a reset of its domain the reference of a core is off and no factors are valid; the CAL registers are neutral with the rest
of its pages (R210). -/
def domainResetCore (p : Nat) (s : State) : State :=
  if pageKind p = some .adc then (s.setReg p Off.adc_REFCFG 0).setReg p Off.adc_CORESTAT 0 else s

/-! ### The reference (R208, R370) -/

def refErrs (n : Nat) (data : Word) (s : State) : List (Nat × Bool) :=
  [(eSTATE, fieldOf data 0 1 == 0 && s.active (pageADC n))]

/-- REFEN = 1 starts the buffer, ready 400 µs later; REFEN = 0 clears REFRDY at once. -/
def refDo (n : Nat) (data : Word) (s : State) : State :=
  let p := pageADC n
  let was := s.flag p Off.adc_REFCFG 0
  let s := s.setReg p Off.adc_REFCFG (data &&& 1)
  let x := s.adc n
  if fieldOf data 0 1 = 0 then (s.setFld p Off.adc_CORESTAT 8 1 0).setAdc n { x with refDue := none }
  else if was then s
  else s.setAdc n { x with refDue := some (s.now + 320000) }

def referenceReady (n : Nat) (s : State) : State :=
  match (s.adc n).refDue with
  | none => s
  | some t =>
    let s := (s.upTo t).setAdc n { s.adc n with refDue := none }
    (s.setFld (pageADC n) Off.adc_CORESTAT 8 1 1).intSet (pageADC n) 18

def execReferenceReady (n : Fin 5) (s : State) : Out := .next (referenceReady n s)

/-- The reference of an ACTIVE core leaves regulation: REFRDY falls and the core enters FAULT. -/
def referenceFault (n : Nat) (s : State) : State :=
  if s.active (pageADC n) then (s.setFld (pageADC n) Off.adc_CORESTAT 8 1 0).blockFault (pageADC n) else s

/-! ### The test DAC (R216, R217, R222) -/

def tdcfgErrs (data : Word) (s : State) : List (Nat × Bool) :=
  let old := s.reg pageTDAC Off.tdac_TDCFG
  [(eSTATE, fieldOf old 16 1 == 1 && (fieldOf old 17 1 != fieldOf data 17 1 || fieldOf old 24 6 != fieldOf data 24 6))]

def tdcfgDo (data : Word) (s : State) : State :=
  let old := s.reg pageTDAC Off.tdac_TDCFG
  let s := s.setReg pageTDAC Off.tdac_TDCFG data
  if fieldOf data 16 1 = 0 then { s.setFld pageTDAC Off.tdac_TDSTAT 0 1 0 with td := { s.td with settleDue := none } }
  else if fieldOf old 16 1 = 0 ∨ fieldOf old 0 10 ≠ fieldOf data 0 10 then
    { s.setFld pageTDAC Off.tdac_TDSTAT 0 1 0 with td := { s.td with settleDue := some (s.now + 16000) } }
  else s

def tdacSettled (s : State) : State :=
  match s.td.settleDue with
  | none => s
  | some t => { (s.upTo t).setFld pageTDAC Off.tdac_TDSTAT 0 1 1 with td := { s.td with settleDue := none } }

def execTdacSettled (s : State) : Out := .next (tdacSettled s)

def tdCompare : Cmd where
  errs _ s :=
    [ (eSTATE, !s.active pageTDAC),
      (eSTATE, !s.flag pageTDAC Off.tdac_TDCFG 16 || !s.flag pageTDAC Off.tdac_TDSTAT 0),
      (eVALUE, s.flag pageTDAC Off.tdac_TDCFG 17 && !s.flag pageTDAC Off.tdac_TDCMP 8) ]
  run _ s := { s with td := { s.td with n := 0, sum := 0, rng := 0, beg := s.now } }

/-- The expected code of VALUE in a range: one DAC step in codes (R217). -/
def dacCode (rng v : Nat) : Int := clampCode rng ((v * (if rng = 0 then 64 else if rng = 1 then 32 else if rng = 2 then 16 else 4) : Nat) : Int)

def tdCompareDone (s : State) : State :=
  match s.running.find? (fun r => r.req.page.toNat == pageTDAC && r.code == 0x40) with
  | none => s
  | some r =>
    let n := 2 ^ s.fld pageTDAC Off.tdac_TDCMP 0 4
    if s.td.n < n then s else
    let mean := s.td.sum.tdiv n
    let want := if s.flag pageTDAC Off.tdac_TDCMP 8 then signed 16 (s.fld pageTDAC Off.tdac_TDEXP 0 16)
      else dacCode s.td.rng (s.fld pageTDAC Off.tdac_TDCFG 0 10)
    let dev := mean - want
    let pass := decide (dev.natAbs ≤ s.fld pageTDAC Off.tdac_TDCMP 16 16)
    let s := s.setFld pageTDAC Off.tdac_TDSTAT 2 2 (if pass then 1 else 2)
    let s := s.setFld pageTDAC Off.tdac_TDSTAT 16 16 (unsigned 16 mean)
    let s := s.setReg pageTDAC Off.tdac_TDDEV (BitVec.ofNat 32 (unsigned 32 dev))
    let s := if pass then s else s.intSet pageTDAC 16
    s.endRun r { res := [BitVec.ofNat 32 (unsigned 32 mean), BitVec.ofNat 32 (unsigned 32 dev), BitVec.ofNat 32 (bit pass)] }

def execTdCompareDone (s : State) : Out := .next (tdCompareDone s)

/-- 100 ms without the samples. -/
def tdCompareTimeout (s : State) : State :=
  match s.running.find? (fun r => r.req.page.toNat == pageTDAC && r.code == 0x40) with
  | none => s
  | some r =>
    if 2 ^ s.fld pageTDAC Off.tdac_TDCMP 0 4 ≤ s.td.n then s
    else (s.upTo (s.td.beg + 80000000)).endRun r { code := eTIMEOUT }

def execTdCompareTimeout (s : State) : Out := .next (tdCompareTimeout s)

/-! ### Views (R219) -/

/-- CORESTAT.REFRDY and CALVALID: during BOOT they rise 0.5 ms and 2.9 ms after its start (R329). -/
def State.coreReady (s : State) (n : Nat) : Nat :=
  if s.md = mBOOT then
    let t0 := s.modeClock
    max (fieldOf (s.reg (pageADC n) Off.adc_CORESTAT) 8 2) (bit (decide (t0 + 400000 ≤ s.now)) + 2 * bit (decide (t0 + 2320000 ≤ s.now)))
  else fieldOf (s.reg (pageADC n) Off.adc_CORESTAT) 8 2

def corestatWord (s : State) (n : Nat) : Word :=
  let x := s.adc n
  let sub := (s.adc 4).sub
  let here := if n = 4 then sub.isSome else sub == some n
  BitVec.ofNat 32 (s.coreReady n * 2 ^ 8 + (if s.converts n then x.entry else 0) +
    bit (s.converts n) * 2 ^ 10 + bit (s.converts n && x.kind == 2) * 2 ^ 11 +
    bit (s.converts n && x.kind == 1 && x.phase == 0 && x.trig != 0) * 2 ^ 12 + bit here * 2 ^ 13 + (if here then sub.getD 0 else 0) * 2 ^ 14)

end Sys2Proof.Machine
end

