-- ==== Sys2Proof/Machine/Interrupt.lean ====
section
/-! DEFINITION. The interrupt unit: counters, pending, routing, targets, queues, moderation (R262 to R276), and MSI-X
messages (R304). -/

namespace Sys2Proof.Machine

def State.isrc (s : State) (n : Nat) : IuSrc := s.iu.src.get {} n
def State.setIsrc (s : State) (n : Nat) (x : IuSrc) : State := { s with iu := { s.iu with src := s.iu.src.set {} n x } }
def State.itgt (s : State) (t : Nat) : IuTgt := s.iu.tgt.get {} t
def State.setItgt (s : State) (t : Nat) (x : IuTgt) : State := { s with iu := { s.iu with tgt := s.iu.tgt.set {} t x } }

/-- The assigned source numbers (R263, and the sources that the chapters list). -/
def assignedSrc (n : Nat) : Bool :=
  (n ≤ 0x00F) || (0x010 ≤ n && n ≤ 0x04F) || (0x100 ≤ n && n ≤ 0x19F) || (0x1A0 ≤ n && n ≤ 0x1A9) ||
  (0x1B0 ≤ n && n ≤ 0x1B7) || n == 0x1C0 || (0x1D0 ≤ n && n ≤ 0x1DF) || n == 0x1E0 || (0x200 ≤ n && n ≤ 0x24F) ||
  (0x250 ≤ n && n ≤ 0x255) || (0x260 ≤ n && n ≤ 0x270) || (0x280 ≤ n && n ≤ 0x28B) || (0x290 ≤ n && n ≤ 0x292) ||
  n == 0x2A0 || n == 0x2A1 || (0x800 ≤ n && n ≤ 0xFFF)

/-- The IU page of a source (R262). -/
def iuPage (n : Nat) : Nat := 0x010 + n / 512

def State.isMasked (s : State) (n : Nat) : Bool := s.flag (iuPage n) (Off.iu_MASK (n % 512 / 32)) (n % 32)

/-- The route bit of a source for a target (R265, R278). -/
def State.routed (s : State) (n t : Nat) : Bool := s.flag (iuPage n) (Off.iu_ROUTE (n % 512 / 8)) (4 * (n % 8) + t)

/-- A bit of HTCFG. -/
def State.tcfg (s : State) (t i : Nat) : Bool := s.flag pageIU (Off.iu_HTCFG t) i

def State.isCompact (s : State) (t : Nat) : Bool := s.tcfg t 1

/-- A source is active at some target. -/
def State.isActive (s : State) (n : Nat) : Bool := (List.range 4).any (fun t => (s.itgt t).active == some n)

/-- Eligible: pending, not masked, not active at any target (R265). -/
def State.eligible (s : State) (n : Nat) : Bool := (s.isrc n).pend && !s.isMasked n && !s.isActive n

/-- The first enabled target after `prev` in the cyclic order (R266). -/
def State.nextTarget (s : State) (n prev : Nat) : Option Nat :=
  ([1, 2, 3, 4].map (fun i => (prev + i) % 4)).find? (fun t => s.routed n t && s.tcfg t 0)

/-- Bring the assignment of one source up to date (R266). -/
def State.settleSrc (s : State) (n : Nat) : State :=
  let x := s.isrc n
  let keep := match x.asg with
    | some t => x.pend && s.routed n t
    | none => false
  if keep then s
  else
    let x := { x with asg := none }
    if s.eligible n then
      match s.nextTarget n x.prev with
      | some t => s.setIsrc n { x with asg := some t, prev := t }
      | none => s.setIsrc n x
    else s.setIsrc n x

/-- Bring every assignment up to date. -/
def State.settle (s : State) : State := (s.iu.src.map (·.1)).foldl State.settleSrc s

def State.setClk (s : State) (c : IuClk) : State := { s with iu := { s.iu with clk := c } }

/-- A counter as it stood before the present clock. -/
def State.cntBase (s : State) (n : Nat) : Nat := match s.iu.clk.base.get 0 n with | 0 => (s.isrc n).cnt | c + 1 => c

/-- A counter of C with D doorbells and N taken by CNTDEC in one clock (R264). -/
def cntOf (c d n : Nat) : Nat := min 255 (c + d - n)

/-- The pending bit of a source that hardware sets or clears: what the host has written in this clock stands (R274). -/
def State.pendBit (s : State) (n : Nat) (b : Bool) : Bool := match s.iu.clk.wrote.get 0 n with | 0 => b | w + 1 => w == 1

/-- SATLOST with one more lost event of a source. -/
def satWord (w : Word) (n : Nat) : Word := withField (countUp 0 16 1 w) 16 12 n

/-- A doorbell is counted and its source becomes pending; an event that finds the counter at 255 is lost (R264, R265). -/
def countBell (n : Nat) (s : State) : State :=
  let k := s.iu.clk
  let c := s.cntBase n
  let d := k.bells.get 0 n
  let full := decide (255 ≤ c + d - k.decs.get 0 n)
  let s := s.setClk { k with base := k.base.set 0 n (c + 1), bells := k.bells.set 0 n (d + 1),
                             lost := if full then k.lost ++ [n] else k.lost }
  let s := if full then (s.event pageIU Off.iu_SATLOST (satWord · n)).intSet pageIU 16 else s
  (s.setIsrc n { s.isrc n with cnt := cntOf c (d + 1) (k.decs.get 0 n), pend := s.pendBit n true }).settleSrc n

/-- A CNTDEC that meets doorbells makes room for some that were lost in the clock: SATLOST and SAT are as if those had never been (R264,
R274). -/
def unlose (n r : Nat) (s : State) : State :=
  if r = 0 then s else
  let k := s.iu.clk
  let others := k.lost.filter (· != n)
  let mine := (k.lost.filter (· == n)).drop r
  let left := others ++ mine
  let a := adr pageIU Off.iu_SATLOST
  let fresh := left.foldl satWord 0
  let word := if s.reg pageIU Off.iu_SATLOST = Store.get 0 s.fresh a then fresh else left.foldl satWord (s.clockReg pageIU Off.iu_SATLOST)
  let s := { (s.setClk { k with lost := left }).setReg pageIU Off.iu_SATLOST word with fresh := s.fresh.set 0 a fresh }
  if !left.isEmpty || bitOf (s.clockReg pageIU 0x018).toNat 16 then s
  else
    let t := { s.setFld pageIU 0x018 16 1 0 with fresh := Store.modify 0 s.fresh (adr pageIU 0x018) (fun w => withField w 16 1 0) }
    if s.intUp pageIU ∧ !t.intUp pageIU then { t with iu := { t.iu with flight := t.iu.flight.erase (pageSource pageIU) } } else t

/-- A doorbell reaches the unit; while its domain is not ON it is lost (R262). No hardware rings a reserved source (R263). -/
def doorbell (n : Nat) (s : State) : State :=
  let s := { s with iu := { s.iu with flight := s.iu.flight.erase n } }
  if s.dst 84 ≠ 0 ∨ !assignedSrc n then s else countBell n s

def execDoorbell (src : BitVec 12) (s : State) : Out := .next (doorbell src.toNat s)

def State.setMsix (s : State) (v : Nat) (m : Msix) : State := { s with host := { s.host with msix := s.host.msix.set {} v m } }

/-- A message for an MSI-X vector is sent: a write to host memory, which is discarded and counted while the link is down (R300). -/
def State.sendMsix (s : State) (v : Nat) (m : Msix) : State :=
  if s.host.linkUp then s.setMsix v { m with pend := false, sent := m.sent + 1 }
  else (s.setMsix v { m with pend := false }).addSat pageHOSTIF Off.hostif_DMAERRCNT 0 16 1

/-- A message may go out: neither its vector nor the function is masked, MSI-X is enabled, and the device may issue requests
(R303, R304). -/
def State.msixMay (s : State) (m : Msix) : Bool :=
  !m.masked && s.dmaReady && (!s.host.linkUp || (s.host.cfg.msixEn && !s.host.cfg.fmask))

/-- A message for an MSI-X vector falls due: it is sent, or pends until it may go out (R304). -/
def State.msix (s : State) (v : Nat) : State :=
  let m := s.host.msix.get {} v
  if !s.msixMay m then s.setMsix v { m with pend := true } else s.sendMsix v m

/-- What a presentation signals: the MSI-X vector when DELIV is 0b01 or 0b10 (R267, R271). -/
def State.signal (s : State) (t : Nat) : State :=
  let d := s.fld pageIU (Off.iu_HTCFG t) 3 2
  if d = 1 ∨ d = 2 then s.msix (s.fld pageIU (Off.iu_HTCFG t) 8 3) else s

/-- The hold-off timer of a group is running for compatibility targets (R273). -/
def State.groupHeld (s : State) (n : Nat) : Bool := decide (s.now < s.iu.group.get 0 (n / 64))

/-- Start the timer of a source's group (R273): GHOLD × 1 µs. -/
def State.startGroup (s : State) (n : Nat) : State :=
  let g := n / 64
  let gh := s.fld pageIU (Off.iu_GHOLD (g / 4)) (8 * (g % 4)) 8
  if gh = 0 then s else { s with iu := { s.iu with group := s.iu.group.set 0 g (s.now + 800 * gh) } }

/-- A source that has been unmasked, or whose item has ended, in this clock is eligible from the next (R274). -/
def State.fromNext (s : State) (n : Nat) : Bool :=
  bitOf (s.clockReg (iuPage n) (Off.iu_MASK (n % 512 / 32))).toNat (n % 32) || s.iu.clk.ended.any (fun e => e.2 == some n)

/-- The lowest eligible source assigned to a target that its moderation lets go (R267, R269, R273). -/
def State.topFor (s : State) (t : Nat) (moderated : Bool) : Option Nat :=
  ((s.iu.src.filter (fun e => e.2.asg == some t && s.eligible e.1 && !s.fromNext e.1 &&
    !(moderated && s.tcfg t 2 && s.groupHeld e.1))).map (·.1)).head?

/-- Pin HIDLEn is held low and HIDLEEN lets it signal idle to a native target (R272, R273, R395). -/
def State.idleHeld (s : State) (t : Nat) : Bool := s.iu.idlePin.toNat / 2 ^ t % 2 == 1 && s.tcfg t 12 && !s.tcfg t 2

/-- Native moderation lets a target present (R272). -/
def State.mayPresent (s : State) (t : Nat) : Bool :=
  s.tcfg t 2 || !(s.itgt t).busy || (match (s.itgt t).hold with | some h => decide (h ≤ s.now) | none => true)

/-- Records in a Compact target's queue. -/
def State.qsize (s : State) (t : Nat) : Nat := 2 ^ s.fld pageIU (Off.iu_QSIZE t) 0 4

def State.qhead (s : State) (t : Nat) : Nat := s.fld pageIU (Off.iu_QHEAD t) 0 12

def State.qfull (s : State) (t : Nat) : Bool := ((s.itgt t).qtail + 1) % s.qsize t == s.qhead t

/-- A target has presented in this clock. -/
def State.showTarget (s : State) (t : Nat) : State := s.setClk { s.iu.clk with shown := t :: s.iu.clk.shown }

/-- A target presents: a source (Full) or the notification of its queue (Compact), if moderation permits (R267, R269, R272). -/
def present (t : Nat) (s : State) : State :=
  let x := s.itgt t
  if !s.active pageIU || !s.tcfg t 0 || !s.mayPresent t then s
  else if s.isCompact t then
    if x.notif || x.qtail == s.qhead t then s
    else ((s.setItgt t { x with notif := true, busy := !s.idleHeld t, hold := none }).showTarget t).signal t
  else if x.active.isSome then s
  else
    match s.topFor t true with
    | none => s
    | some n =>
      let s := s.setIsrc n { s.isrc n with pend := s.pendBit n false, asg := none }
      let s := (s.setItgt t { x with active := some n, busy := !s.idleHeld t, hold := none }).showTarget t
      let s := if s.tcfg t 2 then s.startGroup n else s
      s.signal t

def execPresentation (t : Fin 4) (s : State) : Out := .next (present t s)

/-- A Compact target's queue takes one record (R269): words 1 to 3 before word 0; then the tail advances. -/
def writeQueue (t : Nat) (s : State) : State :=
  let x := s.itgt t
  if !s.active pageIU || !s.tcfg t 0 || !s.isCompact t || s.qfull t || x.waitHead || !s.dmaReady then s
  else
    match s.topFor t true with
    | none => s
    | some n =>
      let a := s.reg64 pageIU (Off.iu_QBASE_LO t) (Off.iu_QBASE_HI t) + 16 * x.qtail
      let w0 := n + (s.isrc n).cnt * 2 ^ 12 + bit x.phase * 2 ^ 31
      let s := s.dma (a + 4) [0, lo32 s.tb, hi32 s.tb]
      let s := s.dma a [BitVec.ofNat 32 w0]
      let s := (s.setIsrc n { s.isrc n with pend := s.pendBit n false, asg := none }).settleSrc n
      let q := (x.qtail + 1) % s.qsize t
      let s := s.setItgt t { x with qtail := q, phase := if q = 0 then !x.phase else x.phase }
      let s := if s.tcfg t 2 then s.startGroup n else s
      if s.qfull t then s.intSet pageIU (20 + t) else s

def execQueueRecordWrite (t : Fin 4) (s : State) : Out := .next (writeQueue t s)

/-! ### Writes of the host -/

/-- Rejections of EOIn (R267, R269). -/
def eoiErrs (t v : Nat) (s : State) : List (Nat × Bool) :=
  if s.isCompact t then [(eVALUE, v % 4096 != 0), (eSTATE, !(s.itgt t).notif)]
  else [(eSTATE, (s.itgt t).active != some (v % 4096))]

/-- The active item ends; while the target is BUSY its hold-off starts (R267, R269, R272). -/
def eoiDo (t : Nat) (s : State) : State :=
  let x := s.itgt t
  let hold := if x.busy && !s.tcfg t 2 then some (s.now + s.fld pageIU (Off.iu_HOLD t) 0 24) else none
  ((s.setItgt t { x with active := none, notif := false, hold := hold }).setClk
    { s.iu.clk with ended := (t, x.active) :: s.iu.clk.ended }).settle

/-- The idle signal: the target is not BUSY (R272); none on a compatibility target (R273). -/
def idleDo (t : Nat) (s : State) : State :=
  if s.tcfg t 2 then s else s.setItgt t { s.itgt t with busy := false }

/-- TIDLEn: of a target that presents in this clock it refers to the item before, and an EOI of this clock starts no hold-off (R274). -/
def tidleDo (t : Nat) (s : State) : State :=
  if s.iu.clk.shown.contains t then s
  else
    let s := idleDo t s
    if s.tcfg t 2 || !s.iu.clk.ended.any (fun e => e.1 == t) then s else s.setItgt t { s.itgt t with hold := none }

/-- A target whose pin HIDLEn signals idle is not BUSY (R272). -/
def settleIdle (t : Nat) (s : State) : State := if s.idleHeld t then idleDo t s else s

/-- Pin HIDLEn goes low and is `held` there, or goes high again at once; while it is low with HIDLEEN = 1 the target is not
BUSY (R272, R395). -/
def hidleAssert (t : Nat) (held : Bool) (s : State) : State :=
  let low := { s with iu := { s.iu with idlePin := s.iu.idlePin ||| BitVec.ofNat 4 (2 ^ t) } }
  let s := settleIdle t low
  if held then s else { s with iu := { s.iu with idlePin := s.iu.idlePin &&& ~~~ BitVec.ofNat 4 (2 ^ t) } }

def execHidleAssert (t : Fin 4) (held : Bool) (s : State) : Out := .next (hidleAssert t held s)

/-- The hold-off timer of a target expires (R272). -/
def holdExpiry (t : Nat) (s : State) : State :=
  match (s.itgt t).hold with
  | none => s
  | some h => (s.upTo h).setItgt t { s.itgt t with hold := none }

def execHoldOffExpiry (t : Fin 4) (s : State) : Out := .next (holdExpiry t s)

/-- The hold-off timer of a group expires (R273). -/
def groupExpiry (g : Nat) (s : State) : State :=
  let s := s.upTo (s.iu.group.get 0 g)
  { s with iu := { s.iu with group := s.iu.group.set 0 g 0 } }

def execGroupHoldOffExpiry (g : Fin 64) (s : State) : Out := .next (groupExpiry g s)

/-- CNTDEC: zero, or more than the counter held before the clock, is rejected (R264, R278). -/
def cntdecErrs (v : Nat) (s : State) : List (Nat × Bool) :=
  [(eVALUE, bitsOf v 16 8 == 0 || decide (s.cntBase (v % 4096) < bitsOf v 16 8))]

/-- CNTDEC, with the doorbells of its clock before saturation (R264, R274). -/
def cntdecDo (v : Nat) (s : State) : State :=
  let n := v % 4096
  let k := s.iu.clk
  let c := s.cntBase n
  let d := k.bells.get 0 n
  let m := k.decs.get 0 n + bitsOf v 16 8
  let s := unlose n ((k.lost.filter (· == n)).length - (c + d - m - 255)) s
  let s := s.setClk { s.iu.clk with base := k.base.set 0 n (c + 1), decs := k.decs.set 0 n m }
  s.setIsrc n { s.isrc n with cnt := cntOf c d m }

/-- RAISE of a reserved source is rejected (R263). -/
def raiseErrs (v : Nat) : List (Nat × Bool) := [(eVALUE, !assignedSrc (v % 4096))]

/-- QHEADn at or above the size is rejected (R278). -/
def qheadErrs (t v : Nat) (s : State) : List (Nat × Bool) := [(eVALUE, decide (s.qsize t ≤ v % 4096))]

/-- QHEADn: records that wait after a TGT_RESET go on at the value 0 (R269). -/
def qheadDo (t v : Nat) (s : State) : State :=
  let s := s.setFld pageIU (Off.iu_QHEAD t) 0 12 (v % 4096)
  let x := s.itgt t
  s.setItgt t { x with waitHead := x.waitHead && v % 4096 != 0 }

/-- Sources whose route bit is set for a target (R270), over the ROUTE registers that are listed or reset nonzero. -/
def routeCount (s : State) (t : Nat) : Nat :=
  (((List.range 8).flatMap (fun q => (List.range 64).map (fun w => s.reg (0x010 + q) (Off.iu_ROUTE w)))).map
    (fun x => ((List.range 8).filter (fun i => x.toNat / 2 ^ (4 * i + t) % 2 == 1)).length)).sum

/-- A ROUTE write that takes a Compact target above 256 sources is rejected (R270). -/
def routeErrs (p o : Nat) (data : Word) (s : State) : List (Nat × Bool) :=
  let s' := s.setReg p o data
  [(eVALUE, (List.range 4).any (fun t =>
      s.isCompact t && decide (256 < routeCount s' t) && decide (routeCount s t < routeCount s' t)))]

/-- A write of PEND sets or clears the pending bits to the value written (R265). -/
def pendDo (p o : Nat) (data : Word) (s : State) : State :=
  let base := 512 * (p - 0x010) + 8 * (o - 0x800)
  ((List.range 32).foldl (fun s i =>
    let b := bitOf data.toNat i
    let s := s.setIsrc (base + i) { s.isrc (base + i) with pend := b }
    s.setClk { s.iu.clk with wrote := s.iu.clk.wrote.set 0 (base + i) (bit b + 1) }) s).settle

/-- PEND as it reads. -/
def pendWord (s : State) (q w : Nat) : Word :=
  BitVec.ofNat 32 (((List.range 32).map (fun i => bit (s.isrc (512 * q + 32 * w + i)).pend * 2 ^ i)).sum)

/-- CNT as it reads. -/
def cntWord (s : State) (q w : Nat) : Word :=
  BitVec.ofNat 32 (((List.range 4).map (fun i => (s.isrc (512 * q + 4 * w + i)).cnt * 2 ^ (8 * i))).sum)

/-- CNT as it reads in the clock of doorbells: without them (R264). -/
def cntBefore (s : State) (q w : Nat) : Word :=
  BitVec.ofNat 32 (((List.range 4).map (fun i =>
    let n := 512 * q + 4 * w + i
    cntOf (s.cntBase n) 0 (s.iu.clk.decs.get 0 n) * 2 ^ (8 * i))).sum)

/-- PENDTOPn as it reads (R268). -/
def pendTop (s : State) (t : Nat) : Word :=
  match (s.itgt t).active with
  | some n => BitVec.ofNat 32 (n + 3 * 2 ^ 16)
  | none =>
    match s.topFor t false with
    | some n => BitVec.ofNat 32 (n + 2 ^ 16)
    | none => 0

/-- TSTATn as it reads (R278). -/
def tstat (s : State) (t : Nat) : Word :=
  let x := s.itgt t
  let running := match x.hold with
    | some h => decide (s.now < h)
    | none => false
  BitVec.ofNat 32 (bit x.busy + bit (x.active.isSome || x.notif) * 2 + bit running * 4 +
    bit (s.isCompact t && s.qfull t) * 8)

/-- Pin HIRQn is asserted (R271). -/
def State.hirq (s : State) (t : Nat) : Bool :=
  let d := s.fld pageIU (Off.iu_HTCFG t) 3 2
  ((s.itgt t).active.isSome || (s.itgt t).notif) && (d == 0 || d == 2)

/-- The level of pin HIRQn: low while asserted, high otherwise and in BOOT, undriven in DORMANT and without supply (R386, R387, R395);
a unit whose domain is not ON asserts nothing (R341). -/
def State.hirqPin (s : State) (t : Nat) : Option Bool :=
  if s.md = mDORMANT ∨ s.mode.brown then none else some (s.md == mBOOT || !s.pageOn pageIU || !s.hirq t)

/-! ### TGT_RESET and wake inputs -/

/-- TGT_RESET (R276). -/
def tgtReset : Cmd where
  errs q s := [(eSTATE, s.st pageIU != stACTIVE), (eVALUE, q.page.toNat != pageIU)]
  run q s :=
    let t := if q.src = .ring then q.args.w2.toNat % 4 else s.fld pageIU Off.iu_TGTSEL 0 2
    let s := s.setItgt t { waitHead := s.isCompact t }
    let s := s.setFld pageIU (Off.iu_QHEAD t) 0 12 0
    let s := (s.iu.src.map (·.1)).foldl (fun s n =>
      if (s.isrc n).asg = some t then s.setIsrc n { s.isrc n with asg := none } else s) s
    (s.settle).finish q.page.toNat 0x40 {}

/-- An edge on wake input w: while the latches are armed it sets its latch, if the EDGE field selects that edge (R275). -/
def wakeInput (w : Nat) (rising : Bool) (s : State) : State :=
  if s.iu.armed ∧ s.flag pageIU Off.iu_WAKECFG (2 * w + bit (!rising)) then
    let s := { s with iu := { s.iu with latch := s.iu.latch ||| BitVec.ofNat 16 (2 ^ w) } }
    if s.flag pagePWR Off.pwr_WAKESRC 0 then
      { s with mode := { s.mode with wake := if s.mode.wake % 2 = 1 then s.mode.wake else s.mode.wake + 1 } }
    else s
  else s

def execWakeInput (w : Fin 16) (rising : Bool) (s : State) : Out := .next (wakeInput w rising s)

/-- The doorbells of latched wake inputs, at the first boundary at which the unit is ACTIVE again (R275). -/
def wakeBells (s : State) : State :=
  if s.active pageIU ∧ s.iu.wakeDue ≠ 0 then
    let s' := (List.range 16).foldl (fun x w => x.bellIf (s.iu.wakeDue.toNat / 2 ^ w % 2 == 1) (0x040 + w)) s
    { s' with iu := { s'.iu with wakeDue := 0 } }
  else s

/-- A message that pends is sent once it may go out. -/
def msixRelease (v : Nat) (s : State) : State :=
  let m := s.host.msix.get {} v
  if m.pend && s.msixMay m then s.sendMsix v m else s

/-- An MSI-X vector is masked or unmasked: a message that pends is sent once (R304). -/
def msixMask (v : Nat) (on : Bool) (s : State) : State := msixRelease v (s.setMsix v { s.host.msix.get {} v with masked := on })

def msixUnmask (v : Nat) (s : State) : State := msixMask v false s

/-- The copies of PCIESTAT (R309). -/
def putPcieCfg (c : PcieCfg) (s : State) : State :=
  { s with host := { s.host with cfg := c } }.setFld pageHOSTIF Off.hostif_PCIESTAT 8 3
    (bit c.busMaster + bit c.msixEn * 2 + bit c.fmask * 4)

/-- Every message that may go out now does. -/
def msixReleaseAll (s : State) : State := (List.range 8).foldl (fun s v => msixRelease v s) s

/-- The Function Mask is cleared (R304). -/
def functionUnmask (s : State) : State := msixReleaseAll (putPcieCfg { s.host.cfg with fmask := false } s)

def execMsixUnmask (t : MsixTarget) (s : State) : Out :=
  .next (match t with
    | .vector v => msixUnmask v s
    | .function => functionUnmask s)

end Sys2Proof.Machine
end

