-- ==== Sys2Proof/Machine/Wheel.lean ====
section
/-! DEFINITION. Wheel units: edge classes, synchronisation, cams, direction, learning, Clover and synthesis (R85 to R115, R402). -/

namespace Sys2Proof.Machine


/-- The synchronisation states (R93). -/
def wSEARCH : Nat := 0
def wGAP : Nat := 1
def wCRANK : Nat := 2
def wFULL : Nat := 3
def wCAM : Nat := 4
def wLOST : Nat := 5
def wREVERSE : Nat := 6

/-! ### The wheel's description (R89) -/

def State.teeth (s : State) (u : Nat) : Nat := s.fld (pageWU u) Off.wu_WCFG 8 8
def State.missing (s : State) (u : Nat) : Nat := s.fld (pageWU u) Off.wu_WCFG 16 2
/-- Revolutions per engine cycle. -/
def State.revsPerCycle (s : State) (u : Nat) : Nat := if s.flag (pageWU u) Off.wu_WCFG 3 then 1 else 2
/-- Angle counts of a revolution. -/
def State.revAc (s : State) (u : Nat) : Nat := 2 ^ 24 / s.revsPerCycle u
def State.tdcofs (s : State) (u : Nat) : Nat := s.fld (pageWU u) Off.wu_TDCOFS 0 24

/-- The learned correction C[k] (R89, R112). -/
def State.terr (s : State) (u k : Nat) : Int := signed 16 (s.fld (pageWUX u) (Off.wux_TERR (k / 2)) (16 * (k % 2)) 16)

def State.setTerr (s : State) (u k : Nat) (c : Int) : State :=
  s.setFld (pageWUX u) (Off.wux_TERR (k / 2)) (16 * (k % 2)) 16 (unsigned 16 c)

/-- Every C[k] becomes 0. -/
def State.clearTerr (s : State) (u : Nat) : State :=
  (List.range 120).foldl (fun s j => s.setReg (pageWUX u) (Off.wux_TERR j) 0) s

/-- Nominal angle of tooth k in its revolution (R89). -/
def State.nominal (s : State) (u k : Nat) : Nat := k * 2 ^ 24 / (s.teeth u * s.revsPerCycle u)

/-- Unwrapped crank angle of tooth k in revolution rv. -/
def State.crankAngle (s : State) (u : Nat) (rv : Int) (k : Nat) : Int := rv * (s.revAc u : Int) + (s.nominal u k : Int) + s.terr u k

/-- The angle position of the last tooth. -/
def State.toothPos (s : State) (u : Nat) : Int :=
  let w := s.wheel u
  w.base + s.crankAngle u w.rv w.tooth

/-! ### State changes -/

/-- A LIMP cause of a wheel (R322, R334): recorded; taken at the next boundary at which LIMP is permitted. -/
def State.limpWheel (s : State) (u : Nat) : State :=
  let s := s.setFld pageSYS Off.sys_LIMPCAUSE u 1 1
  { s with mode := { s.mode with limpDue := true } }

/-- What the unit forgets when SEARCH begins. -/
def Wheel.search (w : Wheel) : Wheel :=
  { w with rv := 0, seen := false, per := 0, nper := 0, open_ := none, counting := false, pos1 := false, gaps := 0,
           inv := 0, revs := 0, fwds := 0, trk := [], conf := 0, opp := 0, cams := [], camBad := none, seq := [],
           lrnT0 := none, lrnTimes := [], lrnOk := false, lrnPrev := none }

/-- In REVERSE no angle stamps are made: the maps of the wheels that the unit serves are gone (R101). -/
def State.mapsOff (s : State) (u : Nat) : State :=
  (List.range 8).foldl (fun s v => if s.servedBy v u then s.setMap v { s.mapOf v with prv := none, cur := none, nxt := none } else s) s

/-- The next maps of the wheels that the unit serves begin without δ (R119). -/
def State.unchain (s : State) (u : Nat) : State :=
  (List.range 8).foldl (fun s v => if s.servedBy v u then s.setMap v { s.mapOf v with chained := false } else s) s

/-- The crank angle in the cycle is known from the tooth count. -/
def State.phased (s : State) (u : Nat) : Bool :=
  (s.wheel u).state == wFULL || ((s.wheel u).state == wREVERSE && (s.wheel u).before == wFULL)

/-- The cycle counter (R96): bits [31:24] of the angle that the map gives now, else of the last tooth's, else held. -/
def State.cycNow (s : State) (u : Nat) : Nat :=
  let w := s.wheel u
  let mapped := w.state == wFULL || w.state == wCAM
  match (if mapped then s.angleAt u s.now else none) with
  | some a => a.toNat / 2 ^ 24
  | none => if s.phased u && !s.imports u then ((s.toothPos u / 2 ^ 24) % 256).toNat else w.cyc

/-- A unit that leaves FULL_SYNC begins learning anew (R102). -/
def Wheel.forgetLearn (w : Wheel) : Wheel := { w with lrnOk := false, lrnT0 := none, lrnTimes := [], lrnPrev := none }

/-- A state change (R94 to R97): SYNCST, SYNCCHG and a LOG record; LOST and CAM_ONLY with LOSS, LOSSCNT and an ALARM; the
wheel's events and windows where a map is lost (R95, R130, R233); a LIMP cause on CAM_ONLY from FULL_SYNC. -/
def syncTo (u new trig : Nat) (s : State) : State :=
  let p := pageWU u
  let old := (s.wheel u).state
  let body := [BitVec.ofNat 32 (old + new * 2 ^ 4 + trig * 2 ^ 8)]
  let w := { s.wheel u with state := new, prev := old, fresh := new == wFULL || new == wCAM, cyc := s.cycNow u }
  let w := if old = wFULL then w.forgetLearn else w
  let s := s.setWheel u (if new = wSEARCH then w.search else if new = wCRANK ∨ new = wFULL then { w with conf := 0, opp := 0, inv := 0 } else w)
  let s := s.intSet p 16
  let s := s.log p (0x1B0 + u) 0x001 s.now body
  let s := if new = wLOST ∨ new = wCAM then
      ((s.intSet p 17).addSat p Off.wu_LOSSCNT 0 16 1).alarm (0x1B0 + u) 0x006 s.now body else s
  let s := if new = wLOST ∨ (new = wREVERSE ∧ old = wFULL) ∨ (new = wSEARCH ∧ (old = wFULL ∨ old = wCAM)) then s.syncLost u else s
  let s := if new = wREVERSE then (s.intSet p 21).mapsOff u else s
  let s := (List.range 8).foldl (fun s v =>
    if s.castsFor u v then s.idxCast (.state { unit := BitVec.ofNat 3 v, new := BitVec.ofNat 3 new, tb := s.tb }) else s) s
  let s := if (new = wCAM ∧ old = wFULL) ∨ (new = wFULL ∧ old = wCAM) then markWheelLanes (fun v => s.servedBy v u) s else s
  if new = wCAM ∧ old = wFULL then s.limpWheel u else s

/-- A return to SEARCH at the next boundary, with the effects of R95 now if the unit held a map (R94). -/
def searchAtBoundary (u trig : Nat) (s : State) : State :=
  let w := s.wheel u
  let s := s.setWheel u { w with toSearch := some trig }
  if w.state = wFULL ∨ w.state = wCAM then s.cancelAngles u else s

/-- An immediate return to SEARCH, with the effects of R95 if the unit held a map (R66). -/
def searchNow (u trig : Nat) (s : State) : State :=
  let w := s.wheel u
  if w.state = wSEARCH then s.setWheel u { w.search with toSearch := none }
  else (syncTo u wSEARCH trig s).setWheel u { (syncTo u wSEARCH trig s).wheel u with toSearch := none }

/-- The register that configures a secondary input. -/
def secCfg (secB : Bool) : Nat := if secB then Off.wu_SECBCFG else Off.wu_SECACFG

/-- A synthesiser is looped into the unit: it gives the unit its crank and its cams in place of their sources (R107). -/
def State.looped (s : State) (u : Nat) : Bool :=
  (List.range 8).any (fun v => s.st (pageWU v) == stSYNTH && s.flag (pageWU v) Off.wu_SYNCFG 26 &&
    s.fld (pageWU v) Off.wu_SYNCFG 27 3 == u)

/-- The NENT entries of a cam table: angle and polarity (R92, R112). -/
def State.camEntries (s : State) (u : Nat) (secB : Bool) : List (Nat × Bool) :=
  (List.range (min 32 (s.fld (pageWU u) (secCfg secB) 16 6))).map (fun i =>
    let w := s.reg (pageWUX u) (if secB then Off.wux_CAMB i else Off.wux_CAMA i)
    (fieldOf w 0 24, fieldOf w 24 1 == 1))

/-- The entries of a cam table in use: its input has a source. -/
def State.camTable (s : State) (u : Nat) (secB : Bool) : List (Nat × Bool) :=
  if s.fld (pageWU u) (secCfg secB) 0 2 = 0 ∧ !s.looped u then [] else s.camEntries u secB

/-- CAMSEL selects an input (R111). -/
def State.camSel (s : State) (u : Nat) (secB : Bool) : Bool :=
  bitOf (s.fld (pageWU u) Off.wu_SYNCCFG 10 2) (if secB then 1 else 0)

/-- The cam sequence (R99): entries of the selected inputs in ascending angle, with input and polarity. -/
def State.camSeq (s : State) (u : Nat) : List (Nat × Bool × Bool) :=
  let t (b : Bool) := if s.camSel u b then (s.camTable u b).map (fun e => (e.1, b, e.2)) else []
  sortBy (fun x y => decide (x.1 < y.1)) (t false ++ t true)

/-- The tolerance of a secondary input, in AC (R94). -/
def State.camTol (s : State) (u : Nat) (secB : Bool) : Nat := s.fld (pageWU u) Off.wu_CAMTOL (if secB then 16 else 0) 16 * 256

/-- The cam is held: the selected inputs have matched every edge of the last engine cycle (R92): each entry of their tables where its
tolerance last ended behind the crank, and no edge came without a match. -/
def State.camHeld (s : State) (u : Nat) : Bool :=
  let w := s.wheel u
  let here := s.toothPos u
  s.camSeq u != [] &&
    (s.camSeq u).all (fun e =>
      let past := here - (s.camTol u e.2.1 : Int)
      let q := past - (past - (e.1 : Int)) % 2 ^ 24
      w.cams.any (fun c => c.secB == e.2.1 && c.pol == e.2.2 && c.pos == q)) &&
    (match w.camBad with | some p => decide (2 ^ 24 ≤ here - p) | none => true)

/-- The crank count starts again from the next gap. -/
def Wheel.recount (w : Wheel) : Wheel := { w with counting := false, pos1 := false, gaps := 0, inv := 0 }

/-- A mismatch or a crank loss (R94). -/
def crankLoss (u trig : Nat) (s : State) : State :=
  let w := s.wheel u
  if w.state = wFULL then
    if s.flag (pageWU u) Off.wu_SYNCCFG 9 ∧ s.camHeld u then
      let s := syncTo u wCAM trig s
      s.setWheel u (s.wheel u).recount
    else syncTo u wLOST trig s
  else if w.state = wCRANK ∨ w.state = wREVERSE then syncTo u wSEARCH trig s
  else if w.state = wGAP then syncTo u wSEARCH (if trig = 0x04 then 0x04 else 0x03) s
  else if w.state = wCAM then s.setWheel u w.recount
  else s

/-! ### Primary edges (R88, R90, R91, R94, R101) -/

/-- The classes of R90. -/
inductive EdgeClass where
  | valid | mismatched | invalid
deriving DecidableEq, Repr

/-- The windows of R90. -/
inductive Window where
  | gap | after | normal
deriving DecidableEq, Repr

def State.inWindow (s : State) (u : Nat) (w : Window) (r : Nat) : Bool :=
  let o := match w with | .gap => Off.wu_GAPCFG | .after => Off.wu_AFTCFG | .normal => Off.wu_NORMCFG
  decide (s.fld (pageWU u) o 0 16 ≤ r) && decide (r ≤ s.fld (pageWU u) o 16 16)

/-- The class of a ratio where a window is expected (R90). -/
def State.classify (s : State) (u : Nat) (expected : Window) (r : Nat) : EdgeClass :=
  if s.inWindow u expected r then .valid
  else if (expected != .gap && s.inWindow u .gap r) || (expected == .gap && s.inWindow u .normal r) then .mismatched
  else .invalid

/-- The position that a tooth in the present direction arrives at, with its revolution (R101). -/
def nextTooth (present tooth : Nat) (rv : Int) (rev : Bool) : Nat × Int :=
  if rev then (if tooth = 0 then (present - 1, rv - 1) else (tooth - 1, rv))
  else (if present ≤ tooth + 1 then (0, rv + 1) else (tooth + 1, rv))

/-- The window expected at a position (R90, R101). -/
def expectedWindow (present tooth : Nat) (rev : Bool) : Window :=
  if rev then (if tooth + 1 = present then .gap else if tooth + 2 = present then .after else .normal)
  else (if tooth = 0 then .gap else if tooth = 1 then .after else .normal)

/-- Angle counts per revolution and minute: the speed of `d` positions in `t` LSBs, in rpm with 8 fractional bits (R111). -/
def speedOf (n d t : Nat) : Nat := if t = 0 then 0 else d * 60 * 256 * 800000000 / (n * t)

/-- LASTTB, LASTPER and SPEED after an accepted edge; until the edges of a whole revolution are known, each period counts as one
position (R88, R111). -/
def showEdge (u t per : Nat) (s : State) : State :=
  let p := pageWU u
  let w := s.wheel u
  let n := s.teeth u
  let k := n - s.missing u
  let hist := (t :: w.hist).take (k + 1)
  let d := if hist.length = k + 1 then n else hist.length - 1
  let sp := speedOf n d (t - hist.getLastD t)
  let s := s.setWheel u { w with hist := hist }
  let s := s.setReg64 p Off.wu_LASTTB_LO Off.wu_LASTTB_HI t
  let s := if w.hist = [] then s else s.setReg p Off.wu_LASTPER (BitVec.ofNat 32 (min per 0xFFFFFFFF))
  let s := s.setReg p Off.wu_SPEED (BitVec.ofNat 32 sp)
  let fast := (per != 0 && decide (per < 4000)) || decide (30000 * 256 < sp)
  let s' := s.setWheel u { s.wheel u with overspeed := fast }
  if fast then s'.intSet p 26 else s'

/-- An edge joins the tracked ones (R118). -/
def trackEdge (u t : Nat) (s : State) : State :=
  let w := s.wheel u
  s.setWheel u { w with trk := ({ tb := t, u := s.crankAngle u w.rv w.tooth } :: w.trk).take 64 }

/-- The map begins after SEARCH: the revolution is known, and the cycle counter takes its held value plus 1 (R96). `half` is
the revolution within the cycle in which the last tooth lies. -/
def phase (u half : Nat) (s : State) : State :=
  let w := s.wheel u
  let ang := (s.tdcofs u + half * s.revAc u + s.nominal u w.tooth) % 2 ^ 24
  let pos : Int := (((w.cyc + 1) % 256 * 2 ^ 24 + ang : Nat) : Int)
  s.setWheel u { w with base := pos - (w.rv * (s.revAc u : Int) + (s.nominal u w.tooth : Int)) }

/-- The cycle counter follows the angle while it is tracked (R96). -/
def holdCyc (u : Nat) (s : State) : State :=
  if s.phased u then s.setWheel u { s.wheel u with cyc := ((s.toothPos u / 2 ^ 24) % 256).toNat } else s

/-! ### Learning (R102, R103) -/

/-- A revolution could be a learning revolution now (R102). -/
def State.mayLearn (s : State) (u : Nat) : Bool :=
  (s.wheel u).state == wFULL && !(s.wheel u).rev && (s.md == mRUN || s.md == mBENCH) &&
    s.flag (pageWU u) Off.wu_LRNCFG 0 && s.fld pageRIND Off.rind_LEVEL 0 2 != 2

/-- TB LSBs of a minute: a revolution of `d` LSBs has the speed `minuteTb / d` in rpm. -/
def minuteTb : Nat := 60 * 800000000

/-- The speed band and the acceleration limit of a revolution that lasted `d` after one of `d0` LSBs, judged exactly (R102). -/
def learnBand (lo hi accmax d : Nat) (d0 : Option Nat) : Bool :=
  decide (lo * 100 * d ≤ minuteTb) && decide (minuteTb ≤ hi * 100 * d) &&
    (match d0 with
     | none => false
     | some d0 => decide (minuteTb * ((d0 : Int) - (d : Int)).natAbs * 800000000 ≤ accmax * 100 * d * d * d0))

/-- The new corrections of a learning revolution (R103). -/
def learnTable (s : State) (u t0 t1 : Nat) (times : List (Nat × Nat)) : List (Nat × Int) :=
  let sh := s.fld (pageWU u) Off.wu_LRNCFG 1 3
  times.filterMap (fun (k, t) => if k = 0 then none else
    let e : Int := divRound (((t - t0) * s.revAc u : Nat) : Int) ((t1 - t0 : Nat) : Int) - (s.nominal u k : Int)
    let c := s.terr u k + (e - s.terr u k) / (2 ^ sh : Int)
    some (k, max (-32767) (min 32767 c)))

/-- Learning takes a forward edge in FULL_SYNC (R102, R103). -/
def learnEdge (u t : Nat) (s : State) : State :=
  let p := pageWU u
  let w := s.wheel u
  if w.tooth ≠ 0 then
    s.setWheel u { w with lrnTimes := w.lrnTimes ++ [(w.tooth, t)], lrnOk := w.lrnOk && s.mayLearn u }
  else
    let done := match w.lrnT0 with
      | none => none
      | some t0 =>
        if w.lrnOk && s.mayLearn u && learnBand (s.fld p Off.wu_LRNCFG 16 8) (s.fld p Off.wu_LRNCFG 24 8)
            (s.fld p Off.wu_LRNCFG 8 8) (t - t0) w.lrnPrev
        then some t0 else none
    let s := match done with
      | none => s
      | some t0 =>
        let s := s.setWheel u { s.wheel u with lrnNew := learnTable s u t0 t w.lrnTimes }
        (s.addSat p Off.wu_LRNSTAT 16 16 1).intSet p 24
    let w' := s.wheel u
    s.setWheel u { w' with lrnPrev := w.lrnT0.map (fun t0 => t - t0), lrnT0 := some t, lrnTimes := [], lrnOk := s.mayLearn u }

/-- A revolution with an invalid edge, or one that left the conditions, is no learning revolution. -/
def Wheel.noLearn (w : Wheel) : Wheel := { w with lrnOk := false }

/-- An invalid edge in learning: it spoils its revolution, and at position 0 both that it ends and that it begins (R102). -/
def Wheel.badLearn (w : Wheel) (t k : Nat) : Wheel :=
  if k = 0 then { w with lrnOk := false, lrnPrev := w.lrnT0.map (fun t0 => t - t0), lrnT0 := some t, lrnTimes := [] } else w.noLearn

/-! ### Crank counting -/

/-- The crank gap is confirmed (R94): from GAP_FOUND to CRANK_SYNC or FULL_SYNC; from CAM_ONLY against the cam. `camAt` is the
cam-derived position of the edge, `tol` its tolerance. -/
def gapConfirmed (u : Nat) (camAt tol : Int) (s : State) : State :=
  let w := s.wheel u
  if w.state = wGAP then
    if s.revsPerCycle u = 1 then holdCyc u (syncTo u wFULL 0x07 (phase u 0 s)) else syncTo u wCRANK 0x07 s
  else if w.state = wCAM then
    let ang (h : Nat) : Int := ((s.tdcofs u + h * s.revAc u + s.nominal u w.tooth : Nat) : Int) + s.terr u w.tooth
    let off (h : Nat) : Int := ((camAt - ang h + 2 ^ 23) % 2 ^ 24) - 2 ^ 23
    let h := if s.revsPerCycle u = 2 ∧ (off 1).natAbs < (off 0).natAbs then 1 else 0
    if (off h).natAbs ≤ tol.toNat then
      let pos := camAt - off h
      let s := s.setWheel u { w with base := pos - s.crankAngle u w.rv w.tooth }
      holdCyc u (syncTo u wFULL 0x07 s)
    else
      let s := (s.addSat (pageWU u) Off.wu_ERRCNT 16 8 1).intSet (pageWU u) 20
      s.setWheel u (s.wheel u).recount
  else s

/-- The matched cam edges that bound the cam intervals, newest first: of edges at one angle the newest. -/
def camSteps : List CamEdgeRec → List CamEdgeRec
  | c1 :: c0 :: t => if c1.pos = c0.pos then (match camSteps (c0 :: t) with | _ :: r => c1 :: r | [] => [c1]) else c1 :: camSteps (c0 :: t)
  | l => l

/-- The cam-derived position at a TB in CAM_ONLY (R98). -/
def State.camPos (s : State) (u t : Nat) : Int :=
  match camSteps (s.wheel u).cams with
  | c1 :: c0 :: _ => c1.pos + (c1.pos - c0.pos) * (((t : Int)) - (c1.tb : Int)) / (((c1.tb - c0.tb : Nat) : Int))
  | [c1] => c1.pos
  | [] => 0

/-- The tolerance of the input to which the map was last anchored, in AC (R94). -/
def State.anchorTol (s : State) (u : Nat) : Int := ((s.camTol u (match (s.wheel u).cams with | c :: _ => c.secB | [] => false) : Nat) : Int)

/-- An invalid edge is counted (R91). -/
def countInvalid (u : Nat) (s : State) : State := (s.addSat (pageWU u) Off.wu_ERRCNT 0 8 1).intSet (pageWU u) 18

/-- An edge while the crank is not synchronised: SEARCH, GAP_FOUND, and the crank count under CAM_ONLY (R91, R94). A gap begins the
count at position 0, in reverse at position N − M − 1 (R101). A gap where it is expected whose width is invalid neither confirms nor ends
the count: the position goes on. -/
def countEdge (u t r : Nat) (enough : Bool) (cls : EdgeClass) (s : State) : State :=
  let w := s.wheel u
  let isGap := s.inWindow u .gap r
  let present := s.teeth u - s.missing u
  let first := if w.rev then present - 1 else 0
  let begin_ (s : State) : State := if w.rev then s else trackEdge u t s
  if !w.counting then
    let s := if cls = .invalid then countInvalid u s else s
    if isGap ∧ enough then
      let s := s.setWheel u { w with counting := true, tooth := first, rv := 0, pos1 := false, gaps := 0, inv := 0, trk := [] }
      begin_ (if w.state = wSEARCH then syncTo u wGAP 0x01 s else s)
    else s
  else
    let (k, rv) := nextTooth present w.tooth w.rv w.rev
    if isGap && k != first then
      let s := if cls = .invalid then countInvalid u s else s
      begin_ (s.setWheel u { w with tooth := first, rv := 0, pos1 := false, gaps := 0, trk := [] })
    else if isGap ∧ cls = .invalid then
      begin_ (countInvalid u (s.setWheel u { w with tooth := k, rv := rv, trk := [] }))
    else if cls ≠ .valid then crankLoss u 0x03 (if cls = .invalid then countInvalid u s else s)
    else
      let s := s.setWheel u { w with tooth := k, rv := rv, pos1 := w.pos1 || k == 1, gaps := if k = 0 ∧ !w.rev then w.gaps + 1 else w.gaps }
      let s := if w.rev then s.setWheel u { s.wheel u with trk := [] } else trackEdge u t s
      let w := s.wheel u
      if w.pos1 ∧ !w.rev ∧ s.fld (pageWU u) Off.wu_SYNCCFG 0 2 ≤ w.gaps ∧ (k = 0 ∨ k = 1) then
        gapConfirmed u (s.camPos u t) (s.anchorTol u) s
      else s

/-- An edge while the crank is synchronised: CRANK_SYNC, FULL_SYNC, REVERSE (R91, R94, R101). -/
def syncedEdge (u t : Nat) (cls : EdgeClass) (s : State) : State :=
  let p := pageWU u
  let w := s.wheel u
  let present := s.teeth u - s.missing u
  let (k, rv) := nextTooth present w.tooth w.rv w.rev
  match cls with
  | .mismatched => crankLoss u 0x06 (s.setWheel u { w with tooth := k, rv := rv })
  | .invalid =>
    let s := countInvalid u s
    let s := holdCyc u (s.setWheel u { (s.wheel u).badLearn t k with tooth := k, rv := rv, inv := w.inv + 1 })
    if s.fld p Off.wu_SYNCCFG 4 4 ≤ w.inv + 1 then crankLoss u 0x05 s else s
  | .valid =>
    let s := holdCyc u (s.setWheel u { w with tooth := k, rv := rv, inv := 0 })
    if w.rev then s.setWheel u { (s.wheel u).noLearn with trk := [] }
    else
      let s := trackEdge u t s
      if (s.wheel u).state = wFULL then learnEdge u t s else s

/-- Consecutive teeth of one direction change the state (R94, R101). -/
def dirCount (u : Nat) (rev : Bool) (s : State) : State :=
  let w := s.wheel u
  let n := s.fld (pageWU u) Off.wu_DIRCFG 1 3
  let w' := if rev then { w with revs := w.revs + 1, fwds := 0 } else { w with fwds := w.fwds + 1, revs := 0 }
  let s := s.setWheel u w'
  if rev ∧ n ≤ w'.revs ∧ (w.state = wCRANK ∨ w.state = wFULL) then
    syncTo u wREVERSE 0x09 (s.setWheel u { w' with before := w.state })
  else if !rev ∧ n ≤ w'.fwds ∧ w.state = wREVERSE then syncTo u w.before 0x0F s
  else s

/-- A TRACE record of an accepted edge, with WCFG.TRACE = 1 (R97). -/
def traceTooth (u t r : Nat) (s : State) : State :=
  if s.flag (pageWU u) Off.wu_WCFG 4 then
    s.trace (pageWU u) (0x1B0 + u) 0x001 t u [BitVec.ofNat 32 ((s.wheel u).tooth + min r 0xFFFF * 2 ^ 16)]
  else s

/-- The direction that a tooth shows (R100): forward, reverse, or no direction. -/
inductive ToothDir where
  | fwd | rvs | bad
deriving DecidableEq, Repr

/-- An accepted primary edge whose direction is known acts on the count and the state. -/
def tooth (u t : Nat) (dir : ToothDir) (s : State) : State :=
  let w := s.wheel u
  let per := if w.seen then t - w.lastTb else 0
  let r := if w.per = 0 then 0 else per * 4096 / w.per
  let turned := (dir == .rvs && !w.rev) || (dir == .fwd && w.rev)
  let rev := if dir = .bad then w.rev else dir == .rvs
  let judged := w.seen && w.per != 0
  let s := s.setWheel u { w with lastTb := t, seen := true, per := per, nper := if w.seen then w.nper + 1 else 0, rev := rev,
                                 open_ := none }
  let s :=
    if turned then
      let s := s.setWheel u { (s.wheel u).noLearn with gaps := 0, trk := [] }
      if rev then s else trackEdge u t s
    else
      let present := s.teeth u - s.missing u
      let (k, _) := nextTooth present w.tooth w.rv rev
      let cls := if dir = .bad then .invalid
        else if w.counting ∨ w.state = wCRANK ∨ w.state = wFULL ∨ w.state = wREVERSE then s.classify u (expectedWindow present k rev) r
        else if s.inWindow u .gap r ∨ s.inWindow u .after r ∨ s.inWindow u .normal r then .valid else .invalid
      if w.state = wSEARCH ∨ w.state = wGAP ∨ w.state = wCAM then
        if judged then countEdge u t r (decide (2 ≤ w.nper + 1)) cls s else if dir = .bad then countInvalid u s else s
      else if w.state = wLOST then (if dir = .bad ∨ (judged ∧ cls = .invalid) then countInvalid u s else s)
      else syncedEdge u t cls s
  let s := showEdge u t (if w.hist = [] then 0 else t - w.lastTb) s
  let s := traceTooth u t r s
  if dir = .bad then s.setWheel u { s.wheel u with revs := 0, fwds := 0 } else dirCount u rev s

/-- The pulse width is checked for a tooth (R100). -/
def State.widthChecked (s : State) (u per : Nat) : Bool :=
  s.flag (pageWU u) Off.wu_DIRCFG 0 && s.flag (pageWU u) Off.wu_WCFG 1 && (s.wheel u).seen &&
    decide (2 * 800 * s.fld (pageWU u) Off.wu_DIRWIN 24 8 ≤ per)

/-- The unit decodes its primary input. -/
def State.decodes (s : State) (u : Nat) : Bool := s.active (pageWU u) && s.flag (pageWU u) Off.wu_WCFG 0

/-- TB of the last accepted primary edge: one whose pulse is still measured counts (R88, R91). -/
def Wheel.lastEdge (w : Wheel) : Nat := w.open_.getD w.lastTb

/-- A primary edge of a unit (R88, R90, R100), stamped `t` and accepted at `at_`: too soon after the last one it is a glitch; where
the pulse width decides the direction the tooth waits for its inactive edge; an earlier tooth that still waits is unmeasured and
invalid. -/
def primaryAt (u t at_ : Nat) (s : State) : State :=
  if !s.decodes u then s else
  let s := s.upTo at_
  let w := s.wheel u
  if (w.hist ≠ [] ∨ w.open_.isSome) ∧ t < w.lastEdge + 8 * s.fld (pageWU u) Off.wu_FILTCFG 16 16 then
    s.addSat (pageWU u) Off.wu_ERRCNT 8 8 1
  else
    let s := match w.open_ with
      | some t0 => tooth u t0 .bad s
      | none => s
    let w := s.wheel u
    if s.widthChecked u (t - w.lastTb) then s.setWheel u { w with open_ := some t }
    else tooth u t .fwd s

/-- The units whose primary input is the front end of WHL pin `p` (R85); a looped unit takes its synthesiser instead (R107). -/
def State.crankTakers (s : State) (p : Nat) : List Nat :=
  (List.range 8).filter (fun u => s.fld (pageWU u) Off.wu_WCFG 20 3 == p && !s.looped u)

/-- The filter delay of a digital input under the settings of unit `u` (R87). -/
def State.filtTb (s : State) (u : Nat) : Nat := 8 * s.fld (pageWU u) Off.wu_FILTCFG 0 7

/-- The front end of unit `u` decodes a Hall-type signal. -/
def State.hall (s : State) (u : Nat) : Bool := s.flag (pageWU u) Off.wu_WCFG 1

/-- A tooth of peak amplitude `amp` arms the VR front end of unit `u`: it exceeds THRMIN, and THRFRAC eighths of the peak of the tooth
before (R87). -/
def State.arms (s : State) (u amp : Nat) : Bool :=
  decide (s.fld (pageWU u) Off.wu_VRCFG 8 8 < amp) &&
    decide (s.fld (pageWU u) Off.wu_VRCFG 0 3 * (s.reg (pageWU u) Off.wu_AMPL).toNat < 8 * amp)

/-- TB LSBs from an edge at a WHL pin to the clock in which the front end of unit `u` has taken it: the fixed delay that its stamp does
not show, and the filter of a digital input (R87, R88, R397). -/
def State.frontDelay (s : State) (u : Nat) : Nat := if s.hall u then 16 + s.filtTb u else 120

/-- AMPL takes the peak of a tooth (R87). -/
def State.setPeak (s : State) (u amp : Nat) : State := s.setReg (pageWU u) Off.wu_AMPL (BitVec.ofNat 32 (amp % 2 ^ 16))

/-- The active edge of a tooth at WHL pin `p`, which was there at `t` (R85, R87, R88): a zero crossing of an armed VR front end, or a
digital edge that the filter accepts. A tooth that does not arm the front end leaves its peak only. -/
def primaryEdge (p t amp : Nat) (s : State) : State :=
  (s.crankTakers p).foldl (fun s u =>
    if s.hall u then primaryAt u t (t + s.frontDelay u) s
    else if !s.decodes u then s
    else
      let armed := s.arms u amp
      let s := s.setPeak u amp
      if armed then primaryAt u t (t + s.frontDelay u) s else s) s

def execPrimaryEdge (p : Fin 8) (tb : Time) (amp : BitVec 16) (s : State) : Out := .next (primaryEdge p (s.clockOf tb.toNat) amp.toNat s)

/-- The inactive edge that ends a primary pulse gives its width and its direction (R100). -/
def inactiveAt (u t at_ : Nat) (s : State) : State :=
  if !s.decodes u then s else
  match (s.wheel u).open_ with
  | none => s
  | some t0 =>
    let s := s.upTo at_
    let p := pageWU u
    let w := t - t0
    let within (lo hi : Nat) := decide (s.fld p Off.wu_DIRWIN lo 8 * 800 ≤ w) && decide (w ≤ s.fld p Off.wu_DIRWIN hi 8 * 800)
    tooth u t0 (if within 0 8 then .fwd else if within 16 24 then .rvs else .bad) s

/-- The inactive edge of a tooth at WHL pin `p`. -/
def primaryInactive (p t : Nat) (s : State) : State :=
  (s.crankTakers p).foldl (fun s u => if s.hall u then inactiveAt u t (t + s.frontDelay u) s else s) s

def execPrimaryInactiveEdge (p : Fin 8) (tb : Time) (s : State) : Out := .next (primaryInactive p (s.clockOf tb.toNat) s)

/-- No primary edge for STALLTO × 10 µs (R91): a crank loss. -/
def stall (u : Nat) (s : State) : State :=
  if !s.decodes u then s else
  let s := s.upTo ((s.wheel u).lastEdge + 8000 * s.fld (pageWU u) Off.wu_STALLCFG 0 20)
  crankLoss u 0x04 (s.intSet (pageWU u) 19)

def execStall (u : Fin 8) (s : State) : Out := .next (stall u s)

/-! ### Cam edges (R92, R98, R99) -/

/-- The crank position of a cam edge: the last tooth's, plus the time since it at the speed of the last period, at most the
nominal angle of the next present tooth (R92). -/
def State.camMeasured (s : State) (u t : Nat) : Int :=
  let w := s.wheel u
  let present := s.teeth u - s.missing u
  let here := s.crankAngle u w.rv w.tooth
  let (k, rv) := nextTooth present w.tooth w.rv false
  let (k0, rv0) := nextTooth present w.tooth w.rv true
  let top := rv * (s.revAc u : Int) + (s.nominal u k : Int)
  let step : Int := here - s.crankAngle u rv0 k0
  let est := if w.per = 0 then here else here + step * ((t - w.lastTb : Nat) : Int) / (w.per : Int)
  w.base + max here (min est top)

/-- The distance of two angles modulo `m`. -/
def modDist (a b m : Int) : Nat := ((a - b + m / 2) % m - m / 2).natAbs

/-- CAMAANG or CAMBANG shows the measured angle of a cam edge (R92). -/
def State.setCamAng (s : State) (u : Nat) (secB : Bool) (pos : Int) : State :=
  s.setReg (pageWU u) (if secB then Off.wu_CAMBANG else Off.wu_CAMAANG) (angWord pos)

/-- The position of the nearest occurrence of a table angle. -/
def tablePos (pos : Int) (ang : Nat) : Int := pos + (((ang : Int) - pos + 2 ^ 23) % 2 ^ 24 - 2 ^ 23)

/-- The entry of an input that an edge at a position matches in the held revolution (R92). -/
def State.camMatch (s : State) (u : Nat) (secB pol : Bool) (pos : Int) : Option (Nat × Bool) :=
  ((s.camTable u secB).filter (fun e => e.2 == pol)).find? (fun e => decide (modDist pos e.1 (2 ^ 24) ≤ s.camTol u secB))

/-- Once the revolution is known the cam edges of CRANK_SYNC, kept as they were measured, count as matched or not (R92); the newest is
last. -/
def camRecall (u : Nat) (edges : List CamEdgeRec) (s : State) : State :=
  edges.foldl (fun s c =>
    let w := s.wheel u
    match s.camMatch u c.secB c.pol c.pos with
    | some e => s.setWheel u { w with cams := List.take 128 ({ c with pos := tablePos c.pos e.1 } :: w.cams) }
    | none => s.setWheel u { w with camBad := some c.pos }) (s.setWheel u { s.wheel u with cams := [], camBad := none })

/-- A cam edge in CRANK_SYNC: matched against every entry of its polarity modulo a revolution (R92, R94). -/
def camPhase (u t : Nat) (secB pol : Bool) (s : State) : State :=
  let w := s.wheel u
  if !s.camSel u secB then s else
  let m := (s.revAc u : Int)
  let pos := s.camMeasured u t
  let a := pos - w.base + (s.tdcofs u : Int)
  let hits := (s.camTable u secB).filter (fun e => e.2 == pol && decide (modDist a e.1 m ≤ s.camTol u secB))
  let w := { w with cams := List.take 128 ({ tb := t, secB := secB, pol := pol, pos := pos } :: w.cams) }
  match hits with
  | [e] =>
    let d : Int := ((e.1 : Int) - a + m / 2) / m * m
    let off := d % 2 ^ 24
    let n := if w.conf ≠ 0 ∧ w.confBase = off then w.conf + 1 else 1
    let s := s.setWheel u { w with conf := n, confBase := off }
    if s.fld (pageWU u) Off.wu_SYNCCFG 2 2 ≤ n then
      let half := (((w.rv * m + off) % 2 ^ 24) / m).toNat
      let s := phase u half s
      let moved := (s.wheel u).base - w.base
      let s := camRecall u ((w.cams.map (fun c => { c with pos := c.pos + moved })).reverse) s
      (holdCyc u (syncTo u wFULL 0x08 s)).setCamAng u secB (s.camMeasured u t)
    else s
  | _ => s.setWheel u { w with conf := 0 }

/-- A cam edge in FULL_SYNC (R92, R94): match, opposite-phase match, or no match. -/
def camCheck (u t : Nat) (secB pol : Bool) (s : State) : State :=
  let p := pageWU u
  let w := s.wheel u
  let pos := s.camMeasured u t
  let tol := s.camTol u secB
  let bad := if s.camSel u secB then some pos else w.camBad
  let cand := (s.camTable u secB).filter (fun e => e.2 == pol)
  match s.camMatch u secB pol pos with
  | some e =>
    let s := s.setWheel u { w with opp := 0, camLost := false,
                                   cams := List.take 128 ({ tb := t, secB := secB, pol := pol, pos := tablePos pos e.1 } :: w.cams) }
    s.setCamAng u secB pos
  | none =>
    if cand.any (fun e => decide (modDist pos e.1 (s.revAc u) ≤ tol)) then
      let n := w.opp + 1
      let s := s.setWheel u { w with opp := n, camBad := bad }
      let mx := s.fld p Off.wu_SYNCCFG 12 4
      if mx ≠ 0 ∧ mx ≤ n then syncTo u wLOST 0x0A s else s
    else
      let s := s.setWheel u { w with camBad := bad }
      (s.addSat p Off.wu_ERRCNT 16 8 1).intSet p 20

/-- The positions at which the edge of a sequence entry is expected next after the matched edges (R94, R98): entries at one angle may
come in either order, and those still to come at the angle of the last edge come first. -/
def camExpected (seq : List (Nat × Bool × Bool)) (cams : List CamEdgeRec) : List (Int × Bool × Bool) :=
  match cams with
  | [] => []
  | c :: _ =>
    let due := seq.filter (fun e => decide (((e.1 : Int) - c.pos) % 2 ^ 24 = 0) && !cams.any (fun x => x.pos == c.pos && x.secB == e.2.1))
    if due ≠ [] then due.map (fun e => (c.pos, e.2))
    else
      let ahead (e : Nat × Bool × Bool) : Int := (((e.1 : Int) - c.pos - 1) % 2 ^ 24) + 1
      let least := (seq.map ahead).foldl min (2 ^ 24)
      (seq.filter (fun e => ahead e = least)).map (fun e => (c.pos + least, e.2))

/-- A cam edge in CAM_ONLY: it must be an expected entry, within its tolerance of the extrapolated position (R94, R98). -/
def camFollow (u t : Nat) (secB pol : Bool) (s : State) : State :=
  let w := s.wheel u
  if !s.camSel u secB ∨ w.cams = [] ∨ s.camSeq u = [] then s else
  match (camExpected (s.camSeq u) w.cams).find? (fun e => e.2.1 == secB && e.2.2 == pol) with
  | some e =>
    let pos := e.1
    if (s.camPos u t - pos).natAbs ≤ s.camTol u secB then
      let cyc := ((pos / 2 ^ 24) % 256).toNat
      let s := s.setCamAng u secB (s.camPos u t)
      s.setWheel u { w with cyc := cyc, cams := List.take 128 ({ tb := t, secB := secB, pol := pol, pos := pos } :: w.cams) }
    else syncTo u wLOST 0x0C s
  | none => syncTo u wLOST 0x0C s

/-- Whether a run of the sequence matches the last edges (R99): inputs and polarities, and every interval's share of the time
within 25 % of its share of the angle. Edges and entries are given oldest first. -/
def runMatches (edges : List CamEdgeRec) (entries : List (Int × Bool × Bool)) : Bool :=
  let same := (edges.zip entries).all (fun (c, e) => c.secB == e.2.1 && c.pol == e.2.2)
  let ts := edges.map (fun c => (c.tb : Int))
  let as := entries.map (·.1)
  let span (l : List Int) : Int := l.getLastD 0 - l.headD 0
  let steps (l : List Int) : List Int := (l.zip l.tail).map (fun (a, b) => b - a)
  let tt := span ts
  let aa := span as
  same && ((steps ts).zip (steps as)).all (fun (dt, da) => decide (4 * (dt * aa - da * tt).natAbs ≤ (da * tt).natAbs))

/-- The run of `k` entries that ends at entry `i`, oldest first, with unwrapped angles. -/
def runEnding (seq : List (Nat × Bool × Bool)) (k i : Nat) : List (Int × Bool × Bool) :=
  let n := seq.length
  (List.range k).map (fun j =>
    let idx := i + n + 1 + j - k
    let e := seq.getD (idx % n) (0, false, false)
    (((e.1 : Int) + (if idx < n then -(2 ^ 24 : Int) else 0)), e.2))

/-- A cam edge in SEARCH while the device is in LIMP: a unique match of the cam sequence reaches CAM_ONLY (R99). -/
def camSearch (u t : Nat) (secB pol : Bool) (s : State) : State :=
  let w := s.wheel u
  if !s.camSel u secB then s else
  let seq := s.camSeq u
  let n := seq.length
  let k := min 3 n
  let edges := ({ tb := t, secB := secB, pol := pol, pos := 0 } :: w.seq).take 3
  let s := s.setWheel u { w with seq := edges }
  if s.md ≠ mLIMP ∨ !s.flag (pageWU u) Off.wu_SYNCCFG 9 ∨ n < 2 ∨ edges.length < k then s else
  let run := (edges.take k).reverse
  match (List.range n).filter (fun i => runMatches run (runEnding seq k i)) with
  | [i] =>
    let ent := runEnding seq k i
    let base : Int := (((s.wheel u).cyc + 1) % 256 : Nat) * 2 ^ 24
    let cams := ((run.zip ent).map (fun (c, e) => { c with pos := base + e.1 })).reverse
    syncTo u wCAM 0x02 (s.setWheel u { s.wheel u with cams := cams, cyc := ((s.wheel u).cyc + 1) % 256 })
  | _ => s

/-- A cam edge of a unit (R92), stamped `t` and accepted at `at_`. -/
def camAt (u t at_ : Nat) (secB pol : Bool) (s : State) : State :=
  if !s.active (pageWU u) ∨ s.camTable u secB = [] then s else
  let s := s.upTo at_
  let st := (s.wheel u).state
  if st = wCRANK then camPhase u t secB pol s
  else if st = wFULL then camCheck u t secB pol s
  else if st = wCAM then camFollow u t secB pol s
  else if st = wSEARCH then camSearch u t secB pol s
  else s

/-- SRC and PIN of SECxCFG that name an input. -/
def secNames : SecInput → Nat × Nat
  | .tio c => (1, c.val)
  | .whl p _ => (2, p.val)

/-- The secondary inputs that take an input (R85); those of a looped unit take the synthesiser instead (R107). -/
def State.camTakers (s : State) (i : SecInput) : List (Nat × Bool) :=
  ((List.range 8).flatMap (fun u => [(u, false), (u, true)])).filter (fun e =>
    (s.fld (pageWU e.1) (secCfg e.2) 0 2, s.fld (pageWU e.1) (secCfg e.2) 8 8) == secNames i && !s.looped e.1)

/-- An input has edges of a polarity: a VR front end only that of ACTPOL, one per tooth (R85). -/
def State.sees (s : State) (i : SecInput) (pol : Bool) : Bool :=
  match i with
  | .tio _ => true
  | .whl p _ => s.hall p.val || pol == s.flag (pageWU p.val) Off.wu_WCFG 2

/-- An input delivers an edge: of a VR front end, that of a tooth that arms it (R85, R87). -/
def State.delivers (s : State) (i : SecInput) (pol : Bool) : Bool :=
  s.sees i pol && (match i with
    | .tio _ => true
    | .whl p amp => s.hall p.val || s.arms p.val amp.toNat)

/-- The front end that decodes a secondary input shows the amplitude of a VR tooth (R85, R87). -/
def showPeak (i : SecInput) (s : State) : State :=
  match i with
  | .tio _ => s
  | .whl p amp => if s.hall p.val then s else s.setPeak p.val amp.toNat

/-- The clock in which an edge of a secondary input of unit `u` is accepted (R87, R88). -/
def State.camClock (s : State) (i : SecInput) (u t : Nat) : Nat :=
  match i with
  | .tio _ => t + s.filtTb u
  | .whl p _ => t + s.frontDelay p.val

/-- An edge of a secondary input (R85, R92); a tooth that does not arm its VR front end leaves its peak only (R87). -/
def camEdge (i : SecInput) (t : Nat) (pol : Bool) (s : State) : State :=
  if !s.sees i pol then s
  else
    let armed := s.delivers i pol
    let s := showPeak i s
    if armed then (s.camTakers i).foldl (fun s e => camAt e.1 t (s.camClock i e.1 t) e.2 pol s) s else s

def execCamEdge (src : SecInput) (tb : Time) (pol : Bool) (s : State) : Out := .next (camEdge src (s.clockOf tb.toNat) pol s)

/-- No cam edge of the selected inputs for two whole cycles: SYNCST.CAMLOST (R92). -/
def execCamlost (u : Fin 8) (s : State) : Out :=
  .next (if s.active (pageWU u) then s.setWheel u { s.wheel u with camLost := true } else s)

/-- CAM_ONLY ends when no cam edge comes within twice the last cam interval (R94). -/
def camTimeout (u : Nat) (s : State) : State :=
  let w := s.wheel u
  if w.state ≠ wCAM then s else
  let due := match camSteps w.cams with
    | c1 :: c0 :: _ => c1.tb + 2 * (c1.tb - c0.tb)
    | _ => s.now
  syncTo u wLOST 0x0B (s.upTo due)

def execCamTimeout (u : Fin 8) (s : State) : Out := .next (camTimeout u s)

/-- ERRBND at a boundary in CAM_ONLY (R98): α × S² / ω² in 1/64 °CA, from the last two cam intervals. -/
def errBound (u : Nat) (s : State) : State :=
  let p := pageWU u
  let w := s.wheel u
  let v : Nat :=
    if w.state ≠ wCAM then 0 else
    match camSteps w.cams with
    | c2 :: c1 :: c0 :: _ =>
      let seq := (s.camSeq u).map (·.1)
      let gaps := (seq.zip seq.tail).map (fun (a, b) => b - a)
      let big := gaps.foldl max (seq.headD 0 + 2 ^ 24 - seq.getLastD 0)
      let wb : Rat := ((c2.pos - c1.pos : Int) : Rat) / ((c2.tb - c1.tb : Nat) : Rat)
      let wa : Rat := ((c1.pos - c0.pos : Int) : Rat) / ((c1.tb - c0.tb : Nat) : Rat)
      let al := 2 * (wb - wa) / ((c2.tb - c0.tb : Nat) : Rat)
      let al := if al < 0 then -al else al
      let deg : Rat := if s.revsPerCycle u = 2 then 720 else 360
      min (al * (big : Rat) * (big : Rat) / (wb * wb) * deg / 2 ^ 24 * 64).floor.toNat 0xFFFF
    | _ => 0
  s.setReg p Off.wu_ERRBND (BitVec.ofNat 32 v)

/-! ### Block commands (R114) -/

def resync : Cmd where
  errs q s := [(eSTATE, s.st q.page.toNat != stACTIVE)]
  run q s := (searchAtBoundary (q.page.toNat - 0x020) 0x0E s).finish q.page.toNat 0x40 {}

/-- A TIO pin is driven by a pin channel or a PWM channel (R86, R107, R250). -/
def State.pinDriven (s : State) (c : Nat) : Bool :=
  s.drivesChan c || s.fld pagePINMUX (Off.pinmux_PINSEL c) 0 2 == 1

/-- SYN_START (R107). -/
def synStart : Cmd where
  errs q s :=
    let p := q.page.toNat
    let u := p - 0x020
    let pin (lo : Nat) : Nat := s.fld p Off.wu_SYNCFG lo 8
    let nseg := s.fld (pageWUS u) Off.wus_PROF 0 6
    [ (eSTATE, s.st p != stCONFIGURED || s.md != mBENCH),
      (eSTATE, s.pinDriven (pin 0) || (s.flag p Off.wu_SYNCFG 24 && s.pinDriven (pin 8)) ||
        (s.flag p Off.wu_SYNCFG 25 && s.pinDriven (pin 16))),
      (eSTATE, s.flag p Off.wu_SYNCFG 26 && s.fld p Off.wu_SYNCFG 27 3 == u),
      (eVALUE, (List.range nseg).any (fun i =>
        decide (200000 * 60 < s.teeth u * s.fld (pageWUS u) (Off.wus_SEG i) 0 16))) ]
  run _ s := s

/-- SYN_STOP takes effect at the next boundary (R109). -/
def synStop : Cmd where
  errs q s := [(eSTATE, s.st q.page.toNat != stSYNTH)]
  run _ s := s

/-- LRN_CLEAR (R104, R114): at the next boundary every C[k] becomes 0; a learning revolution in progress is discarded. -/
def lrnClear : Cmd where
  errs q s :=
    let st := s.st q.page.toNat
    [(eSEALED, s.fld pageRIND Off.rind_LEVEL 0 2 == 2), (eSTATE, !(st == stCONFIGURED || st == stACTIVE))]
  run q s :=
    let u := q.page.toNat - 0x020
    (s.setWheel u { (s.wheel u).noLearn with lrnClear := true, lrnT0 := none, lrnTimes := [] }).finish q.page.toNat 0x43 {}

/-! ### Synthesis (R107 to R109) -/

/-- Synthesis starts at the boundary: cycle angle 0, 0 rpm, segment 0, the crank line at its inactive level (R107, R108). A boundary that
leaves BENCH stops it at once (R109). -/
def synBegin (r : Running) (s : State) : State :=
  let p := r.req.page.toNat
  let u := p - 0x020
  if s.md ≠ mBENCH then s.endRun r {} else
  let s := s.setSt p stSYNTH
  let s := s.setWheel u { (s.wheel u).search with
    state := wSEARCH, synSeg := 0, synTb := s.now, synRpm := 0, synArea := 0, synKey := none, synCount := 0, synDone := false,
    synCrk := !s.flag p Off.wu_WCFG 2, synA := false, synB := false }
  (s.setFld p Off.wu_SYNSTAT 0 7 1).endRun r {}

/-- Synthesis stops: the unit releases its pins and is CONFIGURED. -/
def synEnd (u : Nat) (s : State) : State :=
  let p := pageWU u
  let s := s.setWheel u { s.wheel u with synCrk := false, synA := false, synB := false, synKey := none }
  (s.setFld p Off.wu_SYNSTAT 0 1 0).setSt p stCONFIGURED

/-- The speed that the profile ramps to and its time, of a segment. -/
def State.segSpeed (s : State) (u i : Nat) : Nat := s.fld (pageWUS u) (Off.wus_SEG i) 0 16
def State.segTime (s : State) (u i : Nat) : Nat := s.fld (pageWUS u) (Off.wus_SEG i) 16 15

/-- The present synthesised speed in rpm: a linear ramp in time (R108). -/
def State.synSpeed (s : State) (u : Nat) : Nat :=
  let w := s.wheel u
  let t := s.segTime u w.synSeg * 800000
  let e := s.now - w.synTb
  let v := s.segSpeed u w.synSeg
  if w.synDone ∨ t ≤ e then v
  else ((w.synRpm : Int) + ((v : Int) - (w.synRpm : Int)) * (e : Int) / (t : Int)).toNat

/-- Twice the integral of the speed over the first `e` LSBs of a ramp from `v0` to `v` rpm over `t` LSBs (R108). -/
def rampArea (v0 v t e : Nat) : Nat :=
  (((2 * v0 * e * t : Nat) : Int) + ((v : Int) - (v0 : Int)) * ((e * e : Nat) : Int)).toNat / t

/-- The same of the present segment; after the profile its last speed holds. -/
def State.segArea (s : State) (u e : Nat) : Nat :=
  let w := s.wheel u
  let v := s.segSpeed u w.synSeg
  let t := s.segTime u w.synSeg * 800000
  if w.synDone then 2 * v * e else rampArea w.synRpm v t (min e t)

/-- The first of the numbers below `lo + 2^n` at which a rising function reaches `need`. -/
def firstAt (f : Nat → Nat) (need : Nat) : Nat → Nat → Nat
  | 0, lo => lo
  | n + 1, lo => if need ≤ f (lo + 2 ^ n - 1) then firstAt f need n lo else firstAt f need n (lo + 2 ^ n)

/-- The LSBs from the start of the present segment to a cycle angle, counted on over the cycles; none if the segment ends before it, or
the wheel stands (R108). -/
def State.synReach (s : State) (u ang : Nat) : Option Nat :=
  let w := s.wheel u
  let v := s.segSpeed u w.synSeg
  let need := (ang * (2 * minuteTb) + s.revAc u - 1) / s.revAc u - w.synArea
  if v = 0 ∧ (w.synDone ∨ w.synRpm = 0) then none
  else if need = 0 then some 0
  else if w.synDone then some ((need + 2 * v - 1) / (2 * v))
  else if need ≤ s.segArea u (s.segTime u w.synSeg * 800000) then some (firstAt (s.segArea u) need 35 0)
  else none

/-- A segment of the profile ends (R108). -/
def synSegmentEnd (u : Nat) (s : State) : State :=
  let p := pageWU u
  if s.st p ≠ stSYNTH ∨ (s.wheel u).synDone then s else
  let w := s.wheel u
  let s := s.upTo (w.synTb + s.segTime u w.synSeg * 800000)
  let n := s.fld (pageWUS u) Off.wus_PROF 0 6
  let v := s.segSpeed u w.synSeg
  let w := { w with synArea := w.synArea + (w.synRpm + v) * (s.segTime u w.synSeg * 800000) }
  if w.synSeg + 1 < n then
    (s.setWheel u { w with synSeg := w.synSeg + 1, synTb := s.now, synRpm := v }).setFld p Off.wu_SYNSTAT 2 5 (w.synSeg + 1)
  else if s.flag (pageWUS u) Off.wus_PROF 8 then
    (s.setWheel u { w with synSeg := 0, synTb := s.now, synRpm := v }).setFld p Off.wu_SYNSTAT 2 5 0
  else
    ((s.setWheel u { w with synDone := true, synTb := s.now, synRpm := v }).setFld p Off.wu_SYNSTAT 1 1 1).intSet p 25

def execSynSegmentEnd (u : Fin 8) (s : State) : Out := .next (synSegmentEnd u s)

/-- The edges of one cycle by key: 4 × angle + kind, kind 0 active, 1 inactive, 2 SECA, 3 SECB, with the level of a cam. -/
def synEdges (s : State) (u : Nat) : List (Nat × Bool) :=
  let n := s.teeth u
  let r := s.revsPerCycle u
  let half := 2 ^ 24 / (2 * n * r)
  let crank := (List.range r).flatMap (fun h => (List.range (n - s.missing u)).flatMap (fun k =>
    let a := s.tdcofs u + h * s.revAc u + s.nominal u k
    [(4 * (a % 2 ^ 24), true), (4 * ((a + half) % 2 ^ 24) + 1, false)]))
  let cam (b : Bool) := if s.flag (pageWU u) Off.wu_SYNCFG (if b then 25 else 24)
    then (s.camEntries u b).map (fun e => (4 * e.1 + (if b then 3 else 2), e.2)) else []
  crank ++ cam false ++ cam true

/-- The next edge after a key, cyclically. -/
def nextKey (l : List (Nat × Bool)) (after : Option Nat) : Option (Nat × Bool) :=
  let d (k : Nat) : Nat := match after with | none => k | some a => (k + 2 ^ 26 - a - 1) % 2 ^ 26
  l.foldl (fun b e => match b with | none => some e | some x => if d e.1 < d x.1 then some e else some x) none

/-- The key of an edge counted on over the cycles. -/
def Wheel.countOn (w : Wheel) (key : Nat) : Nat :=
  match w.synKey with
  | none => key
  | some k => w.synCount + 1 + (key + 2 ^ 26 - k - 1) % 2 ^ 26

/-- A synthesised edge reaches the unit into which it is looped, through the digital path and its filter (R87, R107): a crank edge is
active where its level is that of the target's ACTPOL. -/
def synLoop (v key : Nat) (lvl : Bool) (s : State) : State :=
  let at_ := s.now + s.filtTb v
  if 2 ≤ key % 4 then camAt v s.now at_ (key % 4 == 3) lvl s
  else if lvl = s.flag (pageWU v) Off.wu_WCFG 2 then primaryAt v s.now at_ s else inactiveAt v s.now at_ s

/-- The level of the line that a key moves. -/
def Wheel.synLine (w : Wheel) (key : Nat) : Bool := if key % 4 < 2 then w.synCrk else if key % 4 = 2 then w.synA else w.synB

/-- The next synthesised edge is placed at the clock in which the integrated speed reaches its angle: on the pins, or looped into
another unit, which sees it where the line moves (R107, R108). At speed 0 the lines hold. -/
def synEdge (u : Nat) (s : State) : State :=
  let p := pageWU u
  if s.st p ≠ stSYNTH then s else
  match nextKey (synEdges s u) (s.wheel u).synKey with
  | none => s
  | some (key, lvl) =>
    match s.synReach u ((s.wheel u).countOn key / 4) with
    | none => s
    | some e =>
    let s := s.upTo ((s.wheel u).synTb + e)
    let w := s.wheel u
    let pol := s.flag p Off.wu_WCFG 2
    let lvl := if key % 4 = 0 then pol else if key % 4 = 1 then !pol else lvl
    let moves := lvl != w.synLine key
    let w := { w with synKey := some key, synCount := w.countOn key }
    let w := if key % 4 < 2 then { w with synCrk := lvl }
      else if key % 4 = 2 then { w with synA := lvl } else { w with synB := lvl }
    let s := s.setWheel u w
    if s.flag p Off.wu_SYNCFG 26 ∧ moves then synLoop (s.fld p Off.wu_SYNCFG 27 3) key lvl s else s

def execSynEdge (u : Fin 8) (s : State) : Out := .next (synEdge u s)

/-! ### Clover (R105, R106) -/

/-- The place of a pair in the forward order 00, 01, 11, 10. -/
def quadPlace (a b : Bool) : Nat := if a then (if b then 2 else 3) else (if b then 1 else 0)

/-- Step a position modulo QMOD, where 0 stands for 2^32. -/
def quadStep (md pos : Nat) (d : Int) : Nat :=
  let m : Int := if md = 0 then 2 ^ 32 else (md : Int)
  (((pos : Int) + d) % m).toNat

def State.qmod (s : State) (u : Nat) : Nat := (s.reg (pageWU u) Off.wu_QMOD).toNat

/-- Clover runs. -/
def State.clover (s : State) (u : Nat) : Bool :=
  (s.active (pageWU u) || s.st (pageWU u) == stSYNTH) && s.flag (pageWU u) Off.wu_QCFG 0

/-- A sample of A and B that differs from the reference pair (R105). -/
def quadChange (u : Nat) (a b : Bool) (s : State) : State :=
  if !s.clover u then s else
  let p := pageWU u
  let w := s.wheel u
  let d := (quadPlace a b + 4 - quadPlace w.qa w.qb) % 4
  let m := s.qmod u
  let w' := { w with qa := a, qb := b }
  if d = 0 then s
  else if d = 1 then s.setWheel u { w' with qpos := quadStep m w.qpos 1, qdir := false, qknown := true }
  else if d = 3 then s.setWheel u { w' with qpos := quadStep m w.qpos (-1), qdir := true, qknown := true }
  else
    let s := (s.addSat p Off.wu_ERRCNT 24 8 1).intSet p 22
    if s.flag p Off.wu_QCFG 1 ∧ w.qknown then s.setWheel u { w' with qpos := quadStep m w.qpos (if w.qdir then -2 else 2) }
    else s.setWheel u w'

def execQuadratureChange (u : Fin 8) (a b : Bool) (s : State) : Out := .next (quadChange u a b s)

/-- A rising edge of Z (R106). -/
def quadIndex (u : Nat) (s : State) : State :=
  if !s.clover u ∨ !s.flag (pageWU u) Off.wu_QCFG 2 then s else
  let p := pageWU u
  let w := s.wheel u
  let s := s.setReg p Off.wu_QIDXPOS (BitVec.ofNat 32 w.qpos)
  let s := (s.setFld p Off.wu_QSTAT 4 1 1).intSet p 23
  if s.flag p Off.wu_QCFG 7 then s.setWheel u { w with qpos := 0 } else s

def execQuadratureIndex (u : Fin 8) (s : State) : Out := .next (quadIndex u s)

/-- QPOSSET at or above QMOD is rejected (R106). -/
def qpossetErrs (u v : Nat) (s : State) : List (Nat × Bool) := [(eVALUE, s.qmod u != 0 && decide (s.qmod u ≤ v))]
def qpossetDo (u v : Nat) (s : State) : State := s.setWheel u { s.wheel u with qpos := v }

/-- A WCFG write that changes TEETH or MISSING sets every C[k] to 0 (R112). -/
def wcfgDo (u : Nat) (old new : Word) (s : State) : State :=
  if fieldOf old 8 10 = fieldOf new 8 10 then s else s.clearTerr u

/-! ### Boundary -/

/-- At a boundary: a return to SEARCH that waits, AUTORESTART, a revolution that leaves the learning conditions, learned corrections,
LRN_CLEAR, the published state and edges (R20, R94, R103). `b` is the TB of the boundary. -/
def wheelBoundary (u b : Nat) (s : State) : State :=
  let w := s.wheel u
  let s := match w.toSearch with
    | some trig =>
      let s := if w.state = wSEARCH then s else syncTo u wSEARCH trig s
      s.setWheel u { s.wheel u with toSearch := none }
    | none => if w.state = wLOST ∧ s.flag (pageWU u) Off.wu_SYNCCFG 8 ∧ s.active (pageWU u) ∧ !s.flag (pageIDX 0) (Off.idx_IMP u) 0
        then syncTo u wSEARCH 0x0D s else s
  let s := if s.mayLearn u then s else s.setWheel u (s.wheel u).noLearn
  let w := s.wheel u
  let s := w.lrnNew.foldl (fun s e => s.setTerr u e.1 e.2) s
  let s := if w.lrnClear then s.clearTerr u else s
  let w := s.wheel u
  let s := if w.fresh then s.unchain u else s
  let s := s.setWheel u { w with lrnNew := [], lrnClear := false, fresh := false, pubState := if s.active (pageWU u) then w.state else 0,
                                 pubs := w.trk.filter (fun e => decide (e.tb < b)) }
  errBound u s

/-- A unit becomes ACTIVE in SEARCH (R93). -/
def wheelStart (u : Nat) (s : State) : State :=
  s.setWheel u { (s.wheel u).search with state := wSEARCH, prev := (s.wheel u).state, lastTb := s.now, hist := [], rev := false, tooth := 0, toSearch := none }

/-! ### Views -/

def syncstWord (s : State) (u : Nat) : Word :=
  let w := s.wheel u
  let st := if s.active (pageWU u) then w.state else 0
  if s.imports u && s.active (pageWU u) then
    BitVec.ofNat 32 (st + s.cycNow u % 2 ^ 8 * 2 ^ 16 + bit w.rev * 2 ^ 24 + bit w.mapValid * 2 ^ 25)
  else
  let pos : Int := if s.phased u then s.toothPos u else match s.angleAt u s.now with
    | some a => (a.toNat : Int)
    | none => match w.cams with | c :: _ => c.pos | [] => 0
  let half := if s.phased u ∨ st = wCAM then (((pos - s.tdcofs u) % 2 ^ 24) / (s.revAc u : Int)).toNat else 0
  BitVec.ofNat 32 (st + w.prev * 2 ^ 4 + half % 2 * 2 ^ 7 + w.tooth % 2 ^ 8 * 2 ^ 8 + s.cycNow u % 2 ^ 8 * 2 ^ 16 +
    bit w.rev * 2 ^ 24 + bit w.mapValid * 2 ^ 25 + bit w.camLost * 2 ^ 26 + bit w.overspeed * 2 ^ 27)

def qstatWord (s : State) (u : Nat) : Word :=
  let w := s.wheel u
  BitVec.ofNat 32 (bit w.qa + bit w.qb * 2 + bit w.qdir * 4 + bit w.qknown * 8 + s.fld (pageWU u) Off.wu_QSTAT 4 1 * 16)

def lrnstatWord (s : State) (u : Nat) : Word :=
  withField (withField (s.reg (pageWU u) Off.wu_LRNSTAT) 0 1 (bit ((s.wheel u).lrnOk && s.mayLearn u))) 1 1
    (bit (s.fld pageRIND Off.rind_LEVEL 0 2 == 2))

def synstatWord (s : State) (u : Nat) : Word :=
  withField (s.reg (pageWU u) Off.wu_SYNSTAT) 16 16 (if s.st (pageWU u) = stSYNTH then s.synSpeed u else 0)

end Sys2Proof.Machine
end

