-- ==== Sys2Proof/Machine/Resampler.lean ====
section
/-! DEFINITION. The angle resampler: grid points, Curd records, windows and rings (R224 to R239). -/

namespace Sys2Proof.Machine

/-! ### The grid (R225 to R227) -/

/-- Degrees of crank angle in a cycle of a wheel. -/
def State.cycleDeg (s : State) (u : Nat) : Nat := 360 * 2 ^ 24 / s.revAc u

/-- Forward distance of grid point j from WSTART (R225). -/
def State.gridOff (s : State) (l j : Nat) : Nat :=
  j * s.fld (lanePage l) (Off.rsml_STEP (l % 2)) 0 9 * 2 ^ 24 / (64 * s.cycleDeg (s.laneWheel l))

def State.wStart (s : State) (l : Nat) : Nat := s.fld (lanePage l) (Off.rsml_WSTART (l % 2)) 0 24

/-- Forward distance from WSTART to WEND; equal angles mean a whole cycle. -/
def State.wLen (s : State) (l : Nat) : Nat :=
  match (s.fld (lanePage l) (Off.rsml_WEND (l % 2)) 0 24 + 2 ^ 24 - s.wStart l) % 2 ^ 24 with
  | 0 => 2 ^ 24
  | n => n

/-- Convert the grid points of a window that a map holds, at most `fuel` of them (R227). A point below the start of the map, in
a forward jump, is given B_start. -/
def convert (s : State) (l : Nat) (m : AMap) : Nat → RWin → RWin
  | 0, w => w
  | fuel + 1, w =>
    if w.done then w else
    let off := s.gridOff l w.j
    if s.wLen l ≤ off then { w with done := true, points := markLast w.points }
    else
      let a := w.start + off
      if a < m.stop then
        let t := if a < m.start then m.tStart else m.time a
        convert s l m fuel { w with j := w.j + 1, points := w.points ++ [{ ang := angWord a, t := t, sync := w.sync }] }
      else w

/-- More grid points than any window has: 1/64 °CA over 720 °CA. -/
def gridMax : Nat := 46082

/-- The unwrapped angle of the WSTART that a map holds, if it holds one (R226). -/
def startIn (m : AMap) (ws : Nat) : Option Int :=
  let a : Int := m.start + (((ws : Int) - m.start) % 2 ^ 24)
  if a < m.stop then some a else none

/-- A map of wheel u is published, `broken` where it does not meet the map before it: open windows go on, and a window whose
WSTART the map holds opens; one that is still open then closes early (R226, R227, R233). -/
def resampleMap (u : Nat) (m : AMap) (broken : Bool) (s : State) : State :=
  if !s.resamples then s else
  let s := if broken then markWheelLanes (· == u) s else s
  laneList.foldl (fun s l =>
    if !(s.laneOn l && s.laneWheel l == u) then s else
    let x := s.lane l
    let s := s.setLane l { x with wins := x.wins.map (fun w => if w.part then w else convert s l m gridMax w) }
    match startIn m (s.wStart l) with
    | none => s
    | some a =>
      let s := if (s.lane l).wins.any (fun w => !w.done) then closeLane l (m.time a) false s else s
      let w := convert s l m gridMax { start := a }
      s.setLane l { s.lane l with wins := (s.lane l).wins ++ [w] }) s

/-! ### Records (R228 to R230, R232) -/

/-- What a record holds beside its angle. -/
structure Curd where
  val : Rat
  rng : Nat
  settle : Bool := false
  diag : Bool := false
  step : Bool := false
  extrap : Bool := false

/-- Linear in two samples. -/
def lineAt (a b : LSamp) (t : Nat) : Rat :=
  (a.val : Rat) + (((t : Int) - a.tb : Int) : Rat) / (((b.tb : Int) - a.tb : Int) : Rat) * ((b.val - a.val : Int) : Rat)

/-- The Lagrange polynomial through samples (R228). -/
def lagrange (l : List LSamp) (t : Nat) : Rat :=
  (l.map (fun a => (a.val : Rat) * ((l.filter (fun b => b.tb != a.tb)).map (fun b =>
    (((t : Int) - b.tb : Int) : Rat) / (((a.tb : Int) - b.tb : Int) : Rat))).prod)).sum

/-- The value of a grid point from the samples stored before the boundary, if it can be formed now: `old` those held at or before
its TB, newest first, `new` those after it, oldest first; `late` when its timeout has come (R228 to R230). -/
def curdOf (cubic late : Bool) (t : Nat) (old new : List LSamp) : Option Curd :=
  match old, new with
  | s0 :: o, s1 :: n =>
    let two : Curd := { val := lineAt s0 s1 t, rng := s0.rng, settle := s0.settle || s1.settle, diag := s0.diag || s1.diag }
    if s1.rng ≠ s0.rng then some { val := s0.val, rng := s0.rng, settle := s0.settle, diag := s0.diag, step := true }
    else if !cubic then some two
    else match o, n with
      | sm :: _, s2 :: _ =>
        if sm.rng ≠ s0.rng ∨ s2.rng ≠ s0.rng then some two
        else some { val := lagrange [sm, s0, s1, s2] t, rng := s0.rng, settle := sm.settle || s0.settle || s1.settle || s2.settle,
                    diag := sm.diag || s0.diag || s1.diag || s2.diag }
      | sm :: _, [] => if sm.rng ≠ s0.rng ∨ late then some two else none
      | [], _ => some two
  | old, _ =>
    if !late then none else
    match old with
    | s0 :: sm :: _ =>
      if s0.rng = sm.rng then
        some { val := lineAt sm s0 t, rng := s0.rng, settle := sm.settle || s0.settle, diag := sm.diag || s0.diag, extrap := true }
      else some { val := s0.val, rng := s0.rng, settle := s0.settle, diag := s0.diag, extrap := true }
    | [s0] => some { val := s0.val, rng := s0.rng, settle := s0.settle, diag := s0.diag, extrap := true }
    | [] => some { val := 0, rng := 0, extrap := true }

/-- VALUE: times 64, to the nearest integer, halves away from zero, in 22 signed bits (R228). -/
def curdValue (r : Rat) : Int :=
  let x := r * 64
  max (-2097152) (min 2097151 (if x < 0 then -((-x + 1 / 2).floor) else (x + 1 / 2).floor))

/-- Word 1 of a record without its window flags. -/
def Curd.word (c : Curd) (sync : Bool) : Nat :=
  unsigned 22 (curdValue c.val) + c.rng * 2 ^ 22 + bit c.settle * 2 ^ 24 + bit c.extrap * 2 ^ 25 + bit sync * curdSYNCCHG +
    bit c.step * 2 ^ 27 + bit c.diag * 2 ^ 28

/-- A record goes into the lane's ring, or is dropped where the ring is full (R234). -/
def lanePut (l : Nat) (w0 : Word) (w1 : Nat) (s : State) : Option Nat × State :=
  let p := lanePage l
  let h := l % 2
  let size := 2 ^ s.fld p (Off.rsml_RING h) 24 5
  let wp := s.fld p (Off.rsml_RWP h) 0 17
  let wp' := (wp + 8) % size
  if s.lcfg l 3 1 = 0 ∧ wp' = s.fld p (Off.rsml_RRP h) 0 17 then
    (none, (s.addSat p (Off.rsml_RLOST h) 0 16 1).intSet pageRSMP 16)
  else
    let a := s.fld p (Off.rsml_RING h) 6 12 * 64 + wp
    let s := { s with smem := s.smem.setWords a [w0, BitVec.ofNat 32 w1] }
    let s := s.setReg p (Off.rsml_RWP h) (BitVec.ofNat 32 wp')
    (some (a + 4), s.setLane l { s.lane l with wrote := true })

/-- The oldest window of a lane is over: its counts show in LSTAT and WINCNT. -/
def endWindow (l : Nat) (w : RWin) (s : State) : State :=
  let p := lanePage l
  let x := s.lane l
  let s := s.setLane l { x with wins := x.wins.drop 1, recs := w.recs, lastPart := w.part }
  s.setReg p (Off.rsml_WINCNT (l % 2)) (BitVec.ofNat 32 ((s.fld p (Off.rsml_WINCNT (l % 2)) 0 16 + 1) % 2 ^ 16))

/-- Put a record of the lane's oldest window. -/
def putCurd (l : Nat) (w : RWin) (w0 : Word) (w1 : Nat) (rest : List GPoint) (s : State) : State :=
  let (at_, s) := lanePut l w0 w1 s
  let x := s.lane l
  s.setLane l { x with wins := { w with points := rest, recs := w.recs + 1, lastAt := at_ } :: x.wins.drop 1 }

/-- One record of a lane, if its turn has come: the next grid point of its oldest window, or the MARKER of a window that closed
before it emitted any (R230, R233). -/
def produceOne (l : Nat) (s : State) : Option State :=
  let x := s.lane l
  match x.wins with
  | [] => none
  | w :: _ =>
    match w.points with
    | [] =>
      if !w.done then none
      else if w.part ∧ w.recs = 0 then
        let s := putCurd l w (angWord w.start) (curdWEND + curdPARTIAL + curdMARKER + bit w.sync * curdSYNCCHG) [] s
        some (endWindow l { w with recs := 1 } s)
      else some (endWindow l w s)
    | g :: rest =>
      let ready := ((w.input.map (·.samps)).getD x.samps).filter (fun a => decide (a.stored < s.tick.bnd))
      let late := decide (s.lcfg l 24 4 + 1 ≤ g.age)
      match curdOf (s.lcfg l 1 1 == 1) late g.t (ready.filter (fun a => decide (a.tb ≤ g.t))).reverse
          (ready.filter (fun a => decide (g.t < a.tb))) with
      | none => none
      | some c =>
        let s := if c.extrap then s.intSet pageRSMP 18 else s
        let s := if c.step then s.intSet pageRSMP 19 else s
        some (putCurd l w g.ang (c.word g.sync + bit g.last * curdWEND + bit (g.last && w.part) * curdPARTIAL) rest s)

/-- Every record of a lane whose turn has come, at most `fuel` steps. -/
def produce (l : Nat) : Nat → State → State
  | 0, s => s
  | fuel + 1, s => match produceOne l s with
    | some s' => produce l fuel s'
    | none => s

/-- Samples that no grid point can need any more are let go: all but the newest two held at or before the oldest grid point that
is left, or the boundary. -/
def trim (bnd : Nat) (x : Lane) : Lane :=
  let t := ((x.wins.filter (·.input.isNone)).flatMap (·.points)).foldl (fun m g => min m g.t) bnd
  let old := x.samps.filter (fun a => decide (a.tb ≤ t))
  { x with samps := old.drop (old.length - 2) ++ x.samps.filter (fun a => decide (t < a.tb)) }

/-- LSTAT of a lane (R237): the records of the open window, else of the last; whether one is open; whether the last was partial. -/
def lstatWord (s : State) (l : Nat) : Word :=
  let x := s.lane l
  let opened := x.wins.find? (·.openAt s.now)
  let last := (x.wins.filter (fun w => !w.openAt s.now)).getLast?
  let part := (last.map (·.part)).getD x.lastPart
  let recs := (opened.map (·.recs)).getD ((last.map (·.recs)).getD x.recs)
  BitVec.ofNat 32 (recs % 2 ^ 16 + bit opened.isSome * 2 ^ 16 + bit part * 2 ^ 17)

def winopenWord (s : State) : Word :=
  BitVec.ofNat 32 ((laneList.map (fun l => bit ((s.lane l).wins.any (·.openAt s.now)) * 2 ^ l)).sum)

/-- The ready point of a lane that wrote (R234). -/
def laneReady (l : Nat) (s : State) : State :=
  let p := lanePage l
  let h := l % 2
  let put (s : State) (a : Nat) (w : Word) : State := { s with smem := s.smem.setWord a w }
  let s := put s (0x3FD40 + 4 * l) (s.reg p (Off.rsml_RWP h))
  let s := put s (0x3FD80 + 8 * l) (lstatWord s l)
  let s := put s (0x3FD84 + 8 * l) (s.reg p (Off.rsml_WINCNT h))
  ((s.setLane l { s.lane l with wrote := false }).occur 4 l).bell (0x260 + l)

/-- Cycle P/4 + 100: the records of the tick are complete and readable, those of windows that closed as RSMP left ACTIVE too, in
whichever mode that leaves the device (R233); tasks that wait for the ready point wake (R19, R144, R234, R235). -/
def readyPoint (s : State) : State :=
  let s := s.upTo (s.tick.bnd + 2 * (s.tick.per / 4 + 100))
  let s := if s.pageOn pageRSMP && (s.rsmpMode || !s.active pageRSMP) then
      let s := laneList.foldl (fun s l => if (s.lane l).wins = [] then s else produce l (4 * gridMax) s) s
      let s := if s.active pageRSMP then s.setReg pageRSMP Off.rsmp_RDYTICK (s.reg pageTB Off.tb_TICKNUM) else s
      let s := laneList.foldl (fun s l => if (s.lane l).wrote then laneReady l s else s) s
      { s with lanes := s.lanes.map (fun e => (e.1, trim s.tick.bnd e.2)) }
    else s
  (s.clus.map (·.1)).foldl (fun s c => s.wakeBit c 3) s

def execReadyPoint (s : State) : Out := .next (readyPoint s)

/-! ### Boundaries and commands (R233, R234, R238) -/

/-- LANESEL, or ARG word 2 of a ring entry. -/
def State.laneSel (s : State) (q : Req) : Nat :=
  if q.src = .ring then fieldOf q.args.w2 0 16 else s.fld pageRSMP Off.rsmp_LANESEL 0 16

def winClose : Cmd where
  errs q s := [(eSTATE, !s.active pageRSMP), (eVALUE, s.laneSel q == 0)]
  run q s := s.keepRun pageRSMP 0x40 [s.laneSel q]

def ringReset : Cmd where
  errs q s := [(eSTATE, !(s.active pageRSMP || s.st pageRSMP == stCONFIGURED)), (eVALUE, s.laneSel q == 0)]
  run q s := s.keepRun pageRSMP 0x41 [s.laneSel q]

/-- The indices of a lane's ring become 0. -/
def emptyLane (l : Nat) (s : State) : State :=
  (s.setReg (lanePage l) (Off.rsml_RWP (l % 2)) 0).setReg (lanePage l) (Off.rsml_RRP (l % 2)) 0

/-- WIN_CLOSE and RING_RESET take effect; grid points grow older by a boundary. -/
def resamplerBoundary (s : State) : State :=
  let s := match s.running.find? (fun r => r.req.page.toNat == pageRSMP && r.code == 0x40) with
    | some r => (laneList.foldl (fun s l => if bitOf (r.data.getD 0 0) l then closeLane l s.now false s else s) s).endRun r {}
    | none => s
  let s := match s.running.find? (fun r => r.req.page.toNat == pageRSMP && r.code == 0x41) with
    | some r => (laneList.foldl (fun s l => if bitOf (r.data.getD 0 0) l then emptyLane l s else s) s).endRun r {}
    | none => s
  { s with lanes := s.lanes.map (fun e => (e.1, { e.2 with wins := e.2.wins.map (fun w =>
      { w with points := w.points.map (fun g => if g.t < s.tick.bnd then { g with age := g.age + 1 } else g) }) })) }

/-- RSMP leaves ACTIVE: every window closes early; what has been closed is still to be emitted (R233). -/
def closeAllLanes (s : State) : State := laneList.foldl (fun s l => closeLane l s.now false s) s

/-- A domain reset of the resampler: nothing further is emitted, and the windows lost are reported (R233, R289). -/
def loseLanes (s : State) : State :=
  let s := laneList.foldl (fun s l =>
    let n := (s.lane l).wins.length
    if n = 0 then s else s.lose 3 (0x260 + l) true 0x022 n s.now) s
  { s with lanes := [] }

/-- A lane's registers have changed at a commit: its windows close; with EN and AIN they keep the input that they had, AIN and NOURG;
a new RING is empty. -/
def laneChanged (l : Nat) (closes : Bool) (left : Option (Nat × Bool)) (ring : Bool) (s : State) : State :=
  let s := if closes then closeLane l s.now false s else s
  let s := match left with
    | some (ain, nourg) =>
      let x := s.lane l
      s.setLane l { x with samps := [], wins := x.wins.map (fun w =>
        { w with input := some (w.input.getD { ain := ain, nourg := nourg, samps := x.samps }) }) }
    | none => s
  if ring then emptyLane l s else s

end Sys2Proof.Machine
end

