-- ==== Sys2Proof/Machine/Engine.lean ====
section
/-! DEFINITION. The X slot of the microengines: memories, time, events, messages, doorbells, logs, SHIFT, samples, captures, and the
operations that give up the engine (R135, R136, R144, R149 to R162, R165). -/

namespace Sys2Proof.Machine

def State.lmem (s : State) (e a : Nat) : Word := (s.eng e).mem.word a

/-- Put words into local memory. -/
def State.putLocal (s : State) (e a : Nat) (ws : List Word) : State :=
  let x := s.eng e
  s.setEng e { x with mem := x.mem.setWords a ws }

/-! ### Memories (R135, R136, R149, R150) -/

def execLdl (e : Fin 128) (x : XFields) (hw : HwFault) (s : State) : Out :=
  .next (s.slot e true (fun w => w.holdsX 0x01 x) (fun w s =>
    hwCheck e hw (some (true, xAddr w x)) (fun s =>
      let a := xAddr w x
      s.setRegs e [(x.xd.toNat, loadPart (s.lmem e a) a (xSize x) (xArg x 2 1 == 1))]) s))

def execStl (e : Fin 128) (x : XFields) (s : State) : Out :=
  .next (s.slot e true (fun w => w.holdsX 0x02 x) (fun w s =>
    let a := xAddr w x
    s.putLocal e (a / 4 * 4) [storePart (s.lmem e a) a (xSize x) (w.r x.xs2.toNat)]))

def execLds (e : Fin 128) (x : XFields) (hw : HwFault) (s : State) : Out :=
  .next (s.slot e true (fun w => w.holdsX 0x03 x) (fun w s =>
    hwCheck e hw (some (false, xAddr w x)) (fun s =>
      let a := xAddr w x
      s.setRegs e [(x.xd.toNat, loadPart (s.sharedAt (e.val / 8) a) a (xSize x) (xArg x 2 1 == 1))]) s))

def execSts (e : Fin 128) (x : XFields) (hw : HwFault) (s : State) : Out :=
  .next (s.slot e true (fun w => w.holdsX 0x04 x) (fun w s =>
    hwCheck e hw none (fun s =>
      let a := xAddr w x
      let c := e.val / 8
      (s.setShared c a (storePart (s.sharedAt c a) a (xSize x) (w.r x.xs2.toNat))).wakeLevels) s))

/-- AADDS: word only, atomic (R135, R150). -/
def execAadds (e : Fin 128) (x : XFields) (hw : HwFault) (s : State) : Out :=
  .next (s.slot e true (fun w => w.holdsX 0x05 x) (fun w s =>
    hwCheck e hw (some (false, xAddr w x)) (fun s =>
      let a := xAddr w x
      let c := e.val / 8
      let old := s.sharedAt c a
      ((s.setShared c a (old + w.r x.xs2.toNat)).setRegs e [(x.xd.toNat, old)]).wakeLevels) s))

def execLdq (e : Fin 128) (x : XFields) (hw : HwFault) (s : State) : Out :=
  .next (s.slot e true (fun w => w.holdsX 0x06 x) (fun w s =>
    hwCheck e hw (some (true, xAddr w x)) (fun s => s.setRegs e ((regGroup x.xd.toNat 4).zip ((s.eng e).mem.words (xAddr w x) 4))) s))

def execStq (e : Fin 128) (x : XFields) (s : State) : Out :=
  .next (s.slot e true (fun w => w.holdsX 0x07 x) (fun w s =>
    s.putLocal e (xAddr w x) ((regGroup x.xs2.toNat 4).map w.r)))

/-- FENCE stalls until earlier stores, POSTs and CANCELs are complete (R150); here each completes in its own word, so nothing is
left to wait for. -/
def execFence (e : Fin 128) (x : XFields) (s : State) : Out := .next (s.slot e true (fun w => w.holdsX 0x08 x) (fun _ s => s))

/-! ### Time and identity (R151) -/

def tbrdWord (s : State) (sel : Nat) : Word :=
  if sel = 0 then lo32 s.tb else if sel = 1 then hi32 s.tb else if sel = 2 then s.reg pageTB Off.tb_TICKNUM
  else BitVec.ofNat 32 ((s.now - s.tick.bnd) / 2)

def execTbrd (e : Fin 128) (x : XFields) (s : State) : Out :=
  .next (s.slot e true (fun w => w.holdsX 0x10 x) (fun _ s =>
    s.setRegs e [(x.xd.toNat, tbrdWord s (xArg x 0 3))]))

def idrdWord (s : State) (e sel : Nat) : Word :=
  let c := e / 8
  if sel = 0 then
    BitVec.ofNat 32 (e % 8 + c * 2 ^ 4 + s.role c * 2 ^ 8 + s.epoch (s.role c) * 2 ^ 16 + (s.eng e).task.getD 0 * 2 ^ 24)
  else
    BitVec.ofNat 32 (bit (s.eng e).bank + bit (s.mirrorOn c) * 2 + bit (s.checked e) * 4 + bit (s.checked e && e % 2 == 0) * 8)

def execIdrd (e : Fin 128) (x : XFields) (s : State) : Out :=
  .next (s.slot e true (fun w => w.holdsX 0x11 x) (fun _ s =>
    s.setRegs e [(x.xd.toNat, idrdWord s e (xArg x 0 3))]))

/-! ### Events (R126, R152) -/

/-- POST: the hardware fills in OWNER, EPOCH and CPL; the code and the handle go to g[XD]. -/
def postEntry (e : Nat) (xd : Nat) (ws : List Word) (s : State) : State :=
  let c := e / 8
  let r := s.role c
  let f := entryFields (ws.getD 0 0) (ws.getD 1 0) (ws.getD 2 0) (ws.getD 3 0)
  let code := firstErr (entryErrs f false s ++ [(eOVERFLOW, s.calFull r)])
  if code = eOK then
    let (h, s) := enterEvent f r (s.epoch r) true s
    s.setRegs e [(xd, BitVec.ofNat 32 h)]
  else s.setRegs e [(xd, BitVec.ofNat 32 (code * 2 ^ 24))]

def execPost (e : Fin 128) (x : XFields) (hw : HwFault) (s : State) : Out :=
  .next (s.slot e true (fun w => w.holdsX 0x12 x) (fun w s =>
    hwCheck e hw (some (true, xAddr w x)) (fun s => postEntry e x.xd.toNat ((s.eng e).mem.words (xAddr w x) 4) s) s))

/-- CANCEL of an event by handle (R126). -/
def cancelHandle (e xd h : Nat) (s : State) : State :=
  let res (code : Nat) (s : State) : State := s.setRegs e [(xd, BitVec.ofNat 32 (code * 2 ^ 24))]
  match s.byHandle h with
  | none => res eSTATE s
  | some ev =>
    if ev.owner ≠ s.role (e / 8) then res eACCESS s
    else if ev.st = 2 then res eSTATE s
    else res eOK (s.cancelEv ev evCANCELLED eOK)

def execCancel (e : Fin 128) (x : XFields) (hw : HwFault) (s : State) : Out :=
  .next (s.slot e true (fun w => w.holdsX 0x13 x) (fun w s =>
    hwCheck e hw none (fun s => cancelHandle e x.xd.toNat ((w.r x.xs1.toNat).toNat % 2 ^ 22) s) s))

/-! ### Messages and completions (R153, R154, R175, R176) -/

/-- MSGSEND: refused, or accepted into the cluster's outbound buffer. -/
def sendMsg (e xd : Nat) (addr lo hi : Word) (s : State) : State :=
  let c := e / 8
  let code := firstErr
    [ (eRESERVED, fieldOf addr 14 18 != 0), (eVALUE, fieldOf addr 0 8 == 0),
      (eOVERFLOW, decide (8 ≤ (s.msgs.filter (·.1 == c)).length)) ]
  let sender := BitVec.ofNat 32 (s.epoch (s.role c) + s.role c * 2 ^ 8 + s.devnum * 2 ^ 12)
  let s := if code = eOK then { s with msgs := s.msgs ++ [(c, { addr := addr, sender := sender, lo := lo, hi := hi })] } else s
  (s.setRegs e [(xd, BitVec.ofNat 32 (code * 2 ^ 24))]).setS e (code != eOK)

def execMsgsend (e : Fin 128) (x : XFields) (hw : HwFault) (s : State) : Out :=
  .next (s.slot e true (fun w => w.holdsX 0x14 x) (fun w s =>
    hwCheck e hw none (fun s => sendMsg e x.xd.toNat (w.r x.xs1.toNat) (w.r x.xs2.toNat) (w.r (x.xs2.toNat + 1)) s) s))

def execMsgrecv (e : Fin 128) (x : XFields) (hw : HwFault) (s : State) : Out :=
  .next (s.slot e true (fun w => w.holdsX 0x15 x) (fun _ s => hwCheck e hw none (fun s =>
    let c := e.val / 8
    match (s.clu c).msgq with
    | [] => s.setS e true
    | m :: t =>
      let s := s.setClu c { s.clu c with msgq := t }
      (s.setRegs e ((regGroup x.xd.toNat 4).zip [m.lo, m.hi, m.sender, 0])).setS e false) s))

def execEcrd (e : Fin 128) (x : XFields) (hw : HwFault) (s : State) : Out :=
  .next (s.slot e true (fun w => w.holdsX 0x16 x) (fun _ s => hwCheck e hw none (fun s =>
    let c := e.val / 8
    match (s.clu c).ecq with
    | [] => s.setS e true
    | r :: t =>
      let s := s.setClu c { s.clu c with ecq := t }
      (s.setRegs e ((regGroup x.xd.toNat 4).zip r)).setS e false) s))

/-! ### Doorbells and logs (R155) -/

def execRing (e : Fin 128) (x : XFields) (hw : HwFault) (s : State) : Out :=
  .next (s.slot e true (fun w => w.holdsX 0x17 x) (fun w s =>
    hwCheck e hw none (fun s => s.bell (0x800 + (if xArg x 12 1 = 1 then fieldOf (w.r x.xs1.toNat) 0 11 else xArg x 0 11))) s))

/-- A LOG record of engine software, with the role of its cluster (R155). -/
def writeLog (e id : Nat) (body : List Word) (s : State) : State :=
  let p := pageCL (e / 8)
  let o := engOrigin e
  let full := decide (8 ≤ (s.whey.queued.filter (·.1 == p)).length)
  (s.hand p { s.mkRec 1 o id s.now (s.stampWheel o) body with role := some (s.role (e / 8)) }).setS e full

def execLogw (e : Fin 128) (x : XFields) (hw : HwFault) (s : State) : Out :=
  .next (s.slot e true (fun w => w.holdsX 0x18 x) (fun w s =>
    hwCheck e hw none (writeLog e (xArg x 0 12) ((regGroup x.xs1.toNat 4).map w.r)) s))

/-! ### SHIFT (R157 to R162) -/

/-- A word has the sub-operation of SHIFT (R159). -/
def WordSt.holdsShift (w : WordSt) (op : Nat) (x : XFields) : Bool := w.holdsX 0x19 x && xArg x 11 2 == op

/-- The rejections of a descriptor (R158, R159). -/
def descErrs (c : Nat) (u : ShiftSt) (s : State) : List (Nat × Bool) :=
  let m := s.chcfg c 0 2
  [ (ePOWER, !s.pageOn (chPage c)),
    (eSTATE, (u.receives && m < 2) || (u.transmits && m % 2 == 0)),
    (eRESERVED, fieldOf u.w0 24 8 != 0 || fieldOf u.w0 6 2 != 0 || fieldOf u.w0 14 2 != 0 || fieldOf u.w1 30 2 != 0),
    (eVALUE, decide (5 < u.mode) || decide (32 < u.thresh) ||
      (u.mode != 0 && u.mode != 1 && decide (u.unit < 80)) || (u.mode == 1 && (decide (u.unit < 2400) || decide (72000 < u.unit))) ||
      (u.mode == 1 && (decide (u.frm < 3) || decide (8 < u.frm))) ||
      ((u.mode == 2 || u.mode == 3) && (u.frm == 0 || decide (32 < u.frm))) || (!u.receives && u.frm != 0)) ]

/-- SHIFT CFG: a descriptor in force clears the buffer and the sticky flags; what stalls on the unit ends (R159, R162). -/
def shiftCfg (e xd c : Nat) (w0 w1 : Word) (s : State) : State :=
  let old := s.unit c
  let u : ShiftSt := { w0 := w0, w1 := w1, frames := old.frames }
  let code := firstErr (descErrs c u s)
  let s := if code = eOK then
      let s := failStalls c eSTATE s
      (s.setUnit c { u with line := u.idle }).wakeLevels
    else s
  (s.setRegs e [(xd, BitVec.ofNat 32 (code * 2 ^ 24))]).setS e (code != eOK)

def execCfg (e : Fin 128) (x : XFields) (hw : HwFault) (s : State) : Out :=
  .next (s.slot e true (fun w => w.holdsShift 0 x) (fun w s =>
    hwCheck e hw none (shiftCfg e x.xd.toNat (xChan w x) (w.r x.xs1.toNat) (w.r (x.xs1.toNat + 1))) s))

/-- The engine stalls in SHIFT (R159, R169). -/
def stallShift (e : Nat) (w : ShiftWait) (s : State) : State :=
  let x := s.eng e
  let s := s.setEng e { x with wait := some w }
  match x.task with
  | none => s
  | some t => s.setTask (e / 8) t { s.task (e / 8) t with st := tSTALLED, shiftWait := true }

/-- SHIFT TX of n bits: the unit takes them, or the engine stalls. -/
def shiftTx (e xd c n : Nat) (d : Word) (s : State) : State :=
  let u := s.unit c
  if !u.transmits then (s.setRegs e [(xd, BitVec.ofNat 32 (eSTATE * 2 ^ 24))]).setS e true
  else if u.buf.length + n ≤ 32 then
    ((s.setUnit c { u with buf := u.buf ++ wordBits u.lsbf d n }).setRegs e [(xd, 0)]).setS e false
  else stallShift e { chan := c, tx := true, n := n, xd := xd, data := d, since := s.now } s

def execTx (e : Fin 128) (x : XFields) (hw : HwFault) (s : State) : Out :=
  .next (s.slot e true (fun w => w.holdsShift 1 x) (fun w s =>
    hwCheck e hw none (shiftTx e x.xd.toNat (xChan w x) (xArg x 0 5 + 1) (w.r x.xs1.toNat)) s))

/-- SHIFT RX of n bits: the unit gives them, or the engine stalls. -/
def shiftRx (e xd c n : Nat) (s : State) : State :=
  let u := s.unit c
  if !u.receives then (s.setRegs e [(xd, 0)]).setS e true
  else if n ≤ u.buf.length then
    let v := BitVec.ofNat 32 (bitsVal u.lsbf (u.buf.take n))
    ((s.setUnit c { u with buf := u.buf.drop n }).setRegs e [(xd, v)]).setS e false
  else stallShift e { chan := c, tx := false, n := n, xd := xd, data := 0, since := s.now } s

def execRx (e : Fin 128) (x : XFields) (hw : HwFault) (s : State) : Out :=
  .next (s.slot e true (fun w => w.holdsShift 2 x) (fun w s =>
    hwCheck e hw none (shiftRx e x.xd.toNat (xChan w x) (xArg x 0 5 + 1)) s))

/-- The status word of ST (R159). -/
def shiftStatus (u : ShiftSt) : Word :=
  BitVec.ofNat 32 (u.buf.length + bit u.busy * 2 ^ 8 + bit u.tick.isSome * 2 ^ 9 + bit u.frmErr * 2 ^ 10 + bit u.ovr * 2 ^ 11 +
    bit u.tmo * 2 ^ 12 + u.mode * 2 ^ 13 + u.frames * 2 ^ 16)

def execSt (e : Fin 128) (x : XFields) (hw : HwFault) (s : State) : Out :=
  .next (s.slot e true (fun w => w.holdsShift 3 x) (fun w s => hwCheck e hw none (fun s =>
    let c := xChan w x
    let u := s.unit c
    let s := s.setUnit c { u with frmErr := false, ovr := false, tmo := false }
    (s.setRegs e [(x.xd.toNat, shiftStatus u)]).setS e false) s))

/-! ### Samples and captures (R156) -/

/-- SMPRD: a word, or a quad; a sample memory whose domain is not ON reads 0. -/
def sampleRead (e xd a : Nat) (quad : Bool) (s : State) : State :=
  let v := (if quad then s.smem.words a 4 else [s.smem.word a]).map (fun v => if s.dst 86 == 0 then v else 0)
  s.setRegs e ((regGroup xd 4).zip v)

def execSmprd (e : Fin 128) (x : XFields) (hw : HwFault) (s : State) : Out :=
  .next (s.slot e true (fun w => w.holdsX 0x1A x) (fun w s =>
    hwCheck e hw none (sampleRead e x.xd.toNat (xAddr w x) (xArg x 0 1 == 1)) s))

/-- CAPRD: the popped entry; where nothing is popped, the two words of the TB stamp are values that the spec leaves open. -/
def capRead (e xd c : Nat) (s : State) : State :=
  let quad (a b ang fl : Word) (sf : Bool) (s : State) : State :=
    (s.setRegs e [(xd, a), (xd + 1, b), (xd + 2, ang), (xd + 3, fl)]).setS e sf
  let empty (code : Nat) (s : State) : State :=
    let (a, s) := s.drawn
    let (b, s) := s.drawn
    quad a b 0 (BitVec.ofNat 32 (code * 2 ^ 24)) true s
  if !s.pageOn (chPage c) then empty ePOWER s
  else match popCapture c s with
    | (none, s) => empty eOK s
    | (some k, s) =>
      quad (BitVec.ofNat 32 k.tb) (BitVec.ofNat 32 (k.tb / 2 ^ 32)) (k.ang.getD 0)
        (BitVec.ofNat 32 (1 + bit k.pol * 2 + bit k.ang.isSome * 4 + (s.chan c).capq.length * 8)) false s

def execCaprd (e : Fin 128) (x : XFields) (hw : HwFault) (s : State) : Out :=
  .next (s.slot e true (fun w => w.holdsX 0x1B x) (fun w s => hwCheck e hw none (capRead e x.xd.toNat (xChan w x)) s))

/-! ### Giving up the engine (R144) -/

/-- DONE, YIELD and WAITEV end their word, once its A slot has acted. -/
def ctlOp (e code : Nat) (x : XFields) (n : CtlNext) (hw : HwFault) (op : WordSt → TaskCtl) (s : State) : State :=
  s.slot e true (fun w => w.aDone && w.holdsX code x && w.holdsN n.nxt.toNat n.n) (fun w s =>
    hwCheck e hw none (fun s =>
      match nextAddr (s.eng e) n.nxt.toNat n.n (condHolds w.fl n.n.cond) with
      | .check cls => machineCheck e cls s
      | .go pc stack => endWord e pc stack true (op w) s) s)

def execDone (e : Fin 128) (x : XFields) (n : CtlNext) (hw : HwFault) (s : State) : Out :=
  .next (ctlOp e 0x1C x n hw (fun _ => .done) s)
def execYield (e : Fin 128) (x : XFields) (n : CtlNext) (hw : HwFault) (s : State) : Out :=
  .next (ctlOp e 0x1D x n hw (fun _ => .yield) s)
def execWaitev (e : Fin 128) (x : XFields) (n : CtlNext) (hw : HwFault) (s : State) : Out :=
  .next (ctlOp e 0x1E x n hw (fun w => .waitev (waitMask w x)) s)

/-! ### Mirror fetch (R138, R165) -/

/-- A fetch that fails parity (R165): in mirror mode a mirror word that passes takes its place, and the failing word is handed to
Press and logged; else MC_PARITY. A word that passes parity is fetched without this. -/
def mirrorFetch (e : Nat) (s : State) : State :=
  let c := e / 8
  let x := s.eng e
  if !s.issues e ∨ x.word.isSome ∨ x.run = 64 ∨ parityOk (s.activeWord e) then s
  else if s.mirrorOn c ∧ parityOk (s.mirrorWord e) then
    let s := s.log (pageCL c) (engOrigin e) 0x002 s.now
      [BitVec.ofNat 32 (x.pc + bit x.bank * 2 ^ 12 + c * 2 ^ 16 + e % 8 * 2 ^ 20)]
    let s := if s.press.repair.length < 16 then { s with press := { s.press with repair := s.press.repair ++ [(c, x.bank, x.pc)] } }
      else s.addSat pagePRESS Off.press_REPSTAT 24 8 1
    s.setEng e { s.eng e with word := some { m := s.mirrorWord e, g := x.g, fl := x.fl } }
  else machineCheck e mcPARITY s

def execMirrorFetch (e : Fin 128) (s : State) : Out := .next (mirrorFetch e s)

end Sys2Proof.Machine
end

