-- ==== Sys2Proof/Machine/Cluster.lean ====
section
/-! DEFINITION. Clusters: the tick's guard and comparator tests, overruns, roles, messages and bounces, event completions, task
commands, the machine-check log (R26 to R28, R129, R166 to R182, R186, R190, R192). -/

namespace Sys2Proof.Machine

/-! ### The guard and overruns (R26 to R28) -/

/-- An engine has a task RUNNING. -/
def State.running? (s : State) (e : Nat) : Bool :=
  match (s.eng e).task with
  | some t => (s.task (e / 8) t).st == tRUNNING && !s.trails e
  | none => false

/-- One engine overran: source 0x002, ALARM, the overrun count (R27). -/
def overrun (e : Nat) (s : State) : State :=
  let c := e / 8
  let t := (s.eng e).task.getD 0
  let s := (s.bell 0x002).alarm (cluOrigin c) 0x001 s.now
    [BitVec.ofNat 32 (e % 8 + c * 2 ^ 4 + t * 2 ^ 8), s.reg pageTB Off.tb_TICKNUM]
  let s := (s.addSat (pageCL c) Off.cl_OVRCNT 0 16 1).intSet (pageCL c) 16
  let x := s.eng e
  s.setEng e { x with overrun := true, halted := decide (x.run = 0) && x.word.isNone }

/-- Cycle P − 64: dispatch stops, and in the modes that dispatch every engine with a task RUNNING has overrun (R26, R27, R327). -/
def tickGuard (s : State) : State :=
  let s := s.upTo (s.tick.bnd + 2 * (s.tick.len - 64))
  let s := { s with tick := { s.tick with guard := true } }
  if s.serving then (s.engs.map (·.1)).foldl (fun s e => if s.running? e then overrun e s else s) s else s

def execTickGuard (s : State) : Out := .next (tickGuard s)

/-- At the boundary the tasks of engines that overran end CANCELLED (R27); every engine that stood still may dispatch again. -/
def abandonOverruns (s : State) : State :=
  (s.engs.map (·.1)).foldl (fun s e =>
    let x := s.eng e
    let s := if x.overrun then
        match x.task with
        | some t => freeEngine e (endTask (e / 8) t (abortShift e s))
        | none => s
      else s
    s.setEng e { s.eng e with overrun := false, halted := false }) s

/-! ### Checkers (R181, R182) -/

/-- A cluster takes its role. -/
def takeRole (c : Nat) (s : State) : State :=
  { s.setClu c { s.clu c with holds := true } with lastHeld := s.lastHeld.set 0 (s.role c) (c + 1) }

/-- An ACTIVE cluster whose role waited for its comparator self-test takes it once the test has passed (R182). -/
def lateRole (c : Nat) (s : State) : State :=
  if !(s.clu c).testFail && !(s.clu c).holds && !s.flag (pageCL c) Off.cl_ROLECFG 8 && (s.holder (s.role c)).isNone
  then takeRole c s else s

/-- Cycle P − 32: the comparator of every checked pair is tested; `failed` names those that do not flag the forced difference
(R181). The outcome of the last test also decides whether a spare qualifies (R373). -/
def comparatorSelftest (failed : List (Nat × Nat)) (s : State) : State :=
  let s := s.upTo (s.tick.bnd + 2 * (s.tick.len - 32))
  (List.range 16).foldl (fun s c =>
    let bad := failed.filter (fun f => f.1 == c)
    let s := if (s.clu c).testFail = !bad.isEmpty then s else s.setClu c { s.clu c with testFail := !bad.isEmpty }
    if s.active (pageCL c) then bad.foldl (fun s f => checkerLost c f.2 1 s) (lateRole c s)
    else if s.st (pageCL c) = stSPARE ∧ !bad.isEmpty then s.blockFault (pageCL c) else s) s

/-- The delay registers of a pair fail parity: a checker fault only (R181, R182). -/
def execDelayRegisterParityError (c : Fin 16) (p : Fin 4) (s : State) : Out :=
  .next (if s.active (pageCL c) then checkerLost c p 2 s else s)

/-! ### Roles (R166, R167) -/

/-- A cluster gives its role up. -/
def dropRole (c : Nat) (s : State) : State := s.setClu c { s.clu c with holds := false }

/-- The cluster that last held a role. -/
def State.homeOf (s : State) (r : Nat) : Nat := match s.lastHeld.get 0 r with | 0 => r | n => n - 1

/-- The epoch after a move: 255 is followed by 1 (R167). -/
def nextEpoch (n : Nat) : Nat := if 255 ≤ n then 1 else n + 1

/-! ### Bounces (R177) -/

/-- A bounce at the cluster that holds the sender role: the entry, then TAIL; a full ring discards it. -/
def bounceIn (c : Nat) (ws : List Word) (s : State) : State :=
  let b := s.bncBase c
  let t := (s.sharedAt c b).toNat % 16
  if BitVec.ofNat 32 ((t + 1) % 16) = s.sharedAt c (b + 4) then
    (s.addSat (pageCL c) Off.cl_BNCLOST 0 16 1).intSet (pageCL c) 21
  else
    let s := ws.zipIdx.foldl (fun s x => s.setShared c (b + 16 + 16 * t + 4 * x.2) x.1) s
    ((s.setShared c b (BitVec.ofNat 32 ((t + 1) % 16))).intSet (pageCL c) 20).wakeLevels

/-- A bounce reaches the device of its sender role. -/
def bounceLocal (r : Nat) (ws : List Word) (s : State) : State :=
  match s.holder r with
  | some c => bounceIn c ws s
  | none => s.lose 3 (cluOrigin (s.homeOf r)) true 0x020 1 s.now

/-- The port that leads to a device, if it carries frames. -/
def State.portTo (s : State) (d : Nat) : Option Nat :=
  let p := if s.devnum < d then 1 else 0
  if s.portUp p then some p else none

/-- The destination role's present epoch that a bounce shows, 0 where no cluster holds it (R177). Of a role of another device of the chain
only that device knows it: a free value here. -/
def bounceEpoch (addr : Word) (s : State) : Nat × State :=
  let dr := fieldOf addr 8 4
  let dev := fieldOf addr 12 2
  if dev = s.devnum then (if (s.holder dr).isSome then s.epoch dr else 0, s)
  else if s.lastDev < dev then (0, s)
  else (s.drawn.1.toNat % 2 ^ 8, s.drawn.2)

/-- A message is bounced to its sender with a code (R177, R318); the bounce shows the present epoch of its destination role. A
bounce whose path is not UP is lost as one without a holder is. -/
def bounce (m : Msg) (code : Nat) (s : State) : State :=
  let (ep, s) := bounceEpoch m.addr s
  let ws := [m.lo, m.hi, m.addr, BitVec.ofNat 32 (code + ep * 2 ^ 8)]
  let r := fieldOf m.sender 8 4
  let d := fieldOf m.sender 12 2
  if d = s.devnum then bounceLocal r ws s
  else match s.portTo d with
    | some p => s.idxSend p (BitVec.ofNat 2 s.devnum) (BitVec.ofNat 2 d) false (.bounce ws (BitVec.ofNat 4 r))
    | none => s.lose 3 (cluOrigin (s.homeOf r)) true 0x020 1 s.now

/-! ### Delivery (R176) -/

/-- The checks at the destination device: holder, epoch, room. -/
def deliver (m : Msg) (s : State) : State :=
  let r := fieldOf m.addr 8 4
  match s.holder r with
  | none => bounce m eSTATE s
  | some c =>
    if fieldOf m.addr 0 8 ≠ s.epoch r then
      let ep := s.epoch r
      let s := s.log (pageCL c) (cluOrigin c) 0x003 s.now [m.lo, m.hi, m.addr, BitVec.ofNat 32 (eEPOCH + ep * 2 ^ 8)]
      bounce m eEPOCH s
    else if 32 ≤ (s.clu c).msgq.length then bounce m eOVERFLOW s
    else (s.setClu c { s.clu c with msgq := (s.clu c).msgq ++ [m] }).wakeLevels

/-- The oldest accepted message leaves its outbound buffer: to its role here, or towards its device (R176, R310, R318). -/
def messageDelivery (s : State) : State :=
  match s.msgs with
  | [] => s
  | (_, m) :: t =>
    let s := { s with msgs := t }
    let d := fieldOf m.addr 12 2
    if d = s.devnum then deliver m s
    else match s.portTo d with
      | some p => s.idxSend p (BitVec.ofNat 2 s.devnum) (BitVec.ofNat 2 d) false (.msg m.addr m.sender [m.lo, m.hi])
      | none => bounce m eSTATE (if d ≤ s.lastDev then s.addSat (pageIDX (bit (decide (s.devnum < d)))) Off.idx_MSGBNC 0 16 1 else s)

def execMessageDelivery (s : State) : Out := .next (messageDelivery s)

/-! ### Event completions of roles (R127, R129, R174) -/

/-- The oldest ended event of a role is recorded in the queue of its holder, if that has room; its entry is free with it. -/
def engineEventCompletion (r : Nat) (s : State) : State :=
  match s.holder r, sortBy (fun x y => x.fin < y.fin) (s.cal.evs.filter (fun e => e.st == 2 && e.owner == r)) with
  | some c, e :: _ =>
    if 256 ≤ (s.clu c).ecq.length then s
    else
      let s := s.setClu c { s.clu c with ecq := (s.clu c).ecq ++ [engineRecord e (s.epoch r)] }
      let s := if (s.clu c).ecq.length = 256 then s.intSet (pageCL c) 22 else s
      (s.dropEv e.slot).wakeLevels
  | _, _ => s

def execEngineEventCompletion (role : Fin 16) (s : State) : Out := .next (engineEventCompletion role s)

/-! ### Commands of a CL page (R186, R192) -/

def clActive (q : Req) (s : State) : List (Nat × Bool) := [(eSTATE, s.st q.page.toNat != stACTIVE)]

def State.taskSel (s : State) (p : Nat) : Nat := s.fld p Off.cl_TASKSEL 0 8

def taskReady : Cmd where
  errs q s := clActive q s ++ [(eSTATE, !s.taskOn (pageInst q.page.toNat) (s.taskSel q.page.toNat))]
  run q s := (readyTask (pageInst q.page.toNat) (s.taskSel q.page.toNat) s).finish q.page.toNat 0x40 {}

def taskCancel : Cmd where
  errs q s := clActive q s
  run q s := (cancelTask (pageInst q.page.toNat) (s.taskSel q.page.toNat) s).finish q.page.toNat 0x41 {}

def shiftAbort : Cmd where
  errs q s := clActive q s
  run q s :=
    let c := pageInst q.page.toNat
    let sel := s.fld q.page.toNat Off.cl_ENGSEL 0 8
    let l := (List.range 8).filter (fun i => bitOf sel i && (s.eng (8 * c + i)).wait.isSome)
    let s := l.foldl (fun s i => abortShift (8 * c + i) s) s
    s.finish q.page.toNat 0x42 { res := [BitVec.ofNat 32 ((l.map (2 ^ ·)).sum)] }

/-- MCLOGPOP discards the head entry (R190). -/
def mclogPop (c : Nat) (data : Word) (s : State) : State :=
  if fieldOf data 0 1 = 1 then s.setClu c { s.clu c with mclog := (s.clu c).mclog.drop 1 } else s

/-! ### At boundaries -/

/-- An occurrence of a WAITEV mask bit in every cluster: 2 the tick boundary, 3 the ready point (R144). -/
def wakeAll (i : Nat) (s : State) : State := (s.clus.map (·.1)).foldl (fun s c => s.wakeBit c i) s

/-- TICKRDY: every such task of an ACTIVE cluster that serves gets a ready request (R168). -/
def tickReady (s : State) : State :=
  if !s.serving then s else
  s.regs.foldl (fun s e =>
    let p := e.1 / 4096
    let o := e.1 % 4096
    if 0x080 ≤ p ∧ p < 0x090 ∧ 0x040 ≤ o ∧ o < 0x440 ∧ fieldOf e.2 15 2 = 3 ∧ s.active (pageCL (p - 0x080)) ∧ (s.clu (p - 0x080)).holds
    then readyTask (p - 0x080) ((o - 0x040) / 4) s else s) s

/-- A cluster leaves service: every task is cancelled, its engines stand idle (R169). -/
def cancelCluster (c : Nat) (s : State) : State :=
  let s := (List.range 8).foldl (fun s i => freeEngine (8 * c + i) (abortShift (8 * c + i) s)) s
  ((s.clu c).tasks.map (·.1)).foldl (fun s t => if (s.task c t).st = tIDLE then s else endTask c t s) s

/-- RESET_BLOCK or a domain reset of the cluster: its queues, tasks and log are empty, its engines at reset; `mem` the memories
too (R342). CHECKER_LOST ends, but the comparator self-test has to pass before the cluster can take a role (R182). -/
def resetCluster (c : Nat) (mem : Bool) (s : State) : State :=
  let x := s.clu c
  let s := { s with msgs := s.msgs.filter (fun m => m.1 != c) }
  let s := (List.range 8).foldl (fun s i =>
    let e := 8 * c + i
    let y := s.eng e
    { s with engs := s.engs.set {} e { mem := if mem then [] else y.mem, bank := y.bank } }) s
  let lost := (List.range 4).any (fun p => s.pairHeld c p == 2)
  s.setClu c { shared := if mem then [] else x.shared, testFail := x.testFail || lost }

/-! ### Views (R190, R191) -/

def clstatWord (s : State) (c : Nat) : Word :=
  let h := (s.clu c).holds
  BitVec.ofNat 32 ((if h then s.role c + 16 + s.epoch (s.role c) * 2 ^ 8 else 0) + bit (s.eng (8 * c)).bank * 2 ^ 5 +
    bit (s.mirrorOn c) * 2 ^ 6)

def pairstatWord (s : State) (c : Nat) : Word :=
  let w := s.reg (pageCL c) Off.cl_PAIRSTAT
  (List.range 4).foldl (fun w p => withField w (4 * p) 2 (s.pairState c p)) w

/-- An engine is stopped: by an overrun, a machine check or a core fault, or at its boundary by HALT or the FAULT of its cluster. -/
def State.stopped (s : State) (e : Nat) : Bool :=
  let x := s.eng e
  x.halted || x.held.isSome || (x.atBoundary && (s.md == mHALT || s.st (pageCL (e / 8)) == stFAULT))

/-- A trailer whose pair is CHECKER_LOST or in PAIRFAULT is stopped; else it trails (R180, R182, R190). -/
def engCode (s : State) (e : Nat) : Nat :=
  let x := s.eng e
  if s.trails e then (if s.pairHeld (e / 8) (e % 8 / 2) = 0 then 4 else 3) else if s.stopped e then 3 else if x.wait.isSome then 2 else if x.task.isSome then 1 else 0

def engstatWord (s : State) (c : Nat) : Word :=
  BitVec.ofNat 32 (((List.range 8).map (fun i =>
    (engCode s (8 * c + i) + 8 * bit ((s.eng (8 * c + i)).bank != (s.eng (8 * c)).bank)) * 2 ^ (4 * i))).sum)

def msgstatWord (s : State) (c : Nat) : Word :=
  BitVec.ofNat 32 ((s.clu c).msgq.length + (s.msgs.filter (·.1 == c)).length * 2 ^ 8 + (s.clu c).ecq.length * 2 ^ 16)

def mclogWord (s : State) (c : Nat) : Word :=
  match (s.clu c).mclog with
  | [] => 0
  | e :: _ => BitVec.ofNat 32 (e.1 + 2 ^ 23)

def mclogTb (s : State) (c : Nat) : Nat := match (s.clu c).mclog with | [] => 0 | e :: _ => e.2

def taskstWord (s : State) (c t : Nat) : Word :=
  let k := s.task c t
  BitVec.ofNat 32 (k.st + bit k.shiftWait * 8 + k.rdy * 2 ^ 8 + k.resume * 2 ^ 16)

def taskwWord (s : State) (c t : Nat) : Word := BitVec.ofNat 32 ((s.task c t).mask + (s.task c t).runs * 2 ^ 16)

end Sys2Proof.Machine
end

