-- ==== Sys2Proof/Machine/CryptoOps.lean ====
section
/-! DEFINITION. Byte strings over which Rind, Press and the Idxia ports form hashes and tags (R351, R357). -/

namespace Sys2Proof.Machine

/-- A byte string read least significant first. -/
def leVal (bs : List Byte) : Nat := bs.foldr (fun b n => b.toNat + 256 * n) 0

/-- A byte string read most significant first. -/
def beVal (bs : List Byte) : Nat := bs.foldl (fun n b => b.toNat + 256 * n) 0

/-- A hash and a tag as byte strings. -/
def hashBytes (bs : List Byte) : List Byte := beBytes 32 (Config.sha256 bs).toNat
def macBytes (k : BitVec 128) (bs : List Byte) : List Byte := beBytes 16 (Config.aesCmac k bs).toNat

/-- Bytes from an offset. -/
def sliceOf (bs : List Byte) (off n : Nat) : List Byte := (bs.drop off).take n

/-- The team key identity: the first 8 bytes of the CMAC over 16 zero bytes (R351). -/
def teamKid (k : BitVec 128) : List Byte := (macBytes k (List.replicate 16 0)).take 8

end Sys2Proof.Machine
end

