-- ==== Sys2Proof/Machine/Predictor.lean ====
section
/-! DEFINITION. The angle predictor: the model of each wheel and the maps that it publishes at cycle 128 (R118 to R121, R132). -/

namespace Sys2Proof.Machine

/-- θ(t) = θ2 + ω2 × (t − t2) + a × (t − t2)² / 2, in AC and TB LSBs (R118). -/
structure Model where
  t2 : Nat
  th2 : Int
  w2 : Rat
  a : Rat
  first : Bool

def Model.at (m : Model) (t : Nat) : Rat :=
  let d : Rat := (((t : Int) - (m.t2 : Int) : Int) : Rat)
  (m.th2 : Rat) + m.w2 * d + m.a * d * d / 2

/-- 1 rpm in AC per TB LSB (R8, R89). -/
def rpmUnit (revAc : Nat) : Rat := (revAc : Rat) / 48000000000

/-- The mean speed between two edges. -/
def edgeSpeed (e1 e2 : WEdge) : Rat := ((e2.u - e1.u : Int) : Rat) / (((e2.tb : Int) - (e1.tb : Int) : Int) : Rat)

/-- The 50 rpm floor (R118): `wb` the speed in the middle of the last period, `a` the acceleration, over [b, e). It answers the
acceleration that is left, and whether the speed itself is taken as the floor. -/
def speedFloor (wmin wb a mid b e : Rat) : Rat × Bool :=
  if wmin ≤ wb + a * ((if a < 0 then e else b) - mid) then (a, false)
  else if wb < wmin then (0, true)
  else ((wmin - wb) / (e - mid), false)

/-- The model of a wheel in FULL_SYNC from its newest published edges, newest first (R118). `b` and `e` bound interval n+1. -/
def fullModel (s : State) (u : Nat) (b e : Nat) : Option Model :=
  let unit := rpmUnit (s.revAc u)
  let build (e2 e1 : WEdge) (a : Rat) (first : Bool) : Model :=
    let wb := edgeSpeed e1 e2
    let mid : Rat := ((e1.tb + e2.tb : Nat) : Rat) / 2
    let (a, low) := speedFloor (50 * unit) wb a mid (b : Rat) (e : Rat)
    { t2 := e2.tb, th2 := e2.u, w2 := if low then 50 * unit else wb + a * ((e2.tb : Rat) - mid), a := a, first := first }
  match (s.wheel u).pubs with
  | e2 :: e1 :: e0 :: _ =>
    let a := (edgeSpeed e1 e2 - edgeSpeed e0 e1) / ((((e2.tb : Int) - (e0.tb : Int) : Int) : Rat) / 2)
    let lim : Rat := (s.fld pageANG Off.ang_PREDCFG 8 8 : Rat) * 1000 * unit / 800000000
    let a := if lim = 0 then a else if lim < a then lim else if a < -lim then -lim else a
    some (build e2 e1 (if s.flag pageANG Off.ang_PREDCFG u then a else 0) false)
  | [e2, e1] => some (build e2 e1 0 true)
  | _ => none

/-- The model of a wheel in CAM_ONLY: the newest matched cam edge and the speed of the last cam interval (R98, R120). -/
def camModel (s : State) (u : Nat) : Option Model :=
  match camSteps ((s.wheel u).cams.filter (fun c => decide (c.tb < s.tick.bnd))) with
  | c1 :: c0 :: _ =>
    some { t2 := c1.tb, th2 := c1.pos, w2 := ((c1.pos - c0.pos : Int) : Rat) / (((c1.tb : Int) - (c0.tb : Int) : Int) : Rat),
           a := 0, first := true }
  | _ => none

/-- The model that serves wheel u: its unit's, with the cycles of a twin takeover (R118, R120, R376). -/
def predict (s : State) (u b e : Nat) : Option Model :=
  let (v, d) := ({ s with twins := s.twinDue ++ s.twins } : State).serve u
  let w := s.wheel v
  let m :=
    if !s.active (pageWU v) then none
    else if !(w.state == wFULL || w.state == wCAM) then none
    else if w.pubState = wFULL then
      match fullModel s v b e with
      | some m => some { m with th2 := m.th2 + w.base }
      | none => none
    else if w.pubState = wCAM then camModel s v
    else none
  match m with
  | some m => some { m with th2 := m.th2 + d * 2 ^ 24 }
  | none => none

/-- Endpoints of the eight segments of an interval (R119). -/
def segTimes (b e : Nat) : List Nat := (List.range 9).map (fun i => b + i * (e - b) / 8)

/-- The angles at the endpoints with δ spread over the interval (R119). -/
def segAngles (m : Model) (ts : List Nat) (delta : Rat) : List Int :=
  ts.zipIdx.map (fun x => (m.at x.1 + delta * ((8 - x.2 : Nat) : Rat) / 8).floor)

/-- The held slopes in 8.24 format, rounded down (R119). -/
def segSlopes (ts : List Nat) (th : List Int) : List Nat :=
  ((ts.zip ts.tail).zip (th.zip th.tail)).map (fun x => ((x.2.2 - x.2.1) * 2 ^ 24 / ((x.1.2 - x.1.1 : Nat) : Int)).toNat)

/-- Every segment rises by at least 1 AC. -/
def rises (th : List Int) : Bool := (th.zip th.tail).all (fun x => decide (x.1 + 1 ≤ x.2))

/-- The nearest integer, halves up. -/
def nearest (r : Rat) : Int := (r + 1 / 2).floor

/-- A map with the δ that it absorbs, and the δ that it jumps over (R119). -/
structure MapMade where
  map : AMap
  delta : Rat
  jump : Option Rat

/-- The map of a model over an interval, given the end angle of the map before it where it must meet that (R119). -/
def makeMap (m : Model) (b e : Nat) (prev : Option Int) (jumpMax : Nat) : MapMade :=
  let ts := segTimes b e
  let build (d : Rat) : AMap := let th := segAngles m ts d; { t := ts, th := th, slope := segSlopes ts th }
  match prev with
  | none => { map := build 0, delta := 0, jump := none }
  | some a =>
    let d : Rat := (a : Rat) - m.at b
    if (jumpMax : Rat) < (if d < 0 then -d else d) ∨ !rises (segAngles m ts d) then { map := build 0, delta := 0, jump := some d }
    else { map := build d, delta := d, jump := none }

/-- The MAP frame of a published map (R317). -/
def mapFrame (s : State) (u : Nat) (m : AMap) (first jump : Bool) : Payload :=
  .map { unit := BitVec.ofNat 3 u, state := BitVec.ofNat 3 (s.wheel (s.serve u).1).state, aligned := s.aligned,
         cyc := BitVec.ofInt 8 (m.start / 2 ^ 24), bstart := BitVec.ofNat 64 m.tStart, th := m.th.map angWord,
         first := first, jump := jump }

/-- The ANG1 registers of a wheel after a map was published, or was not (R120, R132). -/
def showMap (s : State) (u e : Nat) (m : Model) (x : MapMade) : State :=
  let p := pageANG1
  let a := x.map
  let acc := nearest (m.a * 800000000 / rpmUnit (s.revAc u))
  let s := s.setReg p (Off.angMap_MAPSTAT u)
    (BitVec.ofNat 32 (1 + bit x.jump.isSome * 2 + bit m.first * 4 + (a.start / 2 ^ 24 % 256).toNat * 2 ^ 8))
  let s := s.setReg64 p (Off.angMap_MAPT0_LO u) (Off.angMap_MAPT0_HI u) a.tStart
  let s := s.setReg p (Off.angMap_MAPA0 u) (angWord a.start)
  let s := s.setReg p (Off.angMap_MAPA1 u) (angWord a.stop)
  let s := s.setReg p (Off.angMap_SLOPE u) (BitVec.ofNat 32 (a.slope.headD 0))
  let s := s.setReg p (Off.angMap_ACCEST u) (BitVec.ofNat 32 (unsigned 32 acc))
  let s := s.setReg p (Off.angMap_HORIZ u) (BitVec.ofNat 32 (min (e - m.t2) 0xFFFFFFFF))
  s.setReg p (Off.angMap_DELTA u) (BitVec.ofNat 32 (unsigned 32 (nearest x.delta)))

/-- The map of one wheel for interval n+1 is published, or is not (R118 to R120). An importing unit takes its maps at boundaries
instead (R317). -/
def publishWheel (u b e : Nat) (s : State) : State :=
  if s.imports u then s else
  let ms := s.mapOf u
  match predict s u b e with
  | none =>
    let s := s.setFld pageANG1 (Off.angMap_MAPSTAT u) 0 1 0
    (s.setMap u { ms with nxt := none, chained := false }).setWheel u { s.wheel u with mapValid := false }
  | some m =>
    let x := makeMap m b e (if ms.chained then ms.lastEnd else none) (s.fld pageANG Off.ang_PREDCFG 16 16)
    let s := s.setMap u { ms with nxt := some x.map, chained := true, lastEnd := some x.map.stop }
    let s := s.setWheel u { s.wheel u with mapValid := true }
    let s := showMap s u e m x
    let s := match x.jump with
      | none => s
      | some d =>
        (s.intSet pageANG 21).log pageANG (0x1B0 + u) 0x004 b [BitVec.ofNat 32 (unsigned 32 (nearest d))]
    let s := if s.exported u then s.idxCast (mapFrame s u x.map m.first x.jump.isSome) else s
    resolveHeld u (resampleMap u x.map (x.jump.isSome || !ms.chained) s)

/-- Cycle 128: the maps for interval n+1 of all wheels (R19, R119). -/
def mapPublish (s : State) : State :=
  let s := s.upTo (s.tick.bnd + 256)
  let b := s.tick.next
  let e := s.boundaryAfter b
  (List.range 8).foldl (fun s u => publishWheel u b e s) s

def execMapPublish (s : State) : Out := .next (mapPublish s)

/-- The cycle count of a wheel's present map. -/
def State.mapCycle (s : State) (u : Nat) : Option Int := (s.mapOf u).cur.map (fun m => m.start / 2 ^ 24)

/-- Two units that both publish at a boundary: how far their cycle counts lie apart is kept (R376). -/
def keepCycles (s : State) : State :=
  let on := (List.range 8).filterMap (fun u => (s.mapCycle u).map (fun c => (u, c)))
  { s with cycDiff := on.foldl (fun m a => on.foldl (fun m b => m.set 0 (8 * a.1 + b.1) (a.2 - b.2)) m) s.cycDiff }

/-- At a boundary the map that was published becomes that of the present interval (R19). A wheel whose map is missing starts
again without δ. -/
def mapsTurn (s : State) : State :=
  (List.range 8).foldl (fun s u =>
    let m := s.mapOf u
    s.setMap u { m with prv := m.cur, cur := m.nxt, nxt := none, chained := m.chained && m.nxt.isSome }) s

end Sys2Proof.Machine
end

