-- ==== Sys2Proof/Machine/Pwm.lean ====
section
/-! DEFINITION. PWM modules, trip inputs and the crossbar (R240 to R261). -/

namespace Sys2Proof.Machine

/-- The logical module that a module serves (R254). -/
def State.logical (s : State) (m : Nat) : Nat := (s.pwm m).sub.getD m

/-- The module that serves a logical module: MODMAP (R254). -/
def State.modMap (s : State) (l : Nat) : Nat := s.fld pagePINMUX1 (Off.pinmuxX_MODMAP l) 0 4

def State.pairCfg (s : State) (m p i : Nat) : Bool := s.flag (pagePWM m) (Off.pwm_PAIRCFG p) i

/-- HALF of the PER in force (R240). -/
def PwmMod.half (x : PwmMod) : Nat := (x.per + 1) / 2

/-! ### Outputs (R243, R246) -/

/-- The channel outputs; a module that is not ACTIVE shows none. -/
def State.pwmOut (s : State) (m : Nat) : List Bool :=
  let x := s.pwm m
  if !s.active (pagePWM m) then List.replicate 8 false else
  (List.range 4).flatMap (fun p =>
    let k := x.pairs.getD p {}
    let inv := s.pairCfg m p 2
    if k.cut && s.pairCfg m p 3 then [inv, inv] else
    let o := if s.pairCfg m p 0 then (k.h, k.l) else (x.ref.getD (2 * p) false, x.ref.getD (2 * p + 1) false)
    let o := if s.pairCfg m p 1 then (o.2, o.1) else o
    [o.1 != inv, o.2 != inv])

/-- The outputs of a pair at a clock: each is 1 when its phase of R has lasted for more than the dead time (R243). -/
def PwmPair.at (k : PwmPair) (r : Bool) (dt f : Nat) : PwmPair :=
  { k with h := r && decide (k.since + 2 * dt ≤ f), l := !r && decide (k.since + 2 * dt ≤ f) }

/-- The references take new values in the clock `f`; the pairs follow. -/
def PwmMod.setRefs (x : PwmMod) (ref : List Bool) (f : Nat) : PwmMod :=
  { x with
    ref := ref,
    pairs := x.pairs.zipIdx.map (fun k =>
      let r := ref.getD (2 * k.2) false
      ({ k.1 with since := if x.ref.getD (2 * k.2) false = r then k.1.since else f } : PwmPair).at r (x.dt.getD k.2 0) f) }

/-- An update of a module in the clock `f`, with the edges of its outputs as events for converters (R244). -/
def pwmUpdate (m f : Nat) (g : State → State) (s : State) : State :=
  let old := s.pwmOut m
  let s := g s
  (old.zip (s.pwmOut m)).zipIdx.foldl (fun s e =>
    if e.1.1 = e.1.2 then s else s.triggerSrc 3 (if e.1.2 then 2 else 3) (8 * s.logical m + e.2) f) s

/-! ### Trips (R245 to R248) -/

/-- The blanking that a channel gives to the modules in the TB clock `t`: of a clock before the present one as it was then (R82,
R247). -/
def State.blankSig (s : State) (c t : Nat) : Bool :=
  match ((s.chan c).blanks.filter (fun b => decide (t < b.1))).getLast? with
  | some b => b.2
  | none => s.counting c && s.blankingAt c t

/-- The blanking signals that an event has changed are kept as they were before it. -/
def keepBlanks (old s : State) : State :=
  (List.range 10).foldl (fun s m =>
    let c := s.fld (pagePWM m) Off.pwm_BLKCFG 0 8
    let was := old.counting c && old.blanking c
    if !s.flag (pagePWM m) Off.pwm_BLKCFG 8 || was == (s.counting c && s.blanking c) || (s.chan c).blanks != (old.chan c).blanks then s
    else s.setChan c { s.chan c with blanks := ((s.now, was) :: (s.chan c).blanks).take 4 }) s

/-- A module's blanking in the TB clock of an engine clock's edge (R247). -/
def State.pwmBlank (s : State) (m t : Nat) : Bool :=
  s.flag (pagePWM m) Off.pwm_BLKCFG 8 && s.blankSig (s.fld (pagePWM m) Off.pwm_BLKCFG 0 8) t

/-- The first edge of a module's engine clock at or after the present TB clock. -/
def State.pwmEdge (s : State) (m : Nat) : Nat := s.now + (s.now + (s.pwm m).t) % 2

/-- A trip selected by a pair is asserted and unblanked in that engine clock. -/
def State.tripped (s : State) (m p : Nat) : Bool :=
  (s.reg (pagePWM m) (Off.pwm_TRIPSEL p) &&& s.reg pageTRIP Off.trip_TRIPLVL) != 0 && !s.pwmBlank m (s.pwmEdge m)

/-- In the engine clock before the edge `f` a trip selected by a pair was asserted and unblanked: what has changed in the present TB clock
did so after it (R246, R248). -/
def State.trippedBefore (s : State) (m p f : Nat) : Bool :=
  let lvl := if f ≤ s.now then s.clockReg pageTRIP Off.trip_TRIPLVL else s.reg pageTRIP Off.trip_TRIPLVL
  (s.reg (pagePWM m) (Off.pwm_TRIPSEL p) &&& lvl) != 0 && !s.pwmBlank m (f - 2)

/-- CUT of a pair is 1 from the clock `f` on: its references are 0. -/
def PwmMod.cutRefs (x : PwmMod) (p f : Nat) : PwmMod :=
  let y := { x with pairs := x.pairs.zipIdx.map (fun (k : PwmPair × Nat) => if k.2 = p then { k.1 with cut := true, cutAt := f } else k.1) }
  y.setRefs (x.ref.zipIdx.map (fun r => r.1 && r.2 / 2 != p)) f

/-- CUT of a pair becomes 1 in the clock `f` (R246). -/
def cutPair (m p f : Nat) (s : State) : State :=
  ((s.setPwm m ((s.pwm m).cutRefs p f)).addSat (pagePWM m) Off.pwm_CUTCNT (8 * p) 8 1).intSet (pagePWM m) 16

/-- Every pair of a module that is not cut and has an unblanked trip is cut from the next clock on. -/
def cutCheck (m : Nat) (s : State) : State :=
  if !s.active (pagePWM m) then s else
  let f := s.pwmEdge m + 2
  pwmUpdate m f (fun s => (List.range 4).foldl (fun s p =>
    if !((s.pwm m).pairs.getD p {}).cut && s.tripped m p then cutPair m p f s else s) s) s

def cutChecks (s : State) : State := (List.range 10).foldl (fun s m => cutCheck m s) s

/-- A trip input is used, and its pin has been sampled at a level for so many consecutive clocks that its filtered level, after
POL, is `on` (R245). -/
def State.tripFiltered (s : State) (i : Nat) (on pin : Bool) (clocks : Nat) : Bool :=
  let c := s.reg pageTRIP (Off.trip_TRIPCFG i)
  fieldOf c 0 1 == 1 && ((pin != (fieldOf c 1 1 == 1)) == on) && decide (fieldOf c 2 6 + 1 ≤ clocks)

/-- The filtered level of an enabled trip input becomes 1. -/
def tripAssert (i : Nat) (pin : Bool) (clocks : Nat) (s : State) : State :=
  if !s.tripFiltered i true pin clocks ∨ s.flag pageTRIP Off.trip_TRIPLVL i then s else
  let s := s.setFld pageTRIP Off.trip_TRIPLVL i 1 1
  let s := s.setFld pageTRIP Off.trip_TRIPSEEN i 1 1
  let s := (s.addSat pageTRIP (Off.trip_TRIPCNT i) 0 16 1).intSet pageTRIP (16 + i)
  cutChecks s

def execTripAssert (i : Fin 16) (pin : Bool) (clocks : Nat) (s : State) : Out := .next (tripAssert i pin clocks s)

def execTripDeassert (i : Fin 16) (pin : Bool) (clocks : Nat) (s : State) : Out :=
  .next (if s.tripFiltered i false pin clocks then s.setFld pageTRIP Off.trip_TRIPLVL i 1 0 else s)

/-- A write of TRIPCFG: an input that is not used is not asserted (R245). -/
def tripcfgDo (i : Nat) (s : State) : State :=
  if s.flag pageTRIP (Off.trip_TRIPCFG i) 0 then s else s.setFld pageTRIP Off.trip_TRIPLVL i 1 0

/-! ### Pins (R250 to R252) -/

def State.pinSrc (s : State) (n : Nat) : Nat := s.fld pagePINMUX (Off.pinmux_PINSEL n) 0 2
def State.pinCh (s : State) (n : Nat) : Nat := s.fld pagePINMUX (Off.pinmux_PINSEL n) 8 7

/-- The device forces every driving pin to its safe level (R252). -/
def State.forcedPins (s : State) : Bool := s.reg pagePINMUX1 Off.pinmuxX_FORCESTAT != 0

/-- A PWM-driven pin may follow its channel (R251, R252, R341, R359). -/
def State.pwmMayFollow (s : State) (n : Nat) : Bool :=
  (s.md == mRUN || s.md == mBENCH || (s.md == mLIMP && s.live n)) && !s.revHeld n && !s.forcedPins && !s.mode.safeDue &&
    s.dst (32 + n / 8) == 0 && s.active (pagePWM (s.modMap (s.pinCh n / 8)))

/-- Pins that may no longer follow wait for their channel's next period boundary. -/
def State.dropPwmPins (s : State) : State :=
  { s with pwmPins := s.pwmPins.filter (fun e => s.pwmMayFollow e.1) }

/-- A period boundary of a module: its pins that may follow do so from here on. -/
def followPwm (m : Nat) (s : State) : State :=
  { s with pwmPins := (List.range 160).foldl (fun l n =>
      if s.pinSrc n = 1 ∧ s.modMap (s.pinCh n / 8) = m ∧ s.pwmMayFollow n then l.set false n true else l) s.pwmPins }

/-- The safe level that a driving pin has by its registers; none for a pin that is not driven (R75, R250). -/
def State.safeDrive (s : State) (n : Nat) : Option Bool :=
  if s.pinSrc n = 0 then (if s.drivesChan n then some (s.safeLvl n) else none)
  else if s.pinSrc n = 1 then some (s.flag pagePINMUX (Off.pinmux_PINSEL n) 16)
  else none

/-- A commit reloads the latches of the safe levels; the pins of a bank that is not ON keep theirs (R252, R342). -/
def State.latchSafe (s : State) : State :=
  { s with safeLatch := (List.range 160).foldl (fun l n =>
      if s.dst (32 + n / 8) = 0 then l.set none n (s.safeDrive n) else l) s.safeLatch }

/-- The level that a pin's latch holds: of its registers where no commit has loaded it. -/
def State.latched? (s : State) (n : Nat) : Option Bool := (s.safeLatch.get none n).or (s.safeDrive n)

/-- The level that a synthesising unit drives onto a pin (R107); with LOOP = 1 it drives none. -/
def State.synDrive (s : State) (n : Nat) : Option Bool :=
  (List.range 8).findSome? (fun u =>
    let w := s.reg (pageWU u) Off.wu_SYNCFG
    if s.st (pageWU u) != stSYNTH || fieldOf w 26 1 == 1 then none
    else if fieldOf w 0 8 = n then some (s.wheel u).synCrk
    else if fieldOf w 24 1 = 1 ∧ fieldOf w 8 8 = n then some (s.wheel u).synA
    else if fieldOf w 25 1 = 1 ∧ fieldOf w 16 8 = n then some (s.wheel u).synB else none)

/-- The level that the device drives onto a pin; none for an input, where its I/O bank is OFF, and in BOOT and DORMANT; a bank that is
ISOLATED, RESETTING or REJOINING holds its driven pins at their latched safe levels (R75, R107, R250 to R252, R321, R342). -/
def State.pinDrive (s : State) (n : Nat) : Option Bool :=
  let d := s.dst (32 + n / 8)
  if d = 1 ∨ s.md = mBOOT ∨ s.md = mDORMANT then none
  else if d ≠ 0 then s.bankHold.get none n
  else match s.synDrive n with
    | some b => some b
    | none =>
      match s.safeDrive n with
      | none => none
      | some safe =>
        if s.forcedPins then s.latched? n
        else if s.pinSrc n = 0 then some (s.outLvl n)
        else if s.pwmPins.get false n && s.pwmMayFollow n then
          some ((s.pwmOut (s.modMap (s.pinCh n / 8))).getD (s.pinCh n % 8) false)
        else some safe

/-! ### Application points (R242) -/

/-- The committed values that apply at a period boundary. -/
def applyPeriod (m : Nat) (s : State) : State :=
  let p := pagePWM m
  s.setPwm m { s.pwm m with
    per := (s.reg p Off.pwm_PER).toNat, syncpt := (s.reg p Off.pwm_SYNCPT).toNat, syncofs := (s.reg p Off.pwm_SYNCOFS).toNat,
    dt := (List.range 4).map (fun i => s.fld p (Off.pwm_DT i) 0 16),
    cmp := (List.range 8).map (fun c => (s.reg p (Off.pwm_CMP c)).toNat) }

/-- The last pulse at SYNCPT before the clock `f` (R249). -/
def PwmMod.passed (x : PwmMod) (f : Nat) : Option Nat :=
  if x.cnt ≤ x.syncpt ∧ x.syncpt ≤ x.per ∧ x.t + 2 * (x.syncpt - x.cnt) < f then some (x.t + 2 * (x.syncpt - x.cnt)) else x.pulse

/-- The effects of a period boundary in the clock `f` (R240 to R246). A cut that begins in this clock counts for this period only; one
that a trip of this very clock brings begins in the next (R246, R248). -/
def periodStart (m f : Nat) (s : State) : State :=
  let s := pwmUpdate m f (fun s =>
    let s := s.setPwm m { s.pwm m with pulse := (s.pwm m).passed f }
    let s := applyPeriod m s
    let x := s.pwm m
    let next := (List.range 4).filter (fun p => (x.pairs.getD p {}).cut && decide (f < (x.pairs.getD p {}).cutAt))
    let keep := (List.range 4).map (fun p => (x.pairs.getD p {}).cut && !next.contains p && s.trippedBefore m p f)
    let x := { x with cnt := 0, t := f, mid := false, endAt := none,
                      pairs := x.pairs.zipIdx.map (fun (k : PwmPair × Nat) => { k.1 with cut := keep.getD k.2 false }) }
    let y := x.setRefs ((List.range 8).map (fun c => decide (0 < x.cmp.getD c 0) && !keep.getD (c / 2) false)) f
    let s := s.setPwm m (next.foldl (fun y p => y.cutRefs p ((x.pairs.getD p {}).cutAt)) y)
    (List.range 4).foldl (fun s p => if keep.getD p false && decide ((x.pairs.getD p {}).cutAt < f) then s.addSat (pagePWM m) Off.pwm_CUTCNT (8 * p) 8 1 else s) s) s
  let s := (List.range 8).foldl (fun s c => s.triggerSrc 3 0 (8 * s.logical m + c) f) s
  followPwm m s

/-- The clock of the next period boundary. -/
def PwmMod.wrapAt (x : PwmMod) : Nat := x.endAt.getD (x.t + 2 * max 1 (x.per + 1 - x.cnt))

/-- CNT equals HALF: mid-period updates apply (R242). -/
def midPeriodPoint (m : Nat) (s : State) : State :=
  let x := s.pwm m
  let p := pagePWM m
  if !s.active p ∨ x.mid ∨ x.half < x.cnt ∨ x.endAt.isSome then s else
  let f := x.t + 2 * (x.half - x.cnt)
  let s := s.upTo f
  let h := x.half
  let s := pwmUpdate m f (fun s =>
    let cmp := x.cmp.zipIdx.map (fun c => if s.flag p (Off.pwm_CHCFG c.2) 0 then (s.reg p (Off.pwm_CMP c.2)).toNat else c.1)
    let per := if s.flag p Off.pwm_MCFG 5 then (s.reg p Off.pwm_PER).toNat else x.per
    let x := { x with cmp := cmp, per := per, cnt := h, t := f, mid := true,
                      endAt := if per ≤ h then some (f + 2) else none, pulse := x.passed f }
    s.setPwm m (x.setRefs (x.ref.zipIdx.map (fun r => r.1 && decide (h < cmp.getD r.2 0))) f)) s
  (List.range 8).foldl (fun s c => s.triggerSrc 3 1 (8 * s.logical m + c) f) s

def execMidPeriodPoint (m : Fin 10) (s : State) : Out := .next (midPeriodPoint m s)

/-- CNT reaches CMPc: Rc falls (R241). A mid-period point at or before that clock comes first: a new CMP that it applies governs
(R248). -/
def referenceFall (m c : Nat) (s : State) : State :=
  let s := if (s.pwm m).half ≤ (s.pwm m).cmp.getD c 0 then midPeriodPoint m s else s
  let x := s.pwm m
  let v := x.cmp.getD c 0
  if !s.active (pagePWM m) ∨ !x.ref.getD c false ∨ x.per < v then s else
  let f := x.t + 2 * (v - x.cnt)
  pwmUpdate m f (fun s => s.setPwm m (x.setRefs (x.ref.set c false) f)) (s.upTo f)

def execReferenceFall (m : Fin 10) (c : Fin 8) (s : State) : Out := .next (referenceFall m c s)

/-- The dead time of a pair has run: its delayed output rises (R243). -/
def deadTimeExpiry (m p : Nat) (s : State) : State :=
  let x := s.pwm m
  let k := x.pairs.getD p {}
  if !s.active (pagePWM m) ∨ k.h ∨ k.l then s else
  let f := k.since + 2 * x.dt.getD p 0
  pwmUpdate m f (fun s => s.setPwm m { x with
    pairs := x.pairs.set p (k.at (x.ref.getD (2 * p) false) (x.dt.getD p 0) f) }) (s.upTo f)

def execDeadTimeExpiry (m : Fin 10) (p : Fin 4) (s : State) : Out := .next (deadTimeExpiry m p s)

/-! ### The sync chain (R249) -/

/-- The last pulse at SYNCPT that has passed, and the next (R249). -/
def PwmMod.pulses (x : PwmMod) : List Nat :=
  x.pulse.toList ++
    (if x.per < x.syncpt then [] else [if x.cnt ≤ x.syncpt then x.t + 2 * (x.syncpt - x.cnt) else x.wrapAt + 2 * x.syncpt])

/-- The TBs of the sync events at a module's sync input, through at most `n` modules: from the module below, which sends its own pulses
or passes on what it receives, or the VALLEY of its channel (R249). -/
def syncEvents (s : State) : Nat → Nat → List Nat
  | 0, _ => []
  | n + 1, m =>
    match s.fld (pagePWM m) Off.pwm_MCFG 1 2 with
    | 1 =>
      if s.logical m = 0 then [] else
      let u := s.modMap (s.logical m - 1)
      if !s.active (pagePWM u) then []
      else match s.fld (pagePWM u) Off.pwm_MCFG 3 2 with
        | 1 => (s.pwm u).pulses
        | 2 => syncEvents s n u
        | _ => []
    | 2 => (s.pwm m).sync.toList
    | _ => []

/-- The first sync event of a module that it has not loaded. -/
def State.syncEvent (s : State) (m : Nat) : Option Nat :=
  ((syncEvents s 10 m).filter (fun t => decide ((s.pwm m).synced ≤ t))).min?

/-- The first engine clock of a module after a TB. -/
def PwmMod.clockAfter (x : PwmMod) (t : Nat) : Nat := if t < x.t then x.t else x.t + 2 * ((t - x.t) / 2 + 1)

/-- The module loads SYNCOFS in its first clock after the sync event; 0 is a period boundary. -/
def syncLoad (m : Nat) (s : State) : State :=
  if !s.active (pagePWM m) then s else
  match s.syncEvent m with
  | none => s
  | some t =>
    let x := s.pwm m
    let f := x.clockAfter t
    let s := (s.upTo f).setPwm m { x with synced := t + 1 }
    if x.syncofs = 0 then
      periodStart m f (s.setReg (pagePWM m) Off.pwm_PERCNT (s.reg (pagePWM m) Off.pwm_PERCNT + 1))
    else
      let v := x.syncofs
      pwmUpdate m f (fun s =>
        let x := { s.pwm m with cnt := v, t := f, mid := decide (x.half < v), endAt := none, pulse := (s.pwm m).passed f }
        s.setPwm m (x.setRefs (x.ref.zipIdx.map (fun r => r.1 && decide (v < x.cmp.getD r.2 0))) f)) s

def execSyncLoad (m : Fin 10) (s : State) : Out := .next (syncLoad m s)

/-- CNT returns to 0; a sync load that falls in this clock or before governs (R248). -/
def periodBoundary (m : Nat) (s : State) : State :=
  if !s.active (pagePWM m) then s else
  let x := s.pwm m
  let f := x.wrapAt
  if (s.syncEvent m).any (fun t => decide (x.clockAfter t ≤ f)) then syncLoad m s else
  let s := s.upTo f
  let s := s.setReg (pagePWM m) Off.pwm_PERCNT (s.reg (pagePWM m) Off.pwm_PERCNT + 1)
  periodStart m f s

def execPeriodBoundary (m : Fin 10) (s : State) : Out := .next (periodBoundary m s)

/-- One step of a pin channel's period counter (R81), with what it means to the modules: the end of a blanking, and VALLEY as a
sync event. -/
def periodCounterStep (c : Nat) (s : State) : State :=
  let runs := s.counting c
  let s := keepBlanks s (counterStep c s)
  let s := if runs ∧ (s.chan c).down ∧ (s.chan c).cnt = 0 then
      (List.range 10).foldl (fun s m =>
        if s.active (pagePWM m) && s.fld (pagePWM m) Off.pwm_MCFG 1 2 == 2 && s.fld (pagePWM m) Off.pwm_MCFG 8 8 == c
        then s.setPwm m { s.pwm m with sync := some s.now } else s) s
    else s
  (List.range 10).foldl (fun s m => if s.fld (pagePWM m) Off.pwm_BLKCFG 0 9 = 256 + c then cutCheck m s else s) s

def execPeriodCounterStep (c : Fin 160) (s : State) : Out := .next (periodCounterStep c s)

/-! ### Start, faults and substitution (R240, R253 to R255) -/

/-- A module becomes ACTIVE: CNT is 0 in the clock of the boundary, which is a period boundary (R240); a trip that is asserted already
cuts from the next clock (R246). -/
def startPwm (m : Nat) (s : State) : State :=
  let f := s.now
  let x := s.pwm m
  let s := s.setPwm m { ({} : PwmMod) with sub := x.sub, pairs := List.replicate 4 { since := f }, t := f, synced := f }
  cutCheck m (periodStart m f s)

/-- The times of a module lie `j` further on: its clocks go on from there. -/
def PwmMod.later (j : Nat) (x : PwmMod) : PwmMod :=
  { x with t := x.t + j, endAt := x.endAt.map (· + j), sync := x.sync.map (· + j), pulse := x.pulse.map (· + j), synced := x.synced + j,
           pairs := x.pairs.map (fun k => { k with since := k.since + j, cutAt := k.cutAt + j }) }

/-- RESET_BLOCK or a domain reset of a module. -/
def resetPwm (m : Nat) (s : State) : State := s.setPwm m {}

/-- The two copies of a module differ: FAULT in that clock (R253). -/
def pwmCopyMismatch (m : Nat) (s : State) : State :=
  let p := pagePWM m
  if !s.active p then s else
  let s := (s.intSet p 18).setPwm m { s.pwm m with forced := true }
  (s.blockFault p).dropPwmPins

/-- A module that serves nothing any more: in FAULT or DOWN (R254). -/
def State.pwmDead (s : State) (m : Nat) : Bool := s.st (pagePWM m) == stFAULT || s.st (pagePWM m) == stDOWN

/-- The module of SUBSTITUTE: SUBSEL.MOD, or ARG word 2 of a ring entry or of the availability logic. -/
def State.pwmSubMod (s : State) (q : Req) : Nat :=
  match q.src with
  | .port _ => s.fld q.page.toNat Off.pwm_SUBSEL 0 4
  | _ => fieldOf q.args.w2 0 4

def pwmSubstitute : Cmd where
  errs q s :=
    let l := s.pwmSubMod q
    [ (eSTATE, s.st q.page.toNat != stSPARE), (eVALUE, decide (9 < l) || l == pageInst q.page.toNat),
      (eSTATE, decide (l ≤ 9) && (s.st (pagePWM l) == stSPARE || (s.modMap l != l && !s.pwmDead (s.modMap l)))) ]
  run q s := s.keepRun q.page.toNat 0x40 [s.pwmSubMod q]

def pwmRelease : Cmd where
  errs q s :=
    let m := pageInst q.page.toNat
    [ (eSTATE, !s.active q.page.toNat || (s.pwm m).sub.isNone), (eSTATE, s.st (pagePWM (s.logical m)) != stCONFIGURED) ]
  run _ s := s

/-- The configuration region of a module goes to another, which keeps its own SPARE bit. -/
def copyPwmCfg (src dst : Nat) (s : State) : State :=
  let spare := s.fld (pagePWM dst) Off.pwm_MCFG 0 1
  let s := (List.range 40).foldl (fun s i => s.setReg (pagePWM dst) (0x40 + 4 * i) (s.reg (pagePWM src) (0x40 + 4 * i))) s
  s.setFld (pagePWM dst) Off.pwm_MCFG 0 1 spare

/-- Spare k takes over logical module l at the boundary from the module that serves it: its counter, references, CUT and histories, from
where they stand in a module that does not count; from 0 where that module is in FAULT or DOWN (R254). -/
def pwmTake (k l : Nat) (s : State) : State :=
  let m := s.modMap l
  let dead := s.pwmDead m
  let runs := s.active (pagePWM m)
  let x := s.pwm m
  let s := copyPwmCfg m k s
  let s := s.setReg pagePINMUX1 (Off.pinmuxX_MODMAP l) (BitVec.ofNat 32 k)
  let s := s.setSt (pagePWM k) stACTIVE
  let s := if dead then startPwm k (s.setPwm k { sub := some l })
    else if runs then s.setPwm k { x with sub := some l, forced := false }
    else cutCheck k (s.setPwm k { x.later (s.now - x.t) with sub := some l, forced := false, synced := s.now })
  let s := if dead then s else ((if runs then s.stopPwm m else s).setSt (pagePWM m) stQUARANTINE)
  ((s.intSet (pagePWM k) 17).intSet (pagePWM m) 17).dropPwmPins

/-- Logical module l returns from spare k to its own module at the boundary (R255). -/
def pwmGive (k l : Nat) (s : State) : State :=
  let s := copyPwmCfg k l s
  let s := s.setReg pagePINMUX1 (Off.pinmuxX_MODMAP l) (BitVec.ofNat 32 l)
  let s := (s.setPwm l { s.pwm k with sub := none, forced := false }).setSt (pagePWM l) stACTIVE
  let s := (s.setPwm k {}).setSt (pagePWM k) stSPARE
  (s.intSet (pagePWM k) 17).intSet (pagePWM l) 17

/-- The migration step of a boundary for PWM modules (R20, R254, R255). -/
def pwmMigrate (s : State) : State :=
  (List.range 10).foldl (fun s m =>
    match s.running.find? (fun r => r.req.page.toNat == pagePWM m) with
    | none => s
    | some r =>
      if r.code = 0x40 then (pwmTake m (r.data.getD 0 0) s).endRun r {}
      else if r.code = 0x41 then (pwmGive m (s.logical m) s).endRun r {}
      else s) s

/-! ### Views (R257) -/

def pwmCntWord (s : State) (m : Nat) : Word :=
  BitVec.ofNat 32 (if s.active (pagePWM m) then (s.pwm m).countAt s.now else (s.pwm m).cnt)

def mstatWord (s : State) (m : Nat) : Word :=
  let x := s.pwm m
  BitVec.ofNat 32 ((((s.pwmOut m).zipIdx.map (fun b => bit b.1 * 2 ^ b.2)).sum) +
    ((x.pairs.zipIdx.map (fun k => bit k.1.cut * 2 ^ (8 + k.2))).sum) + bit (s.active (pagePWM m) && s.pwmBlank m (s.now - (s.now + x.t) % 2)) * 2 ^ 12 +
    bit x.forced * 2 ^ 13 + bit x.sub.isSome * 2 ^ 16 + x.sub.getD 0 * 2 ^ 17)

end Sys2Proof.Machine
end

