-- ==== Sys2Proof/Machine/TimeBase.lean ====
section
/-! DEFINITION. The time base: matches, wrap, preset, the slow clock and the catch-up (R59 to R68). -/

namespace Sys2Proof.Machine

/-- A write of MATCHn_HI forms match n with the held low half and arms it (R64). -/
def matchArm (n : Nat) (hi : Word) (s : State) : State :=
  let s := s.setReg pageTB (Off.tb_MATCH_HI n) hi
  let v := s.reg64 pageTB (Off.tb_MATCH_LO n) (Off.tb_MATCH_HI n)
  ({ s with matchVal := s.matchVal.set 0 n v, matchTb := s.matchTb.set 0 n (s.now + 1) }).setFld pageTB Off.tb_MATCHARM n 1 1

/-- An armed match is reached, in the clock after it was armed at the earliest: flag, disarmed, source 0x005 if enabled, and the
event lines that name it (R64, R173). While the TB is stopped there is no clock. -/
def matchReached (n : Nat) (s : State) : State :=
  if !s.flag pageTB Off.tb_MATCHARM n ∨ s.tbStopped then s else
  let s := s.upTo (max (s.clockOf (s.matchVal.get 0 n)) (s.matchTb.get 0 n))
  let s := s.event pageTB 0x018 (setBit · (16 + n))
  let s := s.setFld pageTB Off.tb_MATCHARM n 1 0
  (s.bellIf (s.flag pageTB 0x01C (16 + n)) 0x005).occur 6 n

def execMatchReached (n : Fin 4) (s : State) : Out := .next (matchReached n s)

/-- The TB passes from all ones to zero (R65). -/
def tbWrap (s : State) : State := if s.tbStopped ∨ s.tb ≠ BitVec.allOnes 64 then s else s.wrap

def execTbWrap (s : State) : Out := .next (tbWrap s)

/-- One TB clock passes with nothing commanded: the TB counts unless it is stopped (R59, R68), held, or this increment is omitted
(R316). -/
def tbClock (s : State) : State :=
  if s.tbStopped ∨ s.mode.clockLost then s
  else if s.idx0.hold ≠ 0 then { s.newClock with idx0 := { s.idx0 with hold := s.idx0.hold - 1 } }
  else if s.idx0.skip then { s.newClock with idx0 := { s.idx0 with skip := false } }
  else if s.tb = BitVec.allOnes 64 then s.wrap
  else s.clockAt (s.tb + 1)

/-- After a jump of the TB the next boundary is the first grid point after it (R18, R66). -/
def regrid (s : State) : State :=
  let next := gridFrom s.tick.phase (2 * s.tick.per) (s.tb.toNat + 1)
  { s with tick := { s.tick with next := s.clockOf (if next < 2 ^ 64 then next else 2 ^ 64 + s.tick.phase) } }

/-! What runs by clocks and not by the value of the TB goes on after a jump of the TB as it would have: the clocks that State keeps for
it lie `j` further on. -/

def Chan.later (j : Nat) (x : Chan) : Chan :=
  { x with headTb := x.headTb + j, pulseEnd := x.pulseEnd.map (· + j), stepTb := x.stepTb + j,
           shift := { x.shift with due := x.shift.due + j }, blanks := x.blanks.map (fun b => (b.1 + j, b.2)) }

def IuSt.later (j : Nat) (x : IuSt) : IuSt :=
  { x with tgt := x.tgt.map (fun (e : Nat × IuTgt) => (e.1, { e.2 with hold := e.2.hold.map (· + j) })),
           group := x.group.map (fun (e : Nat × Nat) => (e.1, e.2 + j)) }

def AdcCore.later (j : Nat) (x : AdcCore) : AdcCore :=
  { x with beg := x.beg + j, start := x.start + j, hold := x.hold.map (· + j), refDue := x.refDue.map (· + j),
           ins := x.ins.map (fun (e : Nat × AIn) => (e.1, { e.2 with hold := e.2.hold.map (· + j) })),
           pipe := x.pipe.map (fun h => { h with due := h.due + j }), urg := x.urg.map (fun u => { u with tb := u.tb + j }),
           latch := x.latch.map (fun (e : Nat × Nat) => (e.1, e.2 + j)), due := x.due.map (fun d => (d.1, d.2 + j)) }

def EthSt.later (j : Nat) (x : EthSt) : EthSt := { x with pause := x.pause + j, sync := x.sync.map (fun p => (p.1 + j, p.2)) }

def WRing.later (j : Nat) (x : WRing) : WRing := { x with recs := x.recs.map (fun r => { r with tb := r.tb + j }) }

def WheySt.later (j : Nat) (x : WheySt) : WheySt :=
  { x with alarm := x.alarm.later j, loss := x.loss.later j, general := x.general.later j }

def RindSt.later (j : Nat) (x : RindSt) : RindSt :=
  { x with lockHost := if x.lockHost = 0 then 0 else x.lockHost + j, lockTap := if x.lockTap = 0 then 0 else x.lockTap + j }

def State.later (j : Nat) (s : State) : State :=
  { s with
    tick := { s.tick with bnd := s.tick.bnd + j }
    chans := s.chans.map (fun (e : Nat × Chan) => (e.1, e.2.later j))
    iu := s.iu.later j
    pwms := s.pwms.map (fun (e : Nat × PwmMod) => (e.1, e.2.later j))
    adcs := s.adcs.map (fun (e : Nat × AdcCore) => (e.1, e.2.later j))
    td := { s.td with settleDue := s.td.settleDue.map (· + j), beg := s.td.beg + j }
    engs := s.engs.map (fun (e : Nat × Eng) => (e.1, { e.2 with wait := e.2.wait.map (fun w => { w with since := w.since + j }) }))
    dom := s.dom.map (fun (e : Nat × DomSt) => (e.1, { e.2 with since := e.2.since + j }))
    mode := { s.mode with excTb := s.mode.excTb + j }
    rind := s.rind.later j
    wheels := s.wheels.map (fun (e : Nat × Wheel) => (e.1, { e.2 with synTb := e.2.synTb + j }))
    idx0 := { s.idx0 with slewed := s.idx0.slewed + j }
    eth0 := s.eth0.later j
    eth1 := s.eth1.later j
    whey := s.whey.later j }

/-- What the TB has jumped over: compare heads and matches with earlier values act from the clock after the jump on (R66). -/
def State.jumpedOver (v : Nat) (s : State) : State :=
  let f := s.clockOf v + 1
  { s with
    chans := s.chans.map (fun (e : Nat × Chan) => (e.1, if e.2.cq.head?.any (fun k => decide (k.tgt < v)) then { e.2 with headTb := f } else e.2))
    matchTb := (List.range 4).foldl (fun m n => if s.matchVal.get 0 n < v then m.set 0 n f else m) s.matchTb }

/-- The TB jumps forward to a value, over `j` LSBs that no clock counts; the tick in progress ends at the first grid point after it (R18,
R66, R316). -/
def State.jump (j v : Nat) (s : State) : State :=
  let s := regrid (((s.later j).jumpedOver v).upTo (s.clockOf v))
  { s with tick := { s.tick with len := (s.tick.next - s.tick.bnd) / 2 } }

/-- The jump of TB_PRESET in the clock after its boundary, and its LOG record (R66). The wheels' part is the caller's. -/
def presetJump (v : Nat) (s : State) : State :=
  let old := s.tb.toNat
  (s.jump (v - (old + 1)) v).log pageDBG (originOf pageDBG) 0x014 (s.clockOf v)
    [BitVec.ofNat 32 old, BitVec.ofNat 32 (old / 2 ^ 32), BitVec.ofNat 32 v, BitVec.ofNat 32 (v / 2 ^ 32)]

/-- A ratio window ends: SLOWRATIO is twice its count, and RATIOVALID; there are windows from the end of BOOT on, while the fast
clock runs (R67). -/
def ratioWindow (count : Nat) (s : State) : State :=
  if s.md = mBOOT ∨ s.md = mDORMANT then s else
  (s.setReg pageTB Off.tb_SLOWRATIO (BitVec.ofNat 32 (2 * count))).setFld pageTB Off.tb_SLOWSTAT 0 1 1

def execSlowRatioWindow (count : Time) (s : State) : Out := .next (ratioWindow count.toNat s)

/-- The selected slow source starts or stops: SLOWSTAT.SLOWOK (R61). -/
def execSlowokChange (ok : Bool) (s : State) : Out := .next (s.setFld pageTB Off.tb_SLOWSTAT 1 1 (bit ok))

/-- In DORMANT the TB stops at a slow-clock edge (R68, R337). -/
def execTbStop (s : State) : Out := .next (tbStop s)

/-- The error bound of a catch-up (R68). -/
def resyncErr (ratio a k : Nat) : Nat :=
  min ((ratio + 65535) / 65536 + (a * k + 999999) / 1000000) 0xFFFFFFFF

/-- The catch-up over a number of slow ticks (R68), and the boundaries after it (R18). -/
def catchUp (d : Nat) (s : State) : State :=
  let ratio := (s.reg pageTB Off.tb_SLOWRATIO).toNat
  let a := d * ratio / 65536
  let k := if s.flag pageTB Off.tb_SLOWCFG 0 then 30000 else s.fld pageTB Off.tb_SLOWCFG 16 16
  let s := { s.upTo (s.now + a) with tbStopped := false }
  let s := s.event pageTB Off.tb_RESYNC (setBit · 0)
  let s := s.setReg pageTB Off.tb_RESYNCERR (BitVec.ofNat 32 (resyncErr ratio a k))
  let s := s.setReg pageTB Off.tb_DORMSLOW_LO (BitVec.ofNat 32 d)
  let s := s.setReg pageTB Off.tb_DORMSLOW_HI (BitVec.ofNat 32 (d / 2 ^ 32))
  regrid (s.intSet pageTB 21)

end Sys2Proof.Machine
end

