-- ==== Sys2Proof/Machine/Idx.lean ====
section
/-! DEFINITION. The Idxia chain: partners, frames, time alignment, imported wheels and messages (R310 to R320). -/

namespace Sys2Proof.Machine

/-! ### Partner states (R312, R315) -/

/-- The port is in use: its block ACTIVE and LCFG.EN (R319). -/
def State.portOn (s : State) (p : Nat) : Bool := s.active (pageIDX p) && s.flag (pageIDX p) Off.idx_LCFG 0

def sMSGBNC (p : Nat) (s : State) : State := s.addSat (pageIDX p) Off.idx_MSGBNC 0 16 1

/-- A MSG frame that a port gives up is bounced to its sender (R315). -/
def bounceLoad (p : Nat) (l : Payload) (s : State) : State :=
  match l with
  | .msg addr sender body =>
    bounce { addr := addr, sender := sender, lo := body.getD 0 0, hi := body.getD 1 0 } eTIMEOUT (sMSGBNC p s)
  | _ => s

/-- The exporter of an importing unit lies beyond a port. -/
def State.importsVia (s : State) (u p : Nat) : Bool :=
  let d := s.fld (pageIDX 0) (Off.idx_IMP u) 1 2
  s.imports u && (if p = 1 then decide (s.devnum < d) else decide (d < s.devnum))

/-- An importing unit that holds a state enters LOST (R315, R317). -/
def importLost (u trig : Nat) (s : State) : State :=
  let w := s.wheel u
  if s.active (pageWU u) && w.state != wLOST && w.state != wSEARCH then syncTo u wLOST trig s else s

/-- ALIGNED of the leader side ends; the importing units that hold a state go to SEARCH with it (R316, R317). -/
def alignLost (s : State) : State :=
  if s.flag (pageIDX 0) Off.idx_PSTAT 12 then
    let s := (s.setFld (pageIDX 0) Off.idx_PSTAT 12 1 0).intSet (pageIDX 0) 21
    (List.range 8).foldl (fun s u =>
      let w := s.wheel u
      if s.active (pageWU u) && s.imports u && w.state != wLOST && w.state != wSEARCH then
        let s := syncTo u wSEARCH 0x13 s
        s.setWheel u { s.wheel u with rev := false, mapValid := false }
      else s) s
  else s

/-- The port leaves UP or DEGRADED (R315): its messages are bounced, the units beyond it are LOST, ALIGNED ends, the session key
is gone. -/
def portDown (p : Nat) (s : State) : State :=
  let x := s.idx p
  let loads := x.unacked.map (·.load) ++ x.waiting.map (fun w => w.2.2.2)
  let s := s.setIdx p { x with unacked := [], waiting := [], key := none, t1 := none, exch := [], hold := 0 }
  let s := s.intSet (pageIDX p) 18
  let s := (List.range 8).foldl (fun s u => if s.importsVia u p then importLost u 0x15 s else s) s
  let s := if p = 0 ∧ s.devnum ≠ 0 then alignLost s else s
  loads.foldl (fun s l => bounceLoad p l s) s

/-- The own path to device 0 has a DEGRADED port. -/
def State.pathDegraded (s : State) : Bool := s.devnum != 0 && (s.pst 0 == pDEGRADED || s.idx0.degr)

/-- OFFSET and RESIDUAL, signed. -/
def State.offset16 (s : State) : Int := signed 32 (s.reg (pageIDX 0) Off.idx_OFFSET).toNat
def State.residual16 (s : State) : Int := signed 32 (s.reg (pageIDX 0) Off.idx_RESIDUAL).toNat

/-- ALIGNED of the leader side (R316). -/
def judgeAligned (s : State) : State :=
  let lim := if s.pathDegraded then 128 else 32
  if s.idx0.lead && decide (s.residual16.natAbs ≤ lim) then s.setFld (pageIDX 0) Off.idx_PSTAT 12 1 1 else alignLost s

/-- The frame with which a port presents itself (R310, R311). -/
def State.helloLoad (s : State) (p : Nat) : Payload :=
  .hello { dev := BitVec.ofNat 2 s.devnum, last := BitVec.ofNat 2 s.lastDev, port := p == 1,
           key := BitVec.ofNat 64 (leVal (teamKid s.rind.teamKey)), noauth := s.noauth p }

/-- The chain number of a port's partner (R310). -/
def State.partner (s : State) (p : Nat) : Nat := if p = 1 then s.devnum + 1 else s.devnum - 1

/-- The partner's state changes. -/
def partnerTo (p new : Nat) (s : State) : State :=
  let old := s.pst p
  let s := s.setFld (pageIDX p) Off.idx_PSTAT 0 7 (new + old * 2 ^ 4)
  let s := s.intSet (pageIDX p) 16
  let s := if (old = pUP ∨ old = pDEGRADED) ∧ new ≠ pUP ∧ new ≠ pDEGRADED then portDown p s else s
  let s := if (new = pUP ∨ new = pDEGRADED) ∧ p = 0 ∧ s.devnum ≠ 0 then judgeAligned s else s
  let me := BitVec.ofNat 2 s.devnum
  if new = pTRAINING then
    let x := s.idx p
    let s := s.setIdx p { x with txCnt := 0, rxCnt := 0, cred := 16, owed := 0, nak := false, peer := none, good := 0, degr := false,
                                 lead := false, resid := 0, unacked := [], waiting := [] }
    let s := s.setFld (pageIDX p) Off.idx_PSTAT 16 8 (if x.lock then 3 else 1)
    s.idxSend p me (BitVec.ofNat 2 (s.partner p)) false (s.helloLoad p)
  else if new = pAUTHENTICATING then
    let n := Config.nonce s.rind.draws
    let s := { s with rind := { s.rind with draws := s.rind.draws + 1 } }
    let s := s.setIdx p { s.idx p with nonce := n }
    s.idxSend p me (BitVec.ofNat 2 (s.partner p)) false (.auth n)
  else if new = pABSENT then (s.setIdx p { s.idx p with cred := 0, lock := false, unacked := [], waiting := [] }).setFld (pageIDX p) Off.idx_PSTAT 16 8 0
  else if new = pUP then s.intSet (pageIDX p) 17
  else if new = pDEGRADED then (s.setIdx p { s.idx p with good := 0 }).intSet (pageIDX p) 20
  else s

/-- A hostile act, or a failure at AUTHENTICATING (R314): the port sends only idle blocks (R312). -/
def quarantinePort (p cause : Nat) (s : State) : State :=
  let s := partnerTo p pQUARANTINED s
  let s := s.setIdx p { s.idx p with unacked := [], waiting := [] }
  (s.setReg (pageIDX p) Off.idx_QCAUSE (BitVec.ofNat 32 cause)).intSet (pageIDX p) 19

/-- The partner answers within CREDTO: 1,024 times in a row end DEGRADED (R312). -/
def inTime (p : Nat) (s : State) : State :=
  let x := s.idx p
  if s.pst p = pDEGRADED then
    if 1024 ≤ x.good + 1 then partnerTo p pUP s else s.setIdx p { x with good := x.good + 1 }
  else s

def execSignalDetected (p : Fin 2) (s : State) : Out :=
  .next (if s.portOn p ∧ s.pst p = pABSENT then partnerTo p pTRAINING s else s)

def execSignalLost (p : Fin 2) (s : State) : Out :=
  .next (if s.portOn p ∧ s.pst p = pTRAINING then partnerTo p pABSENT s else s)

def execAuthTimeout (p : Fin 2) (s : State) : Out :=
  .next (if s.portOn p ∧ s.pst p = pAUTHENTICATING then partnerTo p pTRAINING s else s)

def execCreditTimeout (p : Fin 2) (s : State) : Out :=
  .next (if !s.portOn p then s
    else if s.pst p = pUP then partnerTo p pDEGRADED s
    else if s.pst p = pDEGRADED then s.setIdx p { s.idx p with good := 0 }
    else s)

/-- Nothing was received for DEADTO, or block lock is lost: an UP or DEGRADED port trains again; in TRAINING, TCAUSE shows the
loss (R312, R319). -/
def deadTimeout (p : Nat) (lockLost : Bool) (s : State) : State :=
  let s' := if lockLost then s.setIdx p { s.idx p with lock := false } else s
  if s.portUp p then partnerTo p pTRAINING s'
  else if lockLost ∧ s.portOn p ∧ s.pst p = pTRAINING then s'.setFld (pageIDX p) Off.idx_PSTAT 16 8 1
  else s

def execDeadTimeout (p : Fin 2) (lockLost : Bool) (s : State) : Out := .next (deadTimeout p lockLost s)

/-! ### Receiving (R311, R314) -/

/-- A frame of the partner's side fits the line. -/
def State.fitsLine (s : State) (p : Nat) (h : FrameHdr) : Bool :=
  decide (h.dst.toNat ≤ s.lastDev) && decide (h.src.toNat ≤ s.lastDev) &&
    (if p = 1 then decide (s.devnum < h.src.toNat) else decide (h.src.toNat < s.devnum))

/-- A frame of one of the types that use a credit is acknowledged, with those owed before it, or is owed (R311). -/
def acknowledge (p : Nat) (h : FrameHdr) (s : State) : State :=
  let n := (s.idx p).owed + 1
  if h.ackNow then
    (s.setIdx p { s.idx p with owed := 0 }).idxSend p (BitVec.ofNat 2 s.devnum) (BitVec.ofNat 2 (s.partner p)) false
      (.credit { returned := BitVec.ofNat _ n, ack := h.fseq, nak := false })
  else s.setIdx p { s.idx p with owed := n }

/-- What arrives shows block lock: a port in TRAINING has it, and waits for a HELLO (R312, R319). -/
def lockSeen (p : Nat) (s : State) : State :=
  if (s.idx p).lock then s
  else
    let s := s.setIdx p { s.idx p with lock := true }
    if s.pst p = pTRAINING ∧ s.fld (pageIDX p) Off.idx_PSTAT 16 8 = 1 then s.setFld (pageIDX p) Off.idx_PSTAT 16 8 3 else s

/-- A frame with a good CRC reaches a port: it is counted; one that is malformed, without credit or with a bad tag is turned
away; a good one runs `k`. -/
def receive (p : Nat) (h : FrameHdr) (l : Payload) (k : State → State) (s : State) : State :=
  if !s.portOn p ∨ s.pst p = pABSENT then s else
  let s := lockSeen p (s.setReg (pageIDX p) Off.idx_RXFRM (s.reg (pageIDX p) Off.idx_RXFRM + 1))
  if s.pst p = pQUARANTINED then s else
  let x := s.idx p
  let credit := match l with | .credit _ => true | _ => false
  let expected := BitVec.ofNat 16 x.rxCnt
  if x.nak ∧ !credit ∧ h.fseq ≠ expected then s
  else if s.portUp p ∧ (!s.fitsLine p h ∨ (!credit ∧ h.fseq ≠ expected)) then
    quarantinePort p 0x01 (s.addSat (pageIDX p) Off.idx_MALFORM 0 16 1)
  else if !credit ∧ 16 ≤ x.owed then (if s.portUp p then quarantinePort p 0x03 s else s)
  else
    let good := h.tag == s.frameTag p x.rxCnt h l
    let s := if credit then s else acknowledge p h (s.setIdx p { x with rxCnt := x.rxCnt + 1, nak := false })
    if good then k s
    else
      let s := s.addSat (pageIDX p) Off.idx_AUTHFAIL 0 16 1
      let s := s.setIdx p { s.idx p with bad := (s.idx p).bad + 1 }
      if s.portUp p ∧ s.fld (pageIDX p) Off.idx_LCFG 16 8 < (s.idx p).bad then quarantinePort p 0x04 s else s

/-- A frame with a bad CRC (R311): NAK with the FSEQ expected; more than 16 in a tick retrain. A QUARANTINED port only counts it as
received (R312). -/
def crcErrorFrame (p : Nat) (s : State) : State :=
  if !s.portOn p ∨ s.pst p = pABSENT then s
  else if s.pst p = pQUARANTINED then s.setReg (pageIDX p) Off.idx_RXFRM (s.reg (pageIDX p) Off.idx_RXFRM + 1) else
  let s := (lockSeen p s).addSat (pageIDX p) Off.idx_CRCERR 0 16 1
  let x := s.idx p
  let s := s.setIdx p { x with crcs := x.crcs + 1, nak := true }
  if s.portUp p ∧ 16 < x.crcs + 1 then partnerTo p pTRAINING s
  else s.idxSend p (BitVec.ofNat 2 s.devnum) (BitVec.ofNat 2 (s.partner p)) false
    (.credit { returned := 0, ack := BitVec.ofNat 16 x.rxCnt, nak := true })

def execCrcErrorFrame (p : Fin 2) (s : State) : Out := .next (crcErrorFrame p s)

/-- A malformed frame: an unknown TYPE, a reserved bit (R314). -/
def malformedFrame (p : Nat) (s : State) : State :=
  if !s.portOn p ∨ s.pst p = pABSENT then s else
  let s := s.setReg (pageIDX p) Off.idx_RXFRM (s.reg (pageIDX p) Off.idx_RXFRM + 1)
  if s.pst p = pQUARANTINED then s else
  let s := s.addSat (pageIDX p) Off.idx_MALFORM 0 16 1
  if s.portUp p then quarantinePort p 0x01 s else s

def execMalformedFrame (p : Fin 2) (s : State) : Out := .next (malformedFrame p s)

/-! ### HELLO and AUTH (R310, R313) -/

/-- A HELLO that fits the line. -/
def State.helloFits (s : State) (p : Nat) (f : HelloF) : Bool :=
  (if p = 1 then decide (s.devnum < s.lastDev) else decide (0 < s.devnum)) &&
    f.dev.toNat == s.partner p && f.last.toNat == s.lastDev && f.port == (p == 0)

/-- A HELLO in TRAINING. -/
def hello (p : Nat) (f : HelloF) (s : State) : State :=
  if s.pst p ≠ pTRAINING then s else
  let s := s.setFld (pageIDX p) Off.idx_PSTAT 8 2 f.dev.toNat
  if !s.helloFits p f then s.setFld (pageIDX p) Off.idx_PSTAT 16 8 2
  else if f.noauth ≠ s.noauth p then s
  else
    let s := s.setFld (pageIDX p) Off.idx_PSTAT 16 8 0
    if s.noauth p then partnerTo p pUP s
    else
      let s := partnerTo p pAUTHENTICATING s
      if f.key.toNat = leVal (teamKid s.rind.teamKey) then s else quarantinePort p 0x05 s

def execHello (p : Fin 2) (h : FrameHdr) (f : HelloF) (s : State) : Out := .next (receive p h (.hello f) (hello p f) s)

/-- The bytes over which responses and session keys are formed. -/
def State.authBytes (s : State) (p : Nat) (lead : List Byte) : List Byte :=
  let x := s.idx p
  let own := leBytes 8 x.nonce.toNat
  let peer := leBytes 8 (x.peer.getD 0).toNat
  lead ++ (if p = 1 then own ++ peer else peer ++ own)

/-- The response of a device (R313). -/
def State.response (s : State) (p dev : Nat) : BitVec 64 :=
  (Config.aesCmac s.rind.teamKey (s.authBytes p [0x5A, BitVec.ofNat 8 dev])).extractLsb' 64 64

/-- An AUTH frame: the partner's nonce, which is answered with the response, then the partner's response, which is verified. -/
def authFrame (p : Nat) (v : BitVec 64) (s : State) : State :=
  if s.pst p ≠ pAUTHENTICATING then s else
  match (s.idx p).peer with
  | none =>
    let s := s.setIdx p { s.idx p with peer := some v }
    s.idxSend p (BitVec.ofNat 2 s.devnum) (BitVec.ofNat 2 (s.partner p)) false (.auth (s.response p s.devnum))
  | some _ =>
    if v = s.response p (s.partner p) then
      let k := Config.aesCmac s.rind.teamKey (s.authBytes p [0xA5])
      partnerTo p pUP (s.setIdx p { s.idx p with key := some k })
    else quarantinePort p 0x05 s

def execAuthFrame (p : Fin 2) (h : FrameHdr) (v : BitVec 64) (s : State) : Out :=
  .next (receive p h (.auth v) (authFrame p v) s)

/-! ### CREDIT (R311) -/

/-- Frames that wait go while credits last. -/
def drainWaiting (p : Nat) : Nat → State → State
  | 0, s => s
  | n + 1, s =>
    let x := s.idx p
    match x.waiting with
    | [] => s
    | w :: t => if x.cred = 0 then s else drainWaiting p n ((s.setIdx p { x with waiting := t }).transmit p w.1 w.2.1 w.2.2.1 w.2.2.2)

/-- A CREDIT frame: credits return, frames up to the acknowledged FSEQ are done; a NAK names the frame to replay from. -/
def credit (p : Nat) (f : CreditF) (s : State) : State :=
  let x := s.idx p
  -- how many of the kept frames are acknowledged: the FSEQ is cumulative
  let done (t : TxFrame) : Bool :=
    let d := (f.ack - BitVec.ofNat 16 t.cnt).toNat
    if f.nak then decide (0 < d) && decide (d < 2 ^ 15) else decide (d < 2 ^ 15)
  let left := x.unacked.filter (fun t => !done t)
  let s := s.setIdx p { x with cred := min 16 (x.cred + f.returned.toNat), unacked := left }
  let s := if f.nak then
      let s := s.setReg (pageIDX p) Off.idx_TXFRM (s.reg (pageIDX p) Off.idx_TXFRM + BitVec.ofNat 32 left.length)
      s.setIdx p { s.idx p with last := (left.getLast?).or (s.idx p).last }
    else inTime p s
  drainWaiting p (s.idx p).waiting.length s

def execCredit (p : Fin 2) (h : FrameHdr) (f : CreditF) (s : State) : Out := .next (receive p h (.credit f) (credit p f) s)

/-! ### Time alignment (R316) -/

/-- The present time in 1/16 LSB, `frac` sixteenths into its clock. -/
def State.stamp16 (s : State) (frac : BitVec 4) : BitVec 64 := BitVec.ofNat 64 (16 * s.now + frac.toNat)

/-- A request is answered. -/
def timeRequest (p : Nat) (h : FrameHdr) (f : TimeF) (rx : BitVec 64) (s : State) : State :=
  s.idxSend p (BitVec.ofNat 2 s.devnum) h.src false
    (.time { reply := true, t1 := f.t1, t2 := rx, t3 := s.stamp16 h.frac, resid := if s.devnum = 0 then 0 else s.residual16,
             aligned := s.aligned, degraded := s.pathDegraded })

/-- The difference of two stamps. -/
def stampDiff (a b : BitVec 64) : Int := (a - b).toInt

/-- The mean of the exchanges held, in 1/16 LSB. -/
def meanOf (l : List Int) : Int := if l.isEmpty then 0 else (l.sum).tdiv (2 * l.length)

/-- In CONFIGURE a follower that is more than 2 LSBs off steps, or is held (R316). -/
def timeStep (s : State) : State :=
  if s.md ≠ mCONFIGURE ∨ s.idx0.exch.length < 8 then s
  else
    let o := s.residual16
    if 32 < o then
      let n := (divRound o 16).toNat
      let s := s.jump n (s.tb.toNat + n)
      { s with idx0 := { s.idx0 with exch := [] } }
    else if o < -32 then { s with idx0 := { s.idx0 with exch := [], hold := ((15 - o) / 16).toNat } }
    else s

/-- The slew rate that an exchange sets outside CONFIGURE: the drift seen since the last one and the offset are to be null at the
next; it is at most one LSB in 1,024 TB clocks (R316). -/
def setRate (s : State) : State :=
  let x := s.idx0
  let o := s.residual16
  let r := x.rate + divRound (o - x.resLast + o) 16
  { s with idx0 := { x with rate := if s.md = mCONFIGURE then x.rate else max (-13) (min 13 r), resLast := o } }

/-- The leader-side port takes a reply. -/
def timeReply (f : TimeF) (rx : BitVec 64) (s : State) : State :=
  let x := s.idx0
  if x.t1 ≠ some f.t1.toNat then s else
  let o := stampDiff f.t2 f.t1 + stampDiff f.t3 rx
  let d := stampDiff rx f.t1 - stampDiff f.t3 f.t2
  let l := ((o, d) :: x.exch).take 8
  let s := { s with idx0 := { x with exch := l, t1 := none, resid := f.resid, lead := f.aligned, degr := f.degraded } }
  let ofs := meanOf (l.map (·.1))
  let s := s.setReg (pageIDX 0) Off.idx_OFFSET (BitVec.ofInt 32 ofs)
  let s := s.setReg (pageIDX 0) Off.idx_LDELAY (BitVec.ofInt 32 (meanOf (l.map (·.2))))
  let s := s.setReg (pageIDX 0) Off.idx_RESIDUAL (BitVec.ofInt 32 (ofs + f.resid))
  judgeAligned (timeStep (setRate (inTime 0 s)))

def timeFrame (p : Nat) (h : FrameHdr) (f : TimeF) (rx : BitVec 64) (s : State) : State :=
  if !s.portUp p then s
  else if f.reply then (if p = 0 ∧ s.devnum ≠ 0 then timeReply f rx s else s)
  else timeRequest p h f rx s

def execTime (p : Fin 2) (h : FrameHdr) (f : TimeF) (rx : BitVec 64) (s : State) : Out :=
  .next (receive p h (.time f) (timeFrame p h f rx) s)

/-- Every 16 µs the leader-side port sends TIME. -/
def timeExchange (p : Nat) (t1 : BitVec 64) (s : State) : State :=
  if p ≠ 0 ∨ s.devnum = 0 ∨ !s.portUp p then s
  else ({ s with idx0 := { s.idx0 with t1 := some t1.toNat } }).idxSend 0 (BitVec.ofNat 2 s.devnum)
    (BitVec.ofNat 2 (s.partner 0)) false (.time { reply := false, t1 := t1 })

def execTimeExchange (p : Fin 2) (t1 : BitVec 64) (s : State) : Out := .next (timeExchange p t1 s)

/-- TB at which the next slew of the rate in force falls due: never more than one in 1,024 TB clocks. -/
def IdxPort.slewDue (x : IdxPort) : Nat := x.slewed + max 1024 (12800 / x.rate.natAbs)

/-- A follower slews outside CONFIGURE at its rate: an extra LSB, or an increment omitted. It keeps the rate while its port is off. Of
a hold of CONFIGURE the clocks that are left have passed (R315, R316). -/
def tbSlew (s : State) : State :=
  let x := s.idx0
  if x.hold ≠ 0 then { s with idx0 := { x with hold := 0 } }
  else if (s.pageOn (pageIDX 0) ∧ s.devnum = 0) ∨ s.md = mCONFIGURE ∨ x.rate = 0 ∨ s.tbStopped then s
  else
    let s := s.upTo x.slewDue
    let s := { s with idx0 := { s.idx0 with slewed := s.now, skip := decide (x.rate < 0) } }
    if x.rate < 0 then s else s.upTo (s.now + 1)

def execTbSlew (s : State) : Out := .next (tbSlew s)

/-! ### Imported wheels (R317) -/

/-- The units that take what a unit of a device exports. -/
def State.importers (s : State) (dev unit : Nat) : List Nat :=
  (List.range 8).filter (fun u => s.active (pageWU u) && s.imports u && s.fld (pageIDX 0) (Off.idx_IMP u) 1 2 == dev &&
    s.fld (pageIDX 0) (Off.idx_IMP u) 4 3 == unit)

/-- Broadcast frames go on along the chain. -/
def relayCast (p : Nat) (h : FrameHdr) (l : Payload) (s : State) : State :=
  if s.portUp (1 - p) then s.idxSend (1 - p) h.src h.dst true l else s

/-- The angle positions of a MAP frame as unwrapped angles. -/
def unwrap : Int → List Word → List Int
  | _, [] => []
  | a, w :: t =>
    let b := a + (((w.toNat : Int) - a) % 2 ^ 32)
    b :: unwrap b t

/-- The state of an exporter is taken, unless the two devices are not aligned (R317). -/
def takeState (u new : Nat) (s : State) : State :=
  let new := if s.aligned && (s.wheel u).impAligned then new else wSEARCH
  if (s.wheel u).state = new then s else
  let s := syncTo u new 0x13 s
  s.setWheel u { s.wheel u with rev := new == wREVERSE, mapValid := (s.wheel u).mapValid && (new == wFULL || new == wCAM) }

/-- A MAP frame: for the interval that follows, the calendar uses it from its receipt as a local map from its publication
(R117, R125, R317). -/
def mapTake (f : MapF) (u : Nat) (s : State) : State :=
  let s := s.setWheel u { s.wheel u with impAligned := f.aligned }
  let s := takeState u f.state.toNat s
  if !(s.aligned && f.aligned) then s else
  let b := s.near f.bstart.toNat
  let ts := segTimes b (s.boundaryAfter b)
  let a0 := (f.th.headD 0).toNat
  let th := unwrap a0 f.th
  let m : AMap := { t := ts, th := th, slope := segSlopes ts th }
  let s := s.setWheel u { s.wheel u with impMap := some m, impFirst := f.first, impJump := f.jump, cyc := f.cyc.toNat }
  if b ≠ s.tick.next then s
  else resolveHeld u ((s.setMap u { s.mapOf u with nxt := some m }).setWheel u { s.wheel u with mapValid := true })

def mapRx (p : Nat) (h : FrameHdr) (f : MapF) (s : State) : State :=
  if !s.portUp p then s else
  (s.importers h.src.toNat f.unit.toNat).foldl (fun s u => mapTake f u s) (relayCast p h (.map f) s)

def execMap (p : Fin 2) (h : FrameHdr) (f : MapF) (s : State) : Out := .next (receive p h (.map f) (mapRx p h f) s)

def stateRx (p : Nat) (h : FrameHdr) (f : StateF) (s : State) : State :=
  if !s.portUp p then s else
  (s.importers h.src.toNat f.unit.toNat).foldl (fun s u => takeState u f.new.toNat s) (relayCast p h (.state f) s)

def execState (p : Fin 2) (h : FrameHdr) (f : StateF) (s : State) : Out := .next (receive p h (.state f) (stateRx p h f) s)

/-- Cycle P/2 of the tick, or P − 320 where the path is DEGRADED: a map that is missing loses the wheel. -/
def importMapDeadline (u : Nat) (s : State) : State :=
  if !(s.active (pageWU u) && s.imports u) then s else
  let p := if s.importsVia u 1 then 1 else 0
  let c := if s.pst p = pDEGRADED then s.tick.len - 320 else s.tick.len / 2
  let s := s.upTo (s.tick.bnd + 2 * c)
  let here := match (s.wheel u).impMap with
    | some m => m.tStart == s.tick.next
    | none => false
  if here then s else importLost u 0x14 s

def execImportMapDeadline (u : Fin 8) (s : State) : Out := .next (importMapDeadline u s)

/-- At the boundary `b` each importing unit publishes the map received for the interval that begins (R317). -/
def importPublish (b : Nat) (s : State) : State :=
  (List.range 8).foldl (fun s u =>
    if !(s.active (pageWU u) && s.imports u) then s else
    match (s.wheel u).impMap with
    | some m =>
      if m.tStart = b ∧ ((s.wheel u).state = wFULL ∨ (s.wheel u).state = wCAM) then
        let ms := s.mapOf u
        let joined := ms.lastEnd == some m.start
        let s := s.setMap u { ms with cur := some m, lastEnd := some m.stop }
        let s := s.setWheel u { s.wheel u with mapValid := true }
        let s := showMap s u m.tStop { t2 := m.tStart, th2 := m.start, w2 := 0, a := 0, first := (s.wheel u).impFirst }
          { map := m, delta := 0, jump := if (s.wheel u).impJump then some 0 else none }
        let s := if s.exported u then s.idxCast (mapFrame s u m (s.wheel u).impFirst (s.wheel u).impJump) else s
        resampleMap u m (!joined || (s.wheel u).impJump) s
      else
        let s := s.setFld pageANG1 (Off.angMap_MAPSTAT u) 0 1 0
        (s.setMap u { s.mapOf u with cur := none }).setWheel u { s.wheel u with mapValid := false }
    | none => s) s

/-! ### Messages (R318) -/

/-- The port on the way to a device. -/
def State.wayTo (s : State) (d : Nat) : Nat := if s.devnum < d then 1 else 0

def msgRx (p : Nat) (h : FrameHdr) (addr sender : Word) (body : List Word) (s : State) : State :=
  if !s.portUp p then s else
  let x := s.idx p
  let s := s.setIdx p { x with msgs := x.msgs + 1 }
  if s.fld (pageIDX p) Off.idx_LCFG 8 8 < x.msgs + 1 then quarantinePort p 0x02 s
  else
    let m : Msg := { addr := addr, sender := sender, lo := body.getD 0 0, hi := body.getD 1 0 }
    let d := h.dst.toNat
    if d = s.devnum then deliver m s
    else if s.portUp (s.wayTo d) then s.idxSend (s.wayTo d) h.src h.dst false (.msg addr sender body)
    else bounce m eSTATE (sMSGBNC (s.wayTo d) s)

def execMsg (p : Fin 2) (h : FrameHdr) (addr sender : Word) (body : List Word) (s : State) : Out :=
  .next (receive p h (.msg addr sender body) (msgRx p h addr sender body) s)

def bounceRx (p : Nat) (h : FrameHdr) (ws : List Word) (r : Nat) (s : State) : State :=
  if !s.portUp p then s else
  let d := h.dst.toNat
  if d = s.devnum then bounceLocal r ws s
  else if s.portUp (s.wayTo d) then s.idxSend (s.wayTo d) h.src h.dst false (.bounce ws (BitVec.ofNat 4 r))
  else s

def execBounceFrame (p : Fin 2) (h : FrameHdr) (ws : List Word) (role : BitVec 4) (s : State) : Out :=
  .next (receive p h (.bounce ws role) (bounceRx p h ws role.toNat) s)

/-! ### Commands, boundaries and views (R319, R320) -/

def idxPortOf (q : Req) : Nat := pageInst q.page.toNat

def readmit : Cmd where
  errs q s := [(eSTATE, !s.active q.page.toNat), (eSTATE, s.pst (idxPortOf q) != pQUARANTINED)]
  run q s := (partnerTo (idxPortOf q) pTRAINING s).finish q.page.toNat 0x40 {}

def retrain : Cmd where
  errs q s := [(eSTATE, !s.active q.page.toNat), (eSTATE, s.pst (idxPortOf q) == pQUARANTINED)]
  run q s := (partnerTo (idxPortOf q) pTRAINING s).finish q.page.toNat 0x41 {}

/-- DISABLE, or the port's domain going down: the partner is held ABSENT, with the effects of R315. -/
def portOff (p : Nat) (s : State) : State := if s.pst p = pABSENT then s else partnerTo p pABSENT s

/-- The counts of a tick start again (R311, R314). -/
def idxTick (s : State) : State :=
  { s with idx0 := { s.idx0 with crcs := 0, msgs := 0, bad := 0 }, idx1 := { s.idx1 with crcs := 0, msgs := 0, bad := 0 } }

/-- PSTAT: ALIGNED is that of the device, 1 always on device 0; LEADSIDE marks the port that faces device 0 (R316, R319). -/
def pstatWord (s : State) (p : Nat) : Word :=
  BitVec.ofNat 32 (putBits (putBits (s.reg (pageIDX p) Off.idx_PSTAT).toNat 12 1 (bit s.aligned)) 13 1
    (bit (p == 0 && s.devnum != 0)))

/-- OFFSET and RESIDUAL are those of the port that faces device 0; another reads 0 (R319). -/
def offsetWord (s : State) (p o : Nat) : Word := if p = 0 ∧ s.devnum ≠ 0 then s.reg (pageIDX p) o else 0

def idxCreditWord (s : State) (p : Nat) : Word := BitVec.ofNat 32 ((s.idx p).cred + (s.idx p).unacked.length * 2 ^ 8)

end Sys2Proof.Machine
end

