-- ==== Sys2Proof/Machine/Press.lean ====
section
/-! DEFINITION. Press: LOAD, BANK_SWITCH, MIRROR_COPY, the control-store window and repairs (R183 to R188, R193, R194, R302, R357,
R381). -/

namespace Sys2Proof.Machine

def lvOPEN : Nat := 0
def lvTEAM : Nat := 1
def lvSEALED : Nat := 2

/-- The security level (R350). -/
def State.level (s : State) : Nat := s.fld pageRIND Off.rind_LEVEL 0 2

/-- The clusters of CLMASK. -/
def State.clMask (s : State) : List Nat := (List.range 16).filter (fun c => bitOf (s.fld pagePRESS Off.press_CLMASK 0 16) c)

/-- The bank of engine 0, and so of an unsplit cluster. -/
def State.bankOf (s : State) (c : Nat) : Bool := (s.eng (8 * c)).bank

/-- The clusters that have a word stored. -/
def State.wordsIn (s : State) (c : Nat) (b : Bool) : List (Nat × MicroWord) :=
  (s.cstore.filter (fun e => e.1 / 4096 == bankKey c b)).map (fun e => (e.1 % 4096, e.2))

/-- Put words into a bank. -/
def State.putBank (s : State) (c : Nat) (b : Bool) (ws : List (Nat × MicroWord)) : State :=
  { s with cstore := ws.foldl (fun m w => m.set 0 (storeKey c b w.1) w.2) s.cstore }

/-- A write to the inactive bank: neither bank is then a copy of the other (R184). -/
def State.markWritten (s : State) (c : Nat) (x : BankSt) : State :=
  let b := !s.bankOf c
  (s.setBank c b x).setBank c (!b) { s.bankSt c (!b) with copy := false }

/-- The block state, the modes and the mask of every command (R194). -/
def pressErrs (s : State) : List (Nat × Bool) :=
  [ (eSTATE, !s.active pagePRESS), (eSTATE, !(s.md == mCONFIGURE || s.serving)), (eVALUE, s.clMask.isEmpty) ]

/-! ### LOAD (R183, R184, R357) -/

/-- LOAD clears the marks of the banks that it writes; IMGLEN at its reset value 0 is no legal length (R193). The command keeps
IMGLEN and the clusters. -/
def load : Cmd where
  errs _ s := pressErrs s ++
    [(eSTATE, s.clMask.any s.split), (eVALUE, decide (s.fld pagePRESS Off.press_IMGLEN 0 21 < 64))]
  run _ s :=
    let s := s.keepRun pagePRESS 0x40 (s.fld pagePRESS Off.press_IMGLEN 0 21 :: s.clMask)
    let s := s.setReg pagePRESS Off.press_LDSTAT 0
    s.clMask.foldl (fun s c => s.markWritten c {}) s

/-- The trailer of an image meets the rules of the level (R357). -/
def trailerOk (s : State) (bs : List Byte) : Bool :=
  let n := bs.length - 64
  let h := hashBytes (bs.take n)
  s.level == lvOPEN ||
    (sliceOf bs n 32 == h && sliceOf bs (n + 32) 16 == macBytes s.rind.teamKey h && sliceOf bs (n + 48) 8 == teamKid s.rind.teamKey &&
      sliceOf bs (n + 56) 8 == List.replicate 8 0 &&
      (s.level == lvTEAM || (match s.rind.pkg with
        | some k => k.images.contains (Config.sha256 (bs.take n))
        | none => false)))

/-- A LOAD can end so now: nothing comes back while the device may issue no request, and with the link down no read succeeds; an
image that was read has IMGLEN bytes (R184, R300, R303). -/
def loadMayEnd (img : Image) (len : Nat) (s : State) : Bool :=
  s.dmaReady && (img.dma != .ok || (s.host.linkUp && img.bytes.length == len))

/-- The end of a LOAD: the words stand in the inactive banks, which are VALID if it completes with OK. -/
def loadComplete (img : Image) (s : State) : State :=
  match s.running.find? (fun r => r.req.page.toNat == pagePRESS && r.code == 0x40) with
  | none => s
  | some r =>
    if !loadMayEnd img (r.data.headD 0) s then s else
    let s := match img.dma with
      | .ok => s
      | .timeout => s.dmaFail pagePRESS eTIMEOUT
      | .refused => s.dmaFail pagePRESS eACCESS
    let code := match img.dma with
      | .ok => if trailerOk s img.bytes then eOK else eAUTH
      | .timeout => eTIMEOUT
      | .refused => eACCESS
    let ws := img.words.map (fun w => (w.1.toNat, w.2))
    let st : BankSt := { valid := code == eOK, sha := if code = eOK then some (Config.sha256 (img.bytes.take (img.bytes.length - 64))) else none }
    let s := (r.data.drop 1).foldl (fun s c =>
      let b := !s.bankOf c
      if img.dma = .ok then (s.putBank c b ws).setBank c b st else s) s
    let s := s.setReg pagePRESS Off.press_LDSTAT (BitVec.ofNat 32 (min img.bytes.length (2 ^ 21 - 1) + code * 2 ^ 24))
    (s.intSet pagePRESS 16).endRun r { code := code }

/-- ABORT of a LOAD: LDSTAT shows its code (R193). -/
def abortLoad (r : Running) (s : State) : State :=
  (s.setFld pagePRESS Off.press_LDSTAT 24 8 eSTATE).endRun r { code := eSTATE, aborted := true }

def execLoadComplete (img : Image) (s : State) : Out := .next (loadComplete img s)

/-! ### BANK_SWITCH (R172, R185) -/

/-- The bank that a BANK_SWITCH of a cluster leads to: a split cluster goes on to the bank of the switch that split it. -/
def State.switchDest (s : State) (c : Nat) : Bool := if s.split c then s.press.dest.get false c else !s.bankOf c

def bankSwitch : Cmd where
  errs _ s := pressErrs s ++
    [ (eSTATE, s.clMask.any (fun c => !s.split c &&
        !((s.bankSt c (!s.bankOf c)).valid || (s.level == lvOPEN && (s.bankSt c (!s.bankOf c)).win)))) ]
  run _ s :=
    let l := s.clMask
    let s := { s with press := { s.press with dest := l.foldl (fun m c => m.set false c (s.switchDest c)) s.press.dest } }
    s.keepRun pagePRESS 0x41 (s.fld pagePRESS Off.press_SWCFG 0 4 :: l)

/-- An engine goes to a bank, and the resume address of each of its tasks becomes its ENTRY (R172). -/
def switchEngine (b : Bool) (e : Nat) (s : State) : State :=
  let c := e / 8
  let s := { s with engs := s.engs.set {} e { s.eng e with bank := b } }
  (List.range 256).foldl (fun s t =>
    if s.taskEngine c t = e % 8 then s.setTask c t { s.task c t with resume := s.taskEntry c t } else s) s

/-- The engines of clusters that still stand on their old bank. -/
def State.unswitched (s : State) (l : List Nat) : List Nat :=
  (l.flatMap (fun c => (List.range 8).map (8 * c + ·))).filter (fun e => (s.eng e).bank != s.press.dest.get false (e / 8))

/-- RESULT words 4 to 7 of a BANK_SWITCH. -/
def switchResult (l : List Nat) : List Word :=
  (List.range 4).map (fun w => BitVec.ofNat 32 (((l.filter (fun e => e / 32 == w)).map (fun e => 2 ^ (e % 32))).sum))

/-- The trailer of a checked pair follows its leader. -/
def State.leads (s : State) (e : Nat) : Nat := if s.checked e then e / 2 * 2 else e

/-- Step 4 of a boundary (R20, R185). -/
def switchAtBoundary (s : State) : State :=
  match s.running.find? (fun r => r.req.page.toNat == pagePRESS && r.code == 0x41) with
  | none => s
  | some r =>
    let l := r.data.drop 1
    let now := (s.unswitched l).filter (fun e => (s.eng (s.leads e)).atBoundary)
    let s := now.foldl (fun s e => switchEngine (s.press.dest.get false (e / 8)) e s) s
    let left := s.unswitched l
    if left.isEmpty then (s.intSet pagePRESS 17).endRun r { res := switchResult [] }
    else match r.data.head? with
      | some (n + 1) => s.keepRun pagePRESS 0x41 (n :: l)
      | _ => (s.intSet pagePRESS 18).endRun r { code := eTIMEOUT, res := switchResult left }

/-- ABORT of a BANK_SWITCH: engines that have switched stay so. -/
def abortSwitch (s : State) : State :=
  match s.running.find? (fun r => r.req.page.toNat == pagePRESS && r.code == 0x41) with
  | none => s
  | some r => s.endRun r { code := eSTATE, aborted := true, res := switchResult (s.unswitched (r.data.drop 1)) }

/-! ### MIRROR_COPY (R187) -/

/-- The active bank of a cluster is copied to its inactive one. -/
def copyBank (c : Nat) (s : State) : State :=
  let b := s.bankOf c
  let s := { s with cstore := s.cstore.filter (fun e => e.1 / 4096 != bankKey c (!b)) }
  (s.putBank c (!b) (s.wordsIn c b).reverse).setBank c (!b) { valid := true, copy := true, sha := (s.bankSt c b).sha }

/-- MIRROR_COPY clears the marks of the banks that it writes (R184). -/
def mirrorCopy : Cmd where
  errs _ s := pressErrs s ++ [(eSTATE, s.clMask.any s.split)]
  run _ s := s.clMask.foldl (fun s c => s.markWritten c {}) (s.keepRun pagePRESS 0x42 s.clMask)

/-- A MIRROR_COPY ends: the command's, else Press's own for the clusters with MIRROR = 1 at the beginning of RUN. -/
def mirrorCopyComplete (s : State) : State :=
  match s.running.find? (fun r => r.req.page.toNat == pagePRESS && r.code == 0x42) with
  | some r => (r.data.foldl (fun s c => copyBank c s) s).endRun r {}
  | none =>
    let l := s.press.own.filter (fun c => !s.split c)
    let s := l.foldl (fun s c => copyBank c s) s
    { s with press := { s.press with own := [] } }

def execMirrorCopyComplete (s : State) : Out := .next (mirrorCopyComplete s)

/-- RUN begins: Press's own MIRROR_COPY of each cluster with MIRROR = 1 whose inactive bank is not VALID (R187). -/
def mirrorAtRun (s : State) : State :=
  let l := (List.range 16).filter (fun c =>
    s.flag (pageCL c) Off.cl_CSCFG 0 && !s.split c && !(s.bankSt c (!s.bankOf c)).valid)
  l.foldl (fun s c => s.markWritten c {}) { s with press := { s.press with own := l } }

/-! ### The control-store window (R184, R302) -/

/-- Cluster, bank, word and slot offset of a window offset (R301). -/
def winCluster (off : Nat) : Nat := (off - 0x400000) / 0x40000
def winBank (off : Nat) : Bool := off / 0x20000 % 2 == 1
def winWord (off : Nat) : Nat := off % 0x20000 / 0x20

/-- A write that the window discards. -/
def winReject (s : State) : State := (s.addSat pagePRESS Off.press_WINREJ 0 16 1).intSet pagePRESS 21

/-- A discarded BAR2 access (R302). -/
def bar2Reject (s : State) : State := (s.addSat pageHOSTIF Off.hostif_BAR2REJ 0 16 1).intSet pageHOSTIF 19

/-- The word of a slot from its staged words and P0 to P3; words that nobody staged are open. -/
def stagedWord (base : Nat) (par : Nat) (s : State) : MicroWord × State :=
  let step (a : Nat × State) (i : Nat) : Nat × State :=
    match s.press.stage.find? (fun x => x.1 == base + 4 * i) with
    | some x => (a.1 + x.2.toNat * 2 ^ (32 * i), a.2)
    | none => let (w, t) := a.2.drawn; (a.1 + w.toNat * 2 ^ (32 * i), t)
  let (n, s) := (List.range 4).foldl step (0, s)
  (BitVec.ofNat 132 (n + par % 16 * 2 ^ 128), { s with press := { s.press with stage := s.press.stage.filter (fun x => x.1 / 32 != base / 32) } })

/-- A write of 4 or 8 bytes into the windows. -/
def windowWrite (off : Nat) (data : List Byte) (s : State) : State :=
  let c := winCluster off
  let b := winBank off
  let o := off % 32
  if 0x14 ≤ o then bar2Reject s
  else if s.level ≠ lvOPEN ∨ s.split c ∨ s.bankOf c = b then winReject s
  else if o < 0x10 then
    let ws := (wordsOf data).zipIdx.map (fun x => (off + 4 * x.2, x.1))
    { s with press := { s.press with stage := s.press.stage.filter (fun x => ws.all (fun y => y.1 != x.1)) ++ ws } }
  else
    let (m, s) := stagedWord (off - o) (leVal (data.take 1)) s
    (s.putBank c b [(winWord off, m)]).markWritten c { valid := false, copy := false, win := true, sha := none }

/-- A write of BAR2 (R302): a control-store window takes it, every other offset discards it. -/
def bar2Take (off : Nat) (data : List Byte) (s : State) : State :=
  if (data.length = 4 ∨ data.length = 8) ∧ off % data.length = 0 ∧ 0x400000 ≤ off ∧ off < 0x800000 then windowWrite off data s
  else bar2Reject s

def execControlStoreWindowWrite (off : BitVec 26) (data : List Byte) (s : State) : Out := .next (bar2Take off.toNat data s)

/-! ### Repairs (R188, R381) -/

/-- A row of a control store, one word wide, is mapped to a spare row of its block of 512 rows, and written from the mirror. -/
def rowRepair (c : Nat) (b : Bool) (a : Nat) (s : State) : State :=
  let r := rowOf (16 + c) (bit b * 4096 + a)
  if s.spareRow r then rowReport r 0 ((useSpare r s).putBank c b [(a, s.storeWord c (!b) a)]) else rowReport r (2 ^ 28) s

/-- The oldest entry of the repair queue: the word is rewritten from the mirror and read back. -/
def pressRepair (readBackOk : Bool) (s : State) : State :=
  match s.press.repair with
  | [] => s
  | (c, b, a) :: t =>
    let s := { s with press := { s.press with repair := t } }
    let log := BitVec.ofNat 32 (a + bit b * 2 ^ 12 + c * 2 ^ 16 + bit readBackOk * 2 ^ 20)
    let s := s.setReg pagePRESS Off.press_REPLOG log
    if readBackOk then
      ((s.putBank c b [(a, s.storeWord c (!b) a)]).addSat pagePRESS Off.press_REPSTAT 0 8 1).intSet pagePRESS 19
    else rowRepair c b a ((s.setFld pagePRESS Off.press_REPSTAT 16 1 1).intSet pagePRESS 20)

def execPressRepair (readBackOk : Bool) (s : State) : Out := .next (pressRepair readBackOk s)

/-! ### Views (R193) -/

/-- The bank of most engines of a cluster. -/
def State.mostBank (s : State) (c : Nat) : Bool := decide (4 < ((List.range 8).filter (fun i => (s.eng (8 * c + i)).bank)).length)

def bankstWord (s : State) : Word :=
  BitVec.ofNat 32 (((List.range 16).map (fun c => bit (s.mostBank c) * 2 ^ c + bit (s.split c) * 2 ^ (16 + c))).sum)

def inactstWord (s : State) : Word :=
  BitVec.ofNat 32 (((List.range 16).map (fun c =>
    let k := s.bankSt c (!s.mostBank c)
    bit (!s.split c && k.valid) * 2 ^ c + bit (!s.split c && k.copy) * 2 ^ (16 + c))).sum)

def winstWord (s : State) : Word :=
  BitVec.ofNat 32 (((List.range 16).map (fun c => bit (!s.split c && (s.bankSt c (!s.mostBank c)).win) * 2 ^ c)).sum)

def repstatWord (s : State) : Word := withField (s.reg pagePRESS Off.press_REPSTAT) 8 5 s.press.repair.length

end Sys2Proof.Machine
end

