-- ==== Sys2Proof/Machine/Rind.lean ====
section
/-! DEFINITION. Rind: sessions, levels, the seal, limited-change settings, the change log and the read-out; the TAP (R350 to R366). -/

namespace Sys2Proof.Machine

/-! ### Sessions and the granted debug state (R353, R365, R366) -/

def slotPage : Slot → Nat
  | .host => pageRIND
  | .tap => pageDBG

def slotOf (p : Nat) : Slot := if p = pageDBG then .tap else .host

def State.session (s : State) : Slot → Bool
  | .host => s.rind.hostSess
  | .tap => s.rind.tapSess

/-- The debug port is open: in BOOT from 12 ms on (R329, R366). -/
def State.portOpen (s : State) : Bool :=
  s.rind.portOpen || (s.md == mBOOT && decide (s.modeClock + 9600000 ≤ s.now))

/-- The highest debug state that the mode, the level and the session permit (R366). -/
def State.permitted (s : State) : Nat :=
  if s.md = mBOOT then (if !s.portOpen then 0 else if s.level = lvOPEN then 2 else 1)
  else if s.md = mDORMANT then 0
  else if s.level = lvOPEN then 2
  else if s.level = lvTEAM ∧ s.rind.tapSess then 2 else 1

/-- DSTAT.GRANTED (R365). -/
def State.granted (s : State) : Nat := min (s.fld pageDBG Off.dbg_DBGCFG 0 2) s.permitted

/-- The grant is computed again after a change; a new grant sets GRANTCHG (R366, R369). -/
def State.regrant (old s : State) : State := if old.granted = s.granted then s else s.intSet pageDBG 16

/-- A session opens or ends; one that opens in the clock in which it was ended is closed (R353). -/
def State.setSession (s : State) (k : Slot) (on : Bool) : State :=
  let now := s.now + 1
  s.regrant { s with rind := match k, on with
    | .host, true => { s.rind with hostSess := s.rind.hostEnd != now }
    | .host, false => { s.rind with hostSess := false, hostEnd := now }
    | .tap, true => { s.rind with tapSess := s.rind.tapEnd != now }
    | .tap, false => { s.rind with tapSess := false, tapEnd := now } }

/-- Every session ends (R352, R353). -/
def State.endSessions (s : State) : State := (s.setSession .host false).setSession .tap false

def nonceLo : Slot → Nat
  | .host => Off.rind_NONCE_LO
  | .tap => Off.dbg_NONCE_LO

def nonceHi : Slot → Nat
  | .host => Off.rind_NONCE_HI
  | .tap => Off.dbg_NONCE_HI

def respLo : Slot → Nat
  | .host => Off.rind_RESP_LO
  | .tap => Off.dbg_RESP_LO

def respHi : Slot → Nat
  | .host => Off.rind_RESP_HI
  | .tap => Off.dbg_RESP_HI

def State.nonceOf (s : State) (k : Slot) : Nat := s.reg64 (slotPage k) (nonceLo k) (nonceHi k)
def State.setNonce (s : State) (k : Slot) (v : Nat) : State := s.setReg64 (slotPage k) (nonceLo k) (nonceHi k) v

/-- NEW_NONCE: a fresh random nonce in the page's NONCE (R353). -/
def newNonce : Cmd where
  errs _ s := [(eSTATE, s.md == mBOOT || s.md == mDORMANT)]
  run q s :=
    let k := slotOf q.page.toNat
    let s := s.setNonce k (Config.nonce s.rind.draws).toNat
    { s with rind := { s.rind with draws := s.rind.draws + 1 } }.finish q.page.toNat 0x40 {}

/-- The modes of AUTH and DEAUTH (R368). -/
def authErrs (s : State) : List (Nat × Bool) :=
  [(eSTATE, !(s.md == mCONFIGURE || s.serving || s.md == mHALT || s.md == mSAFE))]

def State.fails (s : State) : Slot → Nat
  | .host => s.fld pageRIND Off.rind_AUTHST 0 8
  | .tap => s.rind.tapFails

def State.setFails (s : State) (k : Slot) (n : Nat) : State :=
  match k with
  | .host => s.setFld pageRIND Off.rind_AUTHST 0 8 n
  | .tap => { s with rind := { s.rind with tapFails := n } }

def State.lockEnd (s : State) : Slot → Nat
  | .host => s.rind.lockHost
  | .tap => s.rind.lockTap

def State.setLock (s : State) (k : Slot) (t : Nat) : State :=
  { s with rind := match k with
    | .host => { s.rind with lockHost := t }
    | .tap => { s.rind with lockTap := t } }

/-- TB LSBs in a second. -/
def second : Nat := 800000000

/-- Length of the lockout after the nth failure in seconds (R353). -/
def lockSeconds (n : Nat) : Nat := if n < 4 then 0 else if 14 ≤ n then 1024 else 2 ^ (n - 4)

/-- The challenge of a slot (R353). -/
def challenge (s : State) (k : Slot) : List Byte :=
  [(0x3C : Byte), (match k with | .host => 0x01 | .tap => 0x02 : Byte)] ++ leBytes 8 Config.devUid.toNat ++ leBytes 8 (s.nonceOf k)

/-- The team key is loaded (R351). -/
def State.teamLoaded (s : State) : Bool := s.rind.teamMask == 0xF
def State.scrLoaded (s : State) : Bool := s.rind.scrMask == 0xFFFF

/-- The response of a slot opens its session. -/
def State.authOk (s : State) (k : Slot) : Bool :=
  s.nonceOf k != 0 && s.teamLoaded &&
    (macBytes s.rind.teamKey (challenge s k)).take 8 == leBytes 8 (s.reg64 (slotPage k) (respLo k) (respHi k))

/-- A failed AUTH: its count, its lockout and its alarm (R353). -/
def authFail (k : Slot) (s : State) : State :=
  let n := min (s.fails k + 1) 255
  let s := s.setFails k n
  let s := if 4 ≤ n then s.setLock k (s.now + lockSeconds n * second) else s
  let s := s.alarm (originOf (slotPage k)) 0x013 s.now [BitVec.ofNat 32 ((match k with | .host => 0 | .tap => 1) + n * 2 ^ 8)]
  s.intSet (slotPage k) (match k with | .host => 19 | .tap => 17)

/-- AUTH: it consumes the nonce, whatever its outcome (R353). -/
def auth : Cmd where
  errs _ s := authErrs s
  run q s :=
    let k := slotOf q.page.toNat
    let p := q.page.toNat
    if s.now < s.lockEnd k then (s.setNonce k 0).finish p 0x41 { code := eAUTH }
    else if s.authOk k then (((s.setNonce k 0).setFails k 0).setSession k true).finish p 0x41 {}
    else (authFail k (s.setNonce k 0)).finish p 0x41 { code := eAUTH }

/-- The end of a lockout. -/
def lockExpiry (k : Slot) (s : State) : State :=
  if s.lockEnd k = 0 then s else (s.upTo (s.lockEnd k)).setLock k 0

def execAuthLockoutExpiry (slot : Slot) (s : State) : Out := .next (lockExpiry slot s)

def deauth : Cmd where
  errs _ s := authErrs s
  run q s := (s.setSession (slotOf q.page.toNat) false).finish q.page.toNat 0x42 {}

/-! ### Keys (R351) -/

/-- Word i of a key of n words takes a value: word 0 holds the first key bytes, the first of them in its bits [7:0] (R6). -/
def keyWord (n : Nat) (k : Nat) (i : Nat) (w : Word) : Nat := putBits k (32 * (n - 1 - i)) 32 (beVal (wordBytes w))

def keyErrs (s : State) : List (Nat × Bool) := [(eSEALED, s.level != lvOPEN), (eSTATE, s.md != mCONFIGURE)]

def teamKeyDo (i : Nat) (w : Word) (s : State) : State :=
  { s with rind := { s.rind with teamKey := BitVec.ofNat 128 (keyWord 4 s.rind.teamKey.toNat i w),
                                 teamMask := s.rind.teamMask ||| BitVec.ofNat 4 (2 ^ i) } }

def scrKeyDo (i : Nat) (w : Word) (s : State) : State :=
  { s with rind := { s.rind with scrKey := BitVec.ofNat 512 (keyWord 16 s.rind.scrKey.toNat i w),
                                 scrMask := s.rind.scrMask ||| BitVec.ofNat 16 (2 ^ i) } }

/-- The identities of the keys; zero while a key is not loaded. -/
def State.teamId (s : State) : List Byte := if s.teamLoaded then teamKid s.rind.teamKey else List.replicate 8 0
def State.scrId (s : State) : List Byte :=
  if s.scrLoaded then (hashBytes (beBytes 64 s.rind.scrKey.toNat)).take 8 else List.replicate 8 0
def devId : List Byte := (hashBytes (beBytes 64 Config.devPub.toNat)).take 8

/-- A word of an identity or a hash as its registers show it (R6). -/
def byteWord (bs : List Byte) (i : Nat) : Word := BitVec.ofNat 32 (leVal (sliceOf bs (4 * i) 4))

/-- KEYSTAT. -/
def keystatWord (s : State) : Word := BitVec.ofNat 32 (bit s.teamLoaded + 2 * bit s.scrLoaded)

/-! ### Limited-change settings and the change log (R358 to R363) -/

/-- The registers of a setting (R358). -/
def settingRegs (k : Nat) : List Nat :=
  if k = 2 then [Off.rind_REVCEIL] else if k = 3 then (List.range 5).map Off.rind_HOMMAP
  else [Off.rind_ENGID_LO, Off.rind_ENGID_HI]

/-- The setting of a register of the RIND page. -/
def settingOf (o : Nat) : Option Nat :=
  if o = Off.rind_REVCEIL then some 2 else if 0x44 ≤ o ∧ o < 0x58 then some 3
  else if 0x58 ≤ o ∧ o < 0x60 then some 4 else none

def limitedRegs : List Nat := settingRegs 2 ++ settingRegs 3 ++ settingRegs 4

def State.setting (s : State) (k : Nat) : List Word := (settingRegs k).map (s.reg pageRIND)

/-- The value that a register of a setting had at the previous boundary. -/
def State.prevReg (s : State) (o : Nat) : Word := s.rind.prev.getD ((o - 0x40) / 4) 0

def State.prevSetting (s : State) (k : Nat) : List Word := (settingRegs k).map s.prevReg

/-- The hash of a setting's value (R359). -/
def settingHash (ws : List Word) : BitVec 256 := Config.sha256 (ws.flatMap wordBytes)

/-- A hash as bytes. -/
def digest (h : BitVec 256) : List Byte := beBytes 32 h.toNat

/-- Budget left of a setting (R358). -/
def State.budget (s : State) (k : Nat) : Nat := s.fld pageRIND Off.rind_BUDGET (8 * (k - 1)) 8
def State.spend (s : State) (k : Nat) : State := s.setFld pageRIND Off.rind_BUDGET (8 * (k - 1)) 8 (s.budget k - 1)

/-- The identity of the authorising key (R361). -/
def State.authId (s : State) (scr : Bool) : List Byte := if scr then s.scrId else s.teamId

/-- Words of a log entry (R361). -/
def logEntry (setting code level tb : Nat) (old new : List Byte) (id : List Byte) : List Word :=
  [BitVec.ofNat 32 (setting + code * 2 ^ 8 + level * 2 ^ 16), 0, BitVec.ofNat 32 tb, BitVec.ofNat 32 (tb / 2 ^ 32)] ++
    wordsOf (old.take 16) ++ wordsOf (new.take 16) ++ wordsOf (id.take 8) ++ [0, 0]

/-- An entry joins the change log, and Whey gets its record; refusals leave the last 64 places to changes (R362). -/
def State.appendLog (s : State) (change : Bool) (ws : List Word) : State :=
  if s.rind.log.length < (if change then 512 else 448) then
    { s with rind := { s.rind with log := s.rind.log ++ [ws] } }.log pageRIND 0x008 0x012 s.now
      [ws.getD 0 0, ws.getD 2 0, ws.getD 4 0, ws.getD 8 0]
  else if change then s else s.addSat pageRIND Off.rind_REFLOST 0 16 1

/-- n bytes that the spec leaves open. -/
def State.drawnBytes (s : State) : Nat → List Byte × State
  | 0 => ([], s)
  | n + 1 =>
    let (w, s) := s.drawn
    let (l, s) := s.drawnBytes n
    (wordBytes w ++ l, s)

/-- A refused write to a register of a setting, at TEAM or SEALED (R362). -/
def State.logRefused (s : State) (k code : Nat) (old new : List Word) : State :=
  if s.level = lvOPEN then s else
  (s.appendLog false (logEntry k code s.level s.now (digest (settingHash old)) (digest (settingHash new))
    (s.authId (s.level == lvSEALED)))).intSet pageRIND 18

/-- A seal transition, made or refused: the spec gives it no value, so its hashes are open (R359, R361). -/
def State.logLevel (s : State) (change : Bool) (code : Nat) (scr : Bool) : State :=
  let (o, s) := s.drawnBytes 4
  let (n, s) := s.drawnBytes 4
  let s := s.appendLog change (logEntry 1 code s.level s.now o n (s.authId scr))
  if change then s else s.intSet pageRIND 18

/-- Rejections of a write to a register of setting k (R354, R358, R360). -/
def limitedErrs (k : Nat) (s : State) : List (Nat × Bool) :=
  [ (eSEALED, (s.level == lvTEAM && !s.rind.hostSess) || (s.level == lvSEALED && s.fld pageRIND Off.rind_CHGAUTH 0 8 != k)),
    (eBUDGET, s.budget k == 0),
    (eBUSY, s.runs pageRIND 0x45) ]

/-- The value of a setting as the boundary clock began: a write in that clock belongs to the tick that follows (R360). -/
def State.judged (s : State) (k : Nat) : List Word := (settingRegs k).map (s.clockReg pageRIND)

/-- A register of a setting returns to its value at the previous boundary, but for a write in the boundary clock. -/
def revert (s : State) (o : Nat) : State :=
  let v := s.prevReg o
  let a := adr pageRIND o
  let s := if s.reg pageRIND o = s.clockReg pageRIND o then s.setReg pageRIND o v else s
  { s with atClock := Store.set (regReset a) s.atClock a v }

/-- The values that a change replaces stand by until the next boundary, for a power failure part-way through it (R363). -/
def keepOld (k : Nat) (s : State) : State :=
  { s with rind := { s.rind with undo := some { entry := s.rind.log.length - 1, regs := (settingRegs k).map (fun o => (o, s.prevReg o)) } } }

/-- The judgement of one setting at a boundary (R360). -/
def judgeSetting (k : Nat) (s : State) : State :=
  let old := s.prevSetting k
  let new := s.judged k
  let entry (code : Nat) (scr : Bool) := logEntry k code s.level s.now (digest (settingHash old)) (digest (settingHash new)) (s.authId scr)
  if old = new ∨ s.level = lvOPEN then s
  else if s.level = lvTEAM then keepOld k (((s.appendLog true (entry eOK false)).spend k).intSet pageRIND 17)
  else if s.fld pageRIND Off.rind_CHGAUTH 0 8 = k ∧ s.rind.authHash = some (settingHash new) then
    let s := keepOld k (((s.appendLog true (entry eOK true)).spend k).intSet pageRIND 17)
    { s.setReg pageRIND Off.rind_CHGAUTH 0 with rind := { s.rind with authHash := none } }
  else
    let s := (settingRegs k).foldl revert s
    (s.appendLog false (entry eAUTH true)).intSet pageRIND 18

/-- No change authorisation stands (R358). -/
def State.clearAuth (s : State) : State :=
  { s.setReg pageRIND Off.rind_CHGAUTH 0 with rind := { s.rind with authHash := none } }

/-- Step 3 of a boundary, first part: the limited-change settings (R20, R360). -/
def judgeSettings (s : State) : State :=
  let s := { s with rind := { s.rind with undo := none } }
  let s := judgeSetting 4 (judgeSetting 3 (judgeSetting 2 s))
  { s with rind := { s.rind with prev := limitedRegs.map (s.clockReg pageRIND) } }

/-- What a seal transition replaced stands again. -/
def putSealOld (o : SealOld) (s : State) : State :=
  let s := o.roleMap.zipIdx.foldl (fun (s : State) (w : Word × Nat) => s.setReg pageRIND (Off.rind_ROLEMAP w.2) w.1)
    (s.setFld pageRIND Off.rind_LEVEL 0 2 o.level)
  { s with rind := { s.rind with teamKey := o.teamKey, teamMask := o.teamMask, scrKey := o.scrKey, scrMask := o.scrMask,
                                 pkg := o.pkg, terr := o.terr, sealRoles := o.sealRoles } }

/-- What a seal transition is about to replace. -/
def State.sealOld (s : State) : SealOld :=
  { level := s.level, teamKey := s.rind.teamKey, teamMask := s.rind.teamMask, scrKey := s.rind.scrKey, scrMask := s.rind.scrMask,
    pkg := s.rind.pkg, terr := s.rind.terr, sealRoles := s.rind.sealRoles,
    roleMap := (List.range 4).map (fun w => s.reg pageRIND (Off.rind_ROLEMAP w)) }

/-- The mark TORN of an entry. -/
def tornMark (e : List Word) : List Word := e.set 0 (setBit (e.getD 0 0) 24)

/-- Rind verification of a BOOT after a loss of power: a change that was interrupted keeps its entry, marked TORN, and its budget
unit, and the old value stands (R361, R363). -/
def tornChange (s : State) : State :=
  match s.rind.undo with
  | none => s
  | some u =>
    let s := u.regs.foldl (fun (s : State) (v : Nat × Word) => s.setReg pageRIND v.1 v.2) s
    let s := match u.old with
      | some o => putSealOld o s
      | none => s
    { s with rind := { s.rind with log := s.rind.log.modify u.entry tornMark, prev := limitedRegs.map (s.reg pageRIND),
                                   undo := none } }.rindCrc

/-- The rev-ceiling hold of a boundary (R359): SPEED is in 1/256 rpm. -/
def revCeiling (s : State) : State :=
  let ceil := s.fld pageRIND Off.rind_REVCEIL 0 16
  let sp := (s.reg (pageWU (s.serve (s.fld pageRIND Off.rind_REVCEIL 16 3)).1) Off.wu_SPEED).toNat
  let on := ceil != 0 && (decide (ceil * 256 < sp) || (s.rind.hold && decide (ceil * 256 < sp + 200 * 256)))
  ({ s with rind := { s.rind with hold := on } }).dropFollow.dropPwmPins

/-! ### Level commands (R352, R354, R358) -/

/-- A level command fails a check: it completes with the code and changes nothing. -/
def levelFail (code cmd : Nat) (s : State) : State :=
  let scr := cmd == 0x45 || cmd == 0x46
  let s := if s.level != lvOPEN && (code == eBUDGET || code == eSEALED || code == eAUTH || code == eVALUE)
    then s.logLevel false code scr else s
  { s with rind := { s.rind with sealing := none } }.finish pageRIND cmd { code := code }

/-- The checks of a level command have passed: the level changes at the next boundary. -/
def levelDue (cmd level : Nat) (s : State) : State :=
  { s with rind := { s.rind with level := some { code := cmd, level := level } } }

def levelErrs (frm : Nat) (s : State) : List (Nat × Bool) := [(eSTATE, s.md != mCONFIGURE || s.level != frm)]

def goTeam : Cmd where
  errs _ s := levelErrs lvOPEN s
  run _ s := if s.budget 1 = 0 then levelFail eBUDGET 0x43 s
    else if !(s.teamLoaded && s.scrLoaded) then levelFail eSTATE 0x43 s else levelDue 0x43 lvTEAM s

def goOpen : Cmd where
  errs _ s := levelErrs lvTEAM s
  run _ s := if !s.rind.hostSess then levelFail eSEALED 0x44 s
    else if s.budget 1 = 0 then levelFail eBUDGET 0x44 s else levelDue 0x44 lvOPEN s

/-- SEAL goes on with its package, which it reads from host memory; the pages it covers are not known before that. -/
def sealCmd : Cmd where
  errs _ s := levelErrs lvTEAM s
  run _ s := if !s.rind.hostSess then levelFail eSEALED 0x45 s
    else if s.budget 1 = 0 then levelFail eBUDGET 0x45 s
    else
      let (bs, s) := s.drawnBytes 4
      { s with rind := { s.rind with sealMask := BitVec.ofNat 128 (leVal bs) } }

def unsealCmd : Cmd where
  errs _ s := levelErrs lvSEALED s
  run _ s := if s.budget 1 = 0 then levelFail eBUDGET 0x46 s else s

/-- CHG_AUTH at other levels than SEALED is rejected (R368). -/
def chgAuth : Cmd where
  errs _ s := levelErrs lvSEALED s
  run _ s := s

/-- The package of a SEAL, as Rind stores it. -/
def readPkg (bs : List Byte) : SealPkg :=
  let mask := leVal (sliceOf bs 16 16)
  let pages := (List.range 128).filter (fun p => bitOf mask p)
  let n := pages.length
  let at_ (i : Nat) : Nat := 32 + 1988 * i
  { bytes := bs, pages := pages,
    crcs := pages.zipIdx.map (fun (k : Nat × Nat) => (k.1, byteWord (sliceOf bs (at_ k.2) 4) 0)),
    conf := pages.zipIdx.map (fun (k : Nat × Nat) => (k.1, wordsOf (sliceOf bs (at_ k.2 + 4) 1984))),
    images := (List.range (bs.getD 2 0).toNat).map (fun i => BitVec.ofNat 256 (beVal (sliceOf bs (at_ n + 32 * i) 32))) }

/-- A signature of the scrutineer over the bytes before it (R354, R358). -/
def State.scrSigned (s : State) (bs : List Byte) : Bool :=
  Config.ecdsaVerifies s.rind.scrKey (Config.sha256 (bs.take (bs.length - 64)))
    (BitVec.ofNat 512 (beVal (bs.drop (bs.length - 64))))

/-- The checks of a seal package, in order (R354). -/
def sealChecks (bs : List Byte) (k : SealPkg) (s : State) : List (Nat × Bool) :=
  let n := k.pages.length
  let img := (bs.getD 2 0).toNat
  [ (eVALUE, s.fld pageRIND Off.rind_PKGLEN 0 18 != bs.length || bs.length != 128 + 1988 * n + 32 * img || bs.getD 0 0 != 1 ||
      (bs.getD 1 0).toNat != n || n == 0 || decide (64 < n) || decide (4 < img) || bs.getD 3 0 != 0 || k.pages.any (!coverable ·)),
    (eAUTH, leVal (sliceOf bs 8 8) != Config.devUid.toNat || leVal (sliceOf bs 4 4) != 8 - s.budget 1 + 1 || !s.scrSigned bs),
    (eVALUE, k.conf.any (fun (e : Nat × List Word) => s.region e.1 != e.2) ||
      k.crcs.any (fun (e : Nat × Word) => s.regionCrc e.1 != e.2)),
    (eVALUE, regionBytes (limitedRegs.map (s.reg pageRIND)) != sliceOf bs (32 + 1988 * n + 32 * img) 32 ||
      limitedRegs.map (s.reg pageRIND) != limitedRegs.map s.prevReg) ]

/-- The first check of a list that fails. -/
def firstFail (l : List (Nat × Bool)) : Nat := match l.find? (·.2) with | some e => e.1 | none => eOK

/-- The snapshot of the TERR tables (R354). -/
def State.terrNow (s : State) : List (Nat × Word) :=
  (List.range 8).flatMap (fun u => (List.range 120).map (fun j => (adr (pageWUX u) (Off.wux_TERR j), s.reg (pageWUX u) (Off.wux_TERR j))))

/-- The device reads host memory: its link is up and it may issue requests (R300, R303). -/
def State.hostReads (s : State) : Bool := s.host.linkUp && s.dmaReady

/-- Rind has read the package of a SEAL and verified it. -/
def sealVerifyEnd (bs : List Byte) (s : State) : State :=
  if !s.runs pageRIND 0x45 || s.rind.level.isSome || !s.hostReads then s else
  let k := readPkg bs
  let e := firstFail (sealChecks bs k s)
  if e != eOK then levelFail e 0x45 s
  else levelDue 0x45 lvSEALED { s with rind := { s.rind with sealing := some k, terr := s.terrNow } }

def execSealVerifyEnd (pkg : List Byte) (s : State) : Out := .next (sealVerifyEnd pkg s)

/-- A token meets its fields and its signature (R358); KIND and SEQ by the command. -/
def tokenOk (bs : List Byte) (change : Bool) (s : State) : Bool :=
  let set := (bs.getD 1 0).toNat
  bs.length == 128 && bs.getD 0 0 == (if change then 2 else 1) &&
    (if change then decide (2 ≤ set ∧ set ≤ 4) else set == 1) && leVal (sliceOf bs 2 2) == 0 &&
    leVal (sliceOf bs 4 4) == (if change then s.rind.log.length else 8 - s.budget 1 + 1) &&
    leVal (sliceOf bs 8 8) == Config.devUid.toNat &&
    s.nonceOf .host != 0 && leVal (sliceOf bs 16 8) == s.nonceOf .host &&
    (change || leVal (sliceOf bs 24 32) == 0) && leVal (sliceOf bs 56 8) == 0 && s.scrSigned bs

/-- Rind has read the token of an UNSEAL or a CHG_AUTH and verified it. The nonce is consumed (R353, R358). -/
def tokenVerifyEnd (bs : List Byte) (s : State) : State :=
  if !s.hostReads then s
  else if s.runs pageRIND 0x46 ∧ s.rind.level.isNone then
    let ok := tokenOk bs false s
    let s := s.setNonce .host 0
    if ok then levelDue 0x46 lvTEAM s else levelFail eAUTH 0x46 s
  else if s.runs pageRIND 0x47 then
    let ok := tokenOk bs true s
    let s := s.setNonce .host 0
    if ok then
      let s := s.setReg pageRIND Off.rind_CHGAUTH (BitVec.ofNat 32 (bs.getD 1 0).toNat)
      { s with rind := { s.rind with authHash := some (BitVec.ofNat 256 (beVal (sliceOf bs 24 32))) } }.finish pageRIND 0x47 {}
    else s.finish pageRIND 0x47 { code := eAUTH }
  else s

def execTokenVerifyEnd (tok : List Byte) (s : State) : Out := .next (tokenVerifyEnd tok s)

/-- A cluster is a reserve. -/
def State.isReserve (s : State) (c : Nat) : Bool := s.flag (pageCL c) Off.cl_ROLECFG 8

/-- The entry of ROLEMAP for a cluster (R367). -/
def State.setRoleMap (s : State) (c : Nat) (v : Nat) : State :=
  s.setFld pageRIND (Off.rind_ROLEMAP (c / 4)) (8 * (c % 4)) 8 v

/-- The role map at a sealing that covers CL or CLT pages (R356). -/
def storeRoleMap (k : SealPkg) (s : State) : State :=
  if k.pages.any (fun p => pageKind p == some .cl || pageKind p == some .clt) then
    let s := (List.range 16).foldl (fun s c =>
      s.setRoleMap c (if s.isReserve c then 0x90 else 0x80 + s.role c)) s
    { s with rind := { s.rind with sealRoles := (List.range 16).map (fun c => (c, if s.isReserve c then 16 else s.role c)) } }
  else s

def dropRoleMap (s : State) : State :=
  let s := (List.range 4).foldl (fun s w => s.setReg pageRIND (Off.rind_ROLEMAP w) 0) s
  { s with rind := { s.rind with sealRoles := [] } }

/-- What a level command does beside the level itself (R352, R354 to R356). -/
def levelEffect (cmd : Nat) (s : State) : State :=
  if cmd = 0x44 then
    { s with rind := { s.rind with teamKey := 0, teamMask := 0, scrKey := 0, scrMask := 0 } }
  else if cmd = 0x45 then
    match s.rind.sealing with
    | none => s
    | some k =>
      let s := storeRoleMap k { s with rind := { s.rind with pkg := some k, sealing := none } }
      [0, 1].foldl (fun s p => s.setFld (pageIDX p) Off.idx_LCFG 1 1 0) s
  else if cmd = 0x46 then dropRoleMap { s with rind := { s.rind with pkg := none, terr := [] } }
  else s

/-- Step 3 of a boundary, second part: a level change (R20, R352). -/
def levelAtBoundary (s : State) : State :=
  match s.rind.level with
  | none => s
  | some l =>
    let old := s.level
    let o := s.sealOld
    let s := (s.logLevel true eOK (l.code == 0x45 || l.code == 0x46)).spend 1
    let s := { s with rind := { s.rind with undo := some { entry := s.rind.log.length - 1, old := some o } } }
    let s := levelEffect l.code { s with rind := { s.rind with level := none } }
    let s := s.regrant (s.setFld pageRIND Off.rind_LEVEL 0 2 l.level)
    let s := s.endSessions.clearAuth
    let s := s.alarm 0x008 0x011 s.now [BitVec.ofNat 32 (old + l.level * 2 ^ 4)]
    (s.intSet pageRIND 16).finish pageRIND l.code {}

/-- The covered pages: locked at SEALED (R355). -/
def State.locked (s : State) (p : Nat) : Bool :=
  s.level == lvSEALED && (match s.rind.pkg with | some k => k.pages.contains p | none => false)

/-! ### The sealed pages of a cluster (R355, R356) -/

/-- The page from whose sealed copy a page is compared and recalled: itself, but for a CL or CLT page that of the cluster
that held the same role, or was a reserve, at sealing. -/
def State.sealedFrom (s : State) (p : Nat) : Nat :=
  let via (base : Nat) : Nat :=
    let v := s.fld pageRIND (Off.rind_ROLEMAP ((p - base) / 4)) (8 * ((p - base) % 4)) 8
    let r := if bitOf v 4 then 16 else v % 16
    match s.rind.sealRoles.find? (fun (e : Nat × Nat) => e.2 == r) with
    | some e => base + e.1
    | none => p
  match pageKind p with
  | some .cl => via 0x060
  | some .clt => via 0x080
  | _ => p

/-- A CL or CLT page of a cluster that the role map marks as a reserve. -/
def State.mapReserve (s : State) (p : Nat) : Option Nat :=
  let at_ (c : Nat) : Option Nat := if bitOf (s.fld pageRIND (Off.rind_ROLEMAP (c / 4)) (8 * (c % 4)) 8) 4 then some c else none
  match pageKind p with
  | some .cl => at_ (p - 0x060)
  | some .clt => at_ (p - 0x080)
  | _ => none

/-- A covered page stands as it was sealed (R355, R356). -/
def State.sealHolds (s : State) (k : SealPkg) (p : Nat) : Bool :=
  match s.mapReserve p with
  | some c => s.isReserve c
  | none => k.crcs.any (fun (e : Nat × Word) => e.1 == s.sealedFrom p && e.2 == s.regionCrc p)

/-- The recall of a BOOT at SEALED: the covered pages and the TERR snapshot (R329, R355, R356). -/
def sealRecall (s : State) : State :=
  match s.rind.pkg with
  | none => s
  | some k =>
    if s.level ≠ lvSEALED then s else
    let s := k.pages.foldl (fun s p =>
      match k.conf.find? (fun (e : Nat × List Word) => e.1 == s.sealedFrom p) with
      | none => s
      | some e =>
        let s := e.2.zipIdx.foldl (fun (s : State) (w : Word × Nat) => s.setReg p (0x40 + 4 * w.2) w.1) s
        s.setReg p 0x014 (s.regionCrc p)) s
    s.rind.terr.foldl (fun (s : State) (e : Nat × Word) => s.setReg (e.1 / 4096) (e.1 % 4096) e.2) s

/-! ### READOUT (R364) -/

def readout : Cmd where
  errs _ s := [(eSTATE, s.md == mBOOT || s.md == mDORMANT)]
  run _ s := s

/-- The bytes of the active bank of a cluster. -/
def State.bankBytes (s : State) (c : Nat) : List Byte :=
  (List.range 4096).flatMap (fun a => leBytes 17 (s.cstore.get 0 (storeKey c (s.bankOf c) a)).toNat)

/-- The contents of the report, in the order of R364. -/
def reportContents (s : State) : List Byte :=
  leBytes 8 Config.devUid.toNat ++ devId ++ leBytes 1 s.level ++ leBytes 4 (s.reg pageRIND Off.rind_BUDGET).toNat ++
    leBytes 2 s.rind.log.length ++ leBytes 2 (s.fld pageRIND Off.rind_REFLOST 0 16) ++ leBytes 2 (s.fld pageRIND Off.rind_HALTCNT 0 16) ++
    (match s.rind.pkg with
      | some k => digest (Config.sha256 k.bytes) ++ k.pages.flatMap (fun p => wordBytes (s.regionCrc p))
      | none => List.replicate 32 0) ++
    (List.range 16).flatMap (fun c => digest (Config.sha256 (s.bankBytes c))) ++
    digest (Config.sha256 (s.terrNow.flatMap (fun (e : Nat × Word) => wordBytes e.2))) ++
    regionBytes (limitedRegs.map (s.reg pageRIND)) ++ leBytes 8 s.now ++
    leBytes 8 (s.reg64 pageRIND Off.rind_RESP_LO Off.rind_RESP_HI)

/-- A byte list of a fixed length. -/
def fit (n : Nat) (bs : List Byte) : List Byte := (bs ++ List.replicate n 0).take n

/-- The report: 448 bytes and the signature of the device over their hash. -/
def report (s : State) : List Byte :=
  let b := fit 448 (Config.reportLayout (reportContents s))
  b ++ beBytes 64 (Config.deviceSign (Config.sha256 b)).toNat

/-- The report is written to PKGADR. -/
def readoutComplete (s : State) : State :=
  if !s.runs pageRIND 0x48 || !s.dmaReady then s else
  (s.dma (s.reg64 pageRIND Off.rind_PKGADR_LO Off.rind_PKGADR_HI) (wordsOf (report s))).finish pageRIND 0x48 {}

def execReadoutComplete (s : State) : Out := .next (readoutComplete s)

/-! ### Views -/

def levelWord (s : State) : Word :=
  BitVec.ofNat 32 (s.level + bit s.rind.hostSess * 2 ^ 8 + bit s.rind.tapSess * 2 ^ 9 + bit s.rind.level.isSome * 2 ^ 10)

/-- Seconds of lockout left, rounded up. -/
def authstWord (s : State) : Word :=
  BitVec.ofNat 32 (s.fails .host + (s.rind.lockHost - s.now + second - 1) / second * 2 ^ 16)

def dstatWord (s : State) : Word :=
  BitVec.ofNat 32 (s.granted + bit s.portOpen * 4 + bit s.rind.tapSess * 8 + s.rind.tapFails * 2 ^ 8)

def logDataWord (s : State) (i : Nat) : Word :=
  match s.rind.log[s.fld pageRIND Off.rind_LOGIDX 0 9]? with
  | some e => e.getD i 0
  | none => 0

/-! ### HALT requests (R366) -/

/-- The code of a HALT request that Rind refuses. -/
def haltErrs (k : Slot) (s : State) : List (Nat × Bool) :=
  [(eSEALED, (s.level == lvTEAM && !s.session k) || s.level == lvSEALED)]

/-- A HALT that TEAM permits from RUN or LIMP is logged (R366). -/
def logHalt (k : Slot) (s : State) : State :=
  if s.level = lvTEAM ∧ (s.md = mRUN ∨ s.md = mLIMP) then
    (s.addSat pageRIND Off.rind_HALTCNT 0 16 1).alarm 0x008 0x012 s.now
      [BitVec.ofNat 32 (s.md + (match k with | .host => 0 | .tap => 2 ^ 8))]
  else s

/-! ### The TAP (R365) -/

/-- IDCODE (R365). -/
def idCode : Nat := 0x1512856B

/-- The TAP refuses: the instruction acts as BYPASS, and TAPREFUSE counts it. -/
def tapRefuse (s : State) : State :=
  { s with rind := { s.rind with ir := 0xFF, scan := 0, dr := 0 } }.addSat pageDBG Off.dbg_TAPREFUSE 0 16 1

/-- An instruction is loaded, and its scan shifts out IDCODE or, as through BYPASS, zeros: one that is not permitted acts as BYPASS; a
closed port ignores it. -/
def tapLoad (ir : Nat) (permitted : Bool) (act : State → State) (s : State) : State :=
  if !s.portOpen || !s.pageOn pageDBG then s
  else if permitted then
    act { s with rind := { s.rind with ir := ir, scan := 0, dr := if ir = 0x02 then BitVec.ofNat 72 idCode else 0 } }
  else tapRefuse s

/-- Pins may be driven by the TAP (R365). -/
def State.tapDrives (s : State) : Bool := s.granted == 2 && (s.md == mCONFIGURE || s.md == mHALT || s.md == mSAFE)

/-- The cell k of the boundary register drives its pin (R387); an instruction that is permitted no more acts as BYPASS. -/
def State.padDrive (s : State) (k : Nat) (pin : Option Bool) : Option Bool :=
  if !s.tapDrives || !s.pageOn pageDBG then pin
  else if s.rind.scan = 1 then some (s.rind.cells.getD k false)
  else if s.rind.scan = 2 then none else pin

/-- The cells of the boundary register, in the model's order (R387): TIO 0 to 159, TRIP 160 to 175, WHL 176 to 183, SCLK 184, SCS# 185,
SDI 186, SDO 187, HIRQ 188 to 191, HIDLE 192 to 195, RESET# 196, TCK 197, TMS 198, TDI 199, TDO 200, TRST# 201, TESTEN 202. -/
abbrev cellSDO : Nat := 187
abbrev cellHIRQ (t : Nat) : Nat := 188 + t

/-- The levels at the pins with the TAP in front of what the device drives: none for high impedance. SDO is driven within a frame only. -/
def State.tioPad (s : State) (n : Nat) : Option Bool := s.padDrive n (s.pinDrive n)
def State.hirqPad (s : State) (t : Nat) : Option Bool := s.padDrive (cellHIRQ t) (s.hirqPin t)
def State.sdoPad (s : State) : Option Bool := s.padDrive cellSDO none

/-- What TDO carries in clock k of a scan of the data register, least significant bit first; high impedance while the port is closed. -/
def State.tdoBit (s : State) (k : Nat) : Option Bool :=
  if s.portOpen && s.pageOn pageDBG && !s.mode.brown then some (bitOf s.rind.dr.toNat k) else none

/-- The level that a boundary cell captures: what drives the pin, else its input. `x` stands for an input that the model does not hold. -/
def State.cellLevel (s : State) (k : Nat) (x : Bool) : Bool :=
  if k < 160 then (s.tioPad k).getD (s.chan k).inLvl
  else if 188 ≤ k ∧ k < 192 then (s.hirqPad (k - 188)).getD x
  else if 192 ≤ k ∧ k < 196 then !bitOf s.iu.idlePin.toNat (k - 192)
  else x

/-- Bits that the spec leaves open, one for each boundary cell. -/
def State.drawnCells (s : State) : List Bool × State :=
  let (bs, s) := s.drawnBytes 26
  ((List.range scanCells).map (fun k => bitOf (bs.getD (k / 8) 0).toNat (k % 8)), s)

/-- The boundary register captures the pins. -/
def sampleCells (s : State) : State :=
  let (x, s) := s.drawnCells
  { s with rind := { s.rind with sampled := x.zipIdx.map (fun (b : Bool × Nat) => s.cellLevel b.2 b.1) } }

/-- SAMPLE/PRELOAD: the pins are captured, and the cells take what was shifted in, which the row does not say. -/
def samplePreload (s : State) : State :=
  let (x, s) := (sampleCells s).drawnCells
  { s with rind := { s.rind with cells := x } }

def execBypass (s : State) : Out := .next (tapLoad 0xFF true id s)
def execIdcode (s : State) : Out := .next (tapLoad 0x02 true id s)
def execSamplePreload (s : State) : Out := .next (tapLoad 0x01 (1 ≤ s.granted) samplePreload s)
def execExtest (pins : List Bool) (s : State) : Out :=
  .next (tapLoad 0x00 s.tapDrives (fun s => let s := sampleCells s; { s with rind := { s.rind with cells := pins, scan := 1 } }) s)
def execClamp (s : State) : Out :=
  .next (tapLoad 0x03 s.tapDrives (fun s => { s with rind := { s.rind with scan := 1 } }) s)
def execHighz (s : State) : Out :=
  .next (tapLoad 0x04 s.tapDrives (fun s => { s with rind := { s.rind with scan := 2 } }) s)

end Sys2Proof.Machine
end

