-- ==== Sys2Proof/Machine/Whey.lean ====
section
/-! DEFINITION. Whey and the Ethernet ports: taking records, the rings and their consumers, coalescing, loss records,
decimation, frames and 802.1AS time (R279 to R297). -/

namespace Sys2Proof.Machine

/-! ### Rings and consumers -/

def ringSize : WheyRing → Nat
  | .alarm => 0x10000
  | .loss => 0x1000
  | .general => 0xEF000

def ringBase : WheyRing → Nat
  | .alarm => 0
  | .loss => 0x10000
  | .general => 0x11000

def State.wring (s : State) : WheyRing → WRing
  | .alarm => s.whey.alarm
  | .loss => s.whey.loss
  | .general => s.whey.general

def State.setWring (s : State) (r : WheyRing) (x : WRing) : State :=
  match r with
  | .alarm => { s with whey := { s.whey with alarm := x } }
  | .loss => { s with whey := { s.whey with loss := x } }
  | .general => { s with whey := { s.whey with general := x } }

def State.eth (s : State) (n : Nat) : EthSt := if n = 0 then s.eth0 else s.eth1

def State.setEth (s : State) (n : Nat) (x : EthSt) : State :=
  if n = 0 then { s with eth0 := x } else { s with eth1 := x }

/-- An Ethernet port consumes while it is ACTIVE with its link up (R286). -/
def State.ethConsumes (s : State) (n : Nat) : Bool := s.active (pageETH n) && (s.eth n).link

/-- The host consumes every ring with HOSTCONS, and the alarm and loss rings while no port does (R286). -/
def State.hostConsumes (s : State) (r : WheyRing) : Bool :=
  s.flag pageWHEY Off.whey_CFG 0 || (r != .general && !s.ethConsumes 0 && !s.ethConsumes 1)

/-- Bytes that a ring holds. -/
def WRing.held (x : WRing) : Nat := (x.recs.map (·.len)).sum

/-- How far the slowest consumer has passed; all of it without a consumer (R286). -/
def State.passed (s : State) (r : WheyRing) : Nat :=
  let x := s.wring r
  let l := (if s.ethConsumes 0 then [x.eth0] else []) ++ (if s.ethConsumes 1 then [x.eth1] else []) ++
    (if s.hostConsumes r then [x.host] else [])
  l.foldl min x.held

/-- The bytes of the whole records that lie before a position. -/
def wholeOf : List RingRec → Nat → Nat
  | [], _ => 0
  | h :: t, d => if h.len ≤ d then h.len + wholeOf t (d - h.len) else 0

/-- The bytes not yet freed: a record is freed when every consumer has passed the whole of it (R286, R290). -/
def State.ringFill (s : State) (r : WheyRing) : Nat := (s.wring r).held - wholeOf (s.wring r).recs (s.passed r)

/-- The ring has no consumer, which only the general ring can be without (R286). -/
def State.unread (s : State) (r : WheyRing) : Bool := !s.ethConsumes 0 && !s.ethConsumes 1 && !s.hostConsumes r

/-- The oldest record leaves a ring: positions move with it; a port whose link is down, and that never saw it, counts it as
missed, unless the ring has no consumer (R286). -/
def State.dropOldest (s : State) (r : WheyRing) : State :=
  let x := s.wring r
  match x.recs with
  | [] => s
  | h :: t =>
    let s := s.setWring r { x with recs := t, host := x.host - h.len, eth0 := x.eth0 - h.len, eth1 := x.eth1 - h.len }
    let s := if s.active (pageETH 0) && !s.eth0.link && !h.pad && !s.unread r && decide (x.eth0 < h.len)
      then s.addSat (pageETH 0) Off.eth_MISSED 0 16 1 else s
    if s.active (pageETH 1) && !s.eth1.link && !h.pad && !s.unread r && decide (x.eth1 < h.len)
      then s.addSat (pageETH 1) Off.eth_MISSED 0 16 1 else s

/-- Records that every consumer has passed are freed; the general ring without a consumer keeps its history (R286). -/
def State.freeRing (s : State) (r : WheyRing) : Nat → State
  | 0 => s
  | n + 1 =>
    match (s.wring r).recs with
    | [] => s
    | h :: _ =>
      if s.unread r ∨ s.passed r < h.len then s
      else
        let s := s.dropOldest r
        (if r = .general then s.setWring r { s.wring r with past := (s.wring r).past ++ [h] } else s).freeRing r n

def State.freeAll (s : State) (r : WheyRing) : State := s.freeRing r (s.wring r).recs.length

/-- Drop the oldest records until a number of bytes is physically free. -/
def State.makeRoom (s : State) (r : WheyRing) (need : Nat) : Nat → State
  | 0 => s
  | n + 1 => if (s.wring r).held + need ≤ ringSize r then s else (s.dropOldest r).makeRoom r need n

/-- Freed records are overwritten from the oldest on, until a number of bytes is clear of them (R286). -/
def trimPast (room : Nat) : List RingRec → List RingRec
  | [] => []
  | h :: t => if ((h :: t).map (·.len)).sum ≤ room then h :: t else trimPast room t

/-- Bytes that a record needs in a ring: itself, and the pad that keeps it from straddling the end (R285). -/
def State.ringNeed (s : State) (r : WheyRing) (len : Nat) : Nat :=
  if (s.wring r).wp + len > ringSize r then ringSize r - (s.wring r).wp + len else len

/-- A ring has room for a record. -/
def State.ringRoom (s : State) (r : WheyRing) (len : Nat) : Bool := decide (s.ringFill r + s.ringNeed r len ≤ ringSize r)

/-- Write words into the Whey buffer at a byte offset. -/
def State.putBuf (s : State) (off : Nat) (ws : List Word) : State :=
  { s with whey := { s.whey with buf := s.whey.buf.setWords off ws } }

/-- Put a record of `len` bytes into a ring that has room, with a pad before it where it would straddle the end (R285). -/
def State.ringPut (s : State) (r : WheyRing) (cls len : Nat) (ws : List Word) : State :=
  let need := s.ringNeed r len
  let s := s.makeRoom r need (s.wring r).recs.length
  let x := s.wring r
  let x := { x with past := trimPast (ringSize r - x.held - need) x.past }
  let s := if x.wp + len > ringSize r then
      (s.putBuf (ringBase r + x.wp) [0]).setWring r
        { x with wp := 0, recs := x.recs ++ [{ off := x.wp, len := ringSize r - x.wp, cls := cls, pad := true, tb := s.now }] }
    else s.setWring r x
  let x := s.wring r
  (s.putBuf (ringBase r + x.wp) ws).setWring r
    { x with wp := (x.wp + len) % ringSize r, recs := x.recs ++ [{ off := x.wp, len := len, cls := cls, pad := false, tb := s.now }] }

/-- Position of a consumer that stands a number of bytes past the oldest record. -/
def WRing.pos (x : WRing) (r : WheyRing) (d : Nat) : Nat :=
  match x.recs with
  | [] => x.wp
  | h :: _ => (h.off + d) % ringSize r

/-- The host read index of a ring: while the host is no consumer its oldest record, which without any consumer is the
oldest not yet overwritten (R286). -/
def State.hostIndex (s : State) (r : WheyRing) : Nat :=
  let x := s.wring r
  match x.past with
  | h :: _ => if s.unread r then h.off
      else x.pos r (if s.hostConsumes r then x.host else 0)
  | [] => x.pos r (if s.hostConsumes r then x.host else 0)

/-- The records that lie beyond a position of a ring, pads apart. -/
def countBeyond (l : List RingRec) (d : Nat) : Nat :=
  match l with
  | [] => 0
  | h :: t => (if h.pad || decide (h.len ≤ d) then 0 else 1) + countBeyond t (d - h.len)

/-- The general ring gets a consumer again: what it holds counts as freed, so a port whose link was down has missed the records
that it never saw (R286). -/
def State.missHistory (old s : State) (n : Nat) : State :=
  if old.active (pageETH n) && !(old.eth n).link then
    s.addSat (pageETH n) Off.eth_MISSED 0 16
      (countBeyond old.whey.general.recs (if n = 0 then old.whey.general.eth0 else old.whey.general.eth1))
  else s

/-! ### Records -/

/-- The words of a record (R279). -/
def recWords (r : WRec) (seq : Nat) : List Word :=
  let body := if r.body.length % 2 = 1 then r.body ++ [0] else r.body
  let len := 3 + body.length / 2
  [ BitVec.ofNat 32 (r.cls + bit r.ang.isSome * 2 ^ 2 + r.wheel * 2 ^ 3 + len * 2 ^ 6 + r.origin * 2 ^ 12),
    BitVec.ofNat 32 (r.kind + bit r.coal * 2 ^ 12 + seq % 2 ^ 16 * 2 ^ 16),
    BitVec.ofNat 32 (min r.rep 0xFFFF), r.ang.getD 0, BitVec.ofNat 32 r.tb, BitVec.ofNat 32 (r.tb / 2 ^ 32) ] ++ body

/-- Bytes of a record. -/
def recLen (r : WRec) : Nat := (3 + (r.body.length + 1) / 2) * 8

/-- Take the next sequence number of a class (R284). -/
def State.nextSeq (s : State) (cls : Nat) : Nat × State :=
  match cls with
  | 0 => (s.whey.seq0, { s with whey := { s.whey with seq0 := (s.whey.seq0 + 1) % 65536 } })
  | 1 => (s.whey.seq1, { s with whey := { s.whey with seq1 := (s.whey.seq1 + 1) % 65536 } })
  | 2 => (s.whey.seq2, { s with whey := { s.whey with seq2 := (s.whey.seq2 + 1) % 65536 } })
  | _ => (s.whey.seq3, { s with whey := { s.whey with seq3 := (s.whey.seq3 + 1) % 65536 } })

/-- An alarm is written to the alarm ring, which has room for it. -/
def State.writeAlarm (s : State) (a : WRec) : State :=
  let (n, s) := s.nextSeq 0
  (s.ringPut .alarm 0 (recLen a) (recWords a n)).intSet pageWHEY 16

/-- The coalescing table's entries go to the ring as space frees, oldest first, each with COAL = 1 (R287). -/
def State.drainCoal (s : State) : Nat → State
  | 0 => s
  | n + 1 =>
    match s.whey.coal with
    | [] => s
    | a :: t =>
      if s.ringRoom .alarm (recLen a) then
        (({ s with whey := { s.whey with coal := t } }).writeAlarm { a with coal := true }).drainCoal n
      else s

/-- An alarm enters the coalescing table; none if it has to wait (R287). -/
def coalesce (tbl : List WRec) (a : WRec) : Option (List WRec) :=
  if tbl.any (fun e => e.origin == a.origin && e.kind == a.kind) then
    some (tbl.map (fun e => if e.origin == a.origin && e.kind == a.kind then { e with rep := min (e.rep + a.rep) 0xFFFF } else e))
  else if tbl.length < 256 then some (tbl ++ [a])
  else
    match tbl.findIdx? (fun e => e.kind == a.kind) with
    | none => none
    | some i => some (tbl.modify i (fun e => { e with origin := 0xFFF, rep := min (e.rep + a.rep) 0xFFFF }))

/-- Pending alarms that find no room and no table entry wait in the order in which they arose (R287). -/
def State.markWaiting (s : State) : State :=
  { s with whey := { s.whey with alarms := s.whey.alarms.map (fun a =>
      { a with waited := a.waited || !((s.whey.coal.isEmpty && s.ringRoom .alarm (recLen a)) || (coalesce s.whey.coal a).isSome) }) } }

/-- After a change of the consumers: who joins stands at the oldest record not freed, and a general ring that had none
counts as freed (R286). -/
def State.consumersChanged (old s : State) : State :=
  let s := s.markWaiting
  let s := if old.unread .general && !s.unread .general then State.missHistory old (State.missHistory old s 0) 1 else s
  let s := if old.unread .general && !s.unread .general then s.setWring .general { s.whey.general with
      past := s.whey.general.past ++ s.whey.general.recs, recs := [], host := 0, eth0 := 0, eth1 := 0 } else s
  let fix (s : State) (r : WheyRing) : State :=
    let x := s.wring r
    let s := s.setWring r { x with
      host := if s.hostConsumes r && !old.hostConsumes r then 0 else x.host,
      eth0 := if s.ethConsumes 0 && !old.ethConsumes 0 then 0 else x.eth0,
      eth1 := if s.ethConsumes 1 && !old.ethConsumes 1 then 0 else x.eth1 }
    s.freeAll r
  fix (fix (fix s .alarm) .loss) .general

/-- The pending alarm that Whey takes: one that waited, in the order in which they arose (R287), then lowest ORIGIN first (R283). -/
def nextAlarm (l : List WRec) : Option WRec :=
  match l.find? (·.waited) with
  | some a => some a
  | none => l.foldl (fun b r => match b with | none => some r | some x => if r.origin < x.origin then some r else some x) none

/-- Whey takes a pending alarm: to the ring, to the coalescing table, or it stays (R287). -/
def State.takeAlarm (s : State) (a : WRec) : State :=
  let gone := { s with whey := { s.whey with alarms := s.whey.alarms.erase a } }
  if s.whey.coal = [] ∧ s.ringRoom .alarm (recLen a) then gone.writeAlarm a
  else
    match coalesce s.whey.coal a with
    | none => s
    | some t =>
      let s := { gone with whey := { gone.whey with coal := t } }
      ((s.bell 0x001).addSat pageWHEY Off.whey_COALCNT 0 16 1).intSet pageWHEY 17

/-- The head of each block's queue (R283): the oldest record of each block. -/
def queueHeads (l : List (Nat × WRec)) : List (Nat × WRec) :=
  l.foldl (fun b r => if b.any (fun x => x.1 == r.1) then b else b ++ [r]) []

/-- The queued record that Whey takes: of the queues' heads, LOG before TRACE, then the lowest ORIGIN (R283). -/
def lowestQueued (l : List (Nat × WRec)) : Option (Nat × WRec) :=
  (queueHeads l).foldl (fun b r => match b with
    | none => some r
    | some x => if r.2.cls < x.2.cls ∨ (r.2.cls = x.2.cls ∧ r.2.origin < x.2.origin) then some r else some x) none

/-- A LOG record is taken: written if it fits, else lost (R284, R291). -/
def State.takeLog (s : State) (r : WRec) : State :=
  let (n, s) := s.nextSeq 1
  if s.ringRoom .general (recLen r) then s.ringPut .general 1 (recLen r) (recWords r n)
  else s.lose 1 r.origin false r.kind 1 r.tb

/-- A TRACE stream, and the streams with one that counts a further record. -/
def streamCount (l : List TrStream) (origin kind : Nat) : TrStream × List TrStream :=
  match l.find? (fun t => t.origin == origin && t.kind == kind) with
  | some t => ({ t with k := t.k + 1 }, l.map (fun x => if x.origin == origin && x.kind == kind then { x with k := x.k + 1 } else x))
  | none => ({ origin := origin, kind := kind, k := 1, lost := 0 }, l ++ [{ origin := origin, kind := kind, k := 1, lost := 0 }])

/-- A TRACE record is taken: decimated per stream, and written only outside the LOG reserve (R290, R291). -/
def State.takeTrace (s : State) (r : WRec) : State :=
  let (n, s) := s.nextSeq 2
  let (t, l) := streamCount s.whey.streams r.origin r.kind
  let s := { s with whey := { s.whey with streams := l } }
  if s.whey.decim ≠ 0 ∧ t.k % 2 ^ s.whey.decim ≠ 0 then s.lose 2 r.origin false r.kind 1 r.tb
  else
    let res := s.fld pageWHEY Off.whey_TRCFG 16 8 * 4096
    if s.ringFill .general + s.ringNeed .general (recLen r) + res ≤ ringSize .general then
      let kept := l.map (fun x => if x.origin == r.origin && x.kind == r.kind then { x with lost := 0 } else x)
      let s := { s with whey := { s.whey with streams := kept } }
      s.ringPut .general 2 (recLen r) (recWords { r with rep := min (1 + t.lost) 0xFFFF } n)
    else (s.lose 2 r.origin false r.kind 1 r.tb).intSet pageWHEY 20

/-- A LOSS record goes into a slot of the loss ring (R285, R288). -/
def State.writeLoss (s : State) (origin kind word6 count first last : Nat) : State :=
  let (n, s) := s.nextSeq 3
  let r := s.mkRec 3 origin kind s.now (s.stampWheel origin)
    [ BitVec.ofNat 32 word6, BitVec.ofNat 32 count, BitVec.ofNat 32 first, BitVec.ofNat 32 (first / 2 ^ 32),
      BitVec.ofNat 32 last, BitVec.ofNat 32 (last / 2 ^ 32) ]
  (s.ringPut .loss 3 64 (recWords r n)).intSet pageWHEY 18

/-- The LOSS record owed for a lost buffer is the first that Whey writes (R296). -/
def State.payOwed (s : State) : State :=
  match s.whey.owed with
  | none => s
  | some t => ({ s with whey := { s.whey with owed := none } }).writeLoss 0x290 0 0 0xFFFFFFFF t s.now

/-- Whey takes one record (R283): what it owes, a coalesced or a pending alarm, a LOG, a TRACE. -/
def wheyIngest (s : State) : State :=
  if !s.active pageWHEY && s.md != mBOOT then s else
  let s := s.payOwed.markWaiting
  let s := s.drainCoal s.whey.coal.length
  let takeQueued (s : State) : State :=
    match lowestQueued s.whey.queued with
    | none => s
    | some x =>
      let s := { s with whey := { s.whey with queued := s.whey.queued.erase x } }
      if x.2.cls = 1 then s.takeLog x.2 else s.takeTrace x.2
  match nextAlarm (s.whey.alarms.filter (fun a =>
      (s.whey.coal.isEmpty && s.ringRoom .alarm (recLen a)) || (coalesce s.whey.coal a).isSome)) with
  | some a => s.takeAlarm a
  | none => takeQueued s

def execWheyRecordIngest (s : State) : Out := .next (wheyIngest s)

/-- LOSS records at a tick boundary: one for each summary entry with a count, while the loss ring has room (R288). -/
def State.emitLosses (s : State) : List Nat → State
  | [] => s
  | i :: t =>
    let e := s.sumEntry i
    if e.count = 0 ∨ !s.ringRoom .loss 64 then s.emitLosses t
    else
      let word6 := if e.item then 4 else e.cls
      let s := s.writeLoss e.origin e.kind word6 e.count e.first e.last
      ({ s with whey := { s.whey with sums := s.whey.sums.set {} i {} } }).emitLosses t

/-- The decimation level of the coming tick (R290). -/
def State.setDecim (s : State) : State :=
  let f := s.ringFill .general
  let g := ringSize .general
  let thr := s.fld pageWHEY Off.whey_TRCFG 0 4 * g / 16
  let d := if f < thr then 0 else min 8 (1 + (f - thr) * 16 / g)
  let s' := { s with whey := { s.whey with decim := d } }
  if s.whey.decim = 0 ∧ d ≠ 0 then s'.intSet pageWHEY 19 else s'

/-- What Whey does at a tick boundary (R288, R290). -/
def wheyBoundary (s : State) : State :=
  if !s.active pageWHEY then s else
  ((s.payOwed.emitLosses (s.whey.sums.map (·.1))).setDecim)

/-! ### The host's read indices -/

/-- Offset of a ring's read index register. -/
def ringIndexOff : WheyRing → Nat
  | .alarm => Off.whey_ARP
  | .loss => Off.whey_SRP
  | .general => Off.whey_GRP

/-- How far a read index write would move. -/
def State.indexStep (s : State) (r : WheyRing) (v : Nat) : Nat := (v + ringSize r - s.hostIndex r) % ringSize r

/-- Rejections of a read index write (R286, R296). -/
def ringIndexErrs (s : State) (r : WheyRing) (v : Nat) : List (Nat × Bool) :=
  [ (eSTATE, !s.hostConsumes r),
    (eVALUE, decide (ringSize r ≤ v) || v % 8 != 0 || decide ((s.wring r).held - (s.wring r).host < s.indexStep r v)) ]

/-- A read index moves forward over records; what every consumer has passed is freed, and waiting alarms enter (R286, R287). -/
def ringIndexMove (s : State) (r : WheyRing) (v : Nat) : State :=
  let s := s.markWaiting
  let x := s.wring r
  let s := (s.setWring r { x with host := x.host + s.indexStep r v }).freeAll r
  s.drainCoal s.whey.coal.length

/-! ### Ethernet -/

/-- Records from a position on: skip those passed. -/
def fromPos (l : List RingRec) (d : Nat) : List RingRec :=
  match l with
  | [] => []
  | h :: t => if h.len ≤ d then fromPos t (d - h.len) else h :: t

/-- The words of a record that lies in the buffer. -/
def State.bufWords (s : State) (off n : Nat) : List Word := s.whey.buf.words off n

/-- Bytes of a record: a LOSS record fills 48 of its slot's 64 (R281, R285). -/
def RingRec.size (x : RingRec) : Nat := if x.cls = 3 then 48 else x.len

/-- The run of records that one frame carries: one class, at most `room` bytes; pads and classes that the mask excludes are
passed. Answers the records, the bytes passed, and whether the run ended for want of records. -/
def frameRun (mask : Nat → Bool) : List RingRec → Option Nat → Nat → List RingRec × Nat × Bool
  | [], _, _ => ([], 0, true)
  | h :: t, cls, room =>
    if h.pad ∨ !mask h.cls then
      let (l, n, e) := frameRun mask t cls room
      (l, n + h.len, e)
    else if (cls = none ∨ cls = some h.cls) ∧ h.size ≤ room then
      let (l, n, e) := frameRun mask t (some h.cls) (room - h.size)
      (h :: l, n + h.len, e)
    else ([], 0, false)

/-- The class mask of a port in the general ring (R294, R297). -/
def State.ethMask (s : State) (n cls : Nat) : Bool :=
  if cls = 1 then s.flag (pageETH n) Off.eth_MACCFG 5 else if cls = 2 then s.flag (pageETH n) Off.eth_MACCFG 6 else true

def WRing.eth (x : WRing) (n : Nat) : Nat := if n = 0 then x.eth0 else x.eth1
def WRing.setEth (x : WRing) (n d : Nat) : WRing := if n = 0 then { x with eth0 := d } else { x with eth1 := d }

/-- Bytes as 16-bit words, the first byte of each above the second, added up. -/
def sumBytes : List Byte → Nat
  | [] => 0
  | [a] => a.toNat * 256
  | a :: b :: t => a.toNat * 256 + b.toNat + sumBytes t

/-- The 16-bit words of bytes, summed with end-around carry, and complemented: the checksum of IPv4 and UDP. -/
def inetSum (l : List Byte) : Nat :=
  let x := sumBytes l
  65535 - (if x = 0 then 0 else (x - 1) % 65535 + 1)

/-- The headers of a frame with a UDP payload: Ethernet II, IPv4 without options and with DF, UDP (R292). The identification of
a datagram that is not fragmented is open: `id`. -/
def State.frameHead (s : State) (n : Nat) (id : Word) (payload : List Byte) : List Byte :=
  let p := pageETH n
  let f (o lo w : Nat) : Nat := s.fld p o lo w
  let ips := beBytes 4 (s.reg p Off.eth_SRCIP).toNat ++ beBytes 4 (s.reg p Off.eth_DSTIP).toNat
  let len := 8 + payload.length
  let ip (sum : Nat) : List Byte :=
    [0x45, BitVec.ofNat 8 (4 * f Off.eth_IPCFG 0 6)] ++ beBytes 2 (20 + len) ++ beBytes 2 id.toNat ++ [0x40, 0] ++
      [BitVec.ofNat 8 (f Off.eth_IPCFG 8 8), 17] ++ beBytes 2 sum ++ ips
  let udp (sum : Nat) : List Byte :=
    beBytes 2 (f Off.eth_UDPPORT 0 16) ++ beBytes 2 (f Off.eth_UDPPORT 16 16) ++ beBytes 2 len ++ beBytes 2 sum
  let c := inetSum (ips ++ [0, 17] ++ beBytes 2 len ++ udp 0 ++ payload)
  beBytes 2 (f Off.eth_DSTMAC_HI 0 16) ++ beBytes 4 (s.reg p Off.eth_DSTMAC_LO).toNat ++ beBytes 2 (f Off.eth_SRCMAC_HI 0 16) ++
    beBytes 4 (s.reg p Off.eth_SRCMAC_LO).toNat ++ [0x08, 0x00] ++ ip (inetSum (ip 0)) ++
    udp (if s.flag p Off.eth_MACCFG 2 then (if c = 0 then 65535 else c) else 0)

/-- A frame of a ring's next records leaves a port (R293): header, records, FRAMES, and the space that it frees. -/
def State.sendFrom (s : State) (n : Nat) (r : WheyRing) (recs : List RingRec) (bytes : Nat) : State :=
  let e := s.eth n
  let p := pageETH n
  let synced := s.flag p Off.eth_LINKST 1
  let z (w : Word) : Word := if synced then w else 0
  let cls := (recs.headD { off := 0, len := 0, cls := 0, pad := false }).cls
  let hdr : List Word :=
    [ BitVec.ofNat 32 (1 + cls * 2 ^ 8 + s.fld (pageIDX 0) Off.idx_CHAIN 0 2 * 2 ^ 10 + n * 2 ^ 12 + bit synced * 2 ^ 13 +
        recs.length * 2 ^ 16),
      BitVec.ofNat 32 e.fseq, 0, 0, z (s.reg p Off.eth_PTPTB_LO), z (s.reg p Off.eth_PTPTB_HI), z (s.reg p Off.eth_PTPNS),
      z (s.reg p Off.eth_PTPSEC_LO), z (s.reg p Off.eth_PTPSEC_HI), z (s.reg p Off.eth_PTPRATE) ]
  let body := recs.map (fun x => s.bufWords (ringBase r + x.off) (x.size / 4))
  let (id, s) := s.markWaiting.drawn
  let frame : EthFrame := { head := s.frameHead n id ((hdr ++ body.flatten).flatMap wordBytes), hdr := hdr, recs := body }
  let s := s.setEth n { e with fseq := (e.fseq + 1) % 2 ^ 32, last := some frame }
  let s := s.setReg p Off.eth_FRAMES (s.reg p Off.eth_FRAMES + 1)
  let x := s.wring r
  let s := (s.setWring r (x.setEth n (x.eth n + bytes))).freeAll r
  s.drainCoal s.whey.coal.length

/-- The records that a port's next frame of a ring would carry, the bytes that it passes, and whether it could take more. -/
def State.ethRun (s : State) (n : Nat) (r : WheyRing) : List RingRec × Nat × Bool :=
  frameRun (s.ethMask n) (fromPos (s.wring r).recs ((s.wring r).eth n)) none (s.fld (pageETH n) Off.eth_FRMCFG 0 14 - 40)

/-- TB at which the waiting general frame is sent though not full: FLUSHT µs after its first record was taken (R294). -/
def State.flushDue (s : State) (n : Nat) : Option Nat :=
  (s.ethRun n .general).1.head?.map (fun x => x.tb + 800 * s.fld (pageETH n) Off.eth_FRMCFG 16 8)

/-- The next frame of a port: ALARM, then LOSS, then the general ring when a frame is full or its flush time has passed
(R294). -/
def ethSend (n : Nat) (s : State) : State :=
  let p := pageETH n
  if !s.ethConsumes n || !s.flag p Off.eth_MACCFG 0 then s
  else if s.flag p Off.eth_MACCFG 1 ∧ s.now < (s.eth n).pause then s
  else
    let (a, na, _) := s.ethRun n .alarm
    let (l, nl, _) := s.ethRun n .loss
    let (g, ng, e) := s.ethRun n .general
    if a ≠ [] then s.sendFrom n .alarm a na
    else if l ≠ [] then s.sendFrom n .loss l nl
    else if g ≠ [] ∧ (!e ∨ (s.flushDue n).any (fun d => decide (d ≤ s.now))) then s.sendFrom n .general g ng
    else if g = [] then
      let x := s.whey.general
      (s.setWring .general (x.setEth n (x.eth n + ng))).freeAll .general
    else s

def execEthFrameSend (n : Fin 2) (s : State) : Out := .next (ethSend n s)

/-- FLUSHT µs have passed since the first record of the waiting general frame was taken: the port sends it (R294). -/
def flushTimeout (n : Nat) (s : State) : State :=
  match s.flushDue n with
  | some d => ethSend n (s.upTo d)
  | none => s

def execFlushTimeout (n : Fin 2) (s : State) : Out := .next (flushTimeout n s)

/-- A link comes up: LINKST.UP, LINKUP, and the port consumes again (R286, R297). -/
def execLinkup (n : Fin 2) (s : State) : Out :=
  if !s.pageOn (pageETH n) then .next s else
  let s' := s.setEth n { s.eth n with link := true }
  .next (State.consumersChanged s ((s'.setFld (pageETH n) Off.eth_LINKST 0 1 1).intSet (pageETH n) 16))

/-- A link goes down: the port stops consuming at once (R286, R297). -/
def execLinkdown (n : Fin 2) (s : State) : Out :=
  if !s.pageOn (pageETH n) then .next s else
  let s' := s.setEth n { s.eth n with link := false }
  .next (State.consumersChanged s ((s'.setFld (pageETH n) Off.eth_LINKST 0 1 0).intSet (pageETH n) 17))

/-- LINKST.SYNCED changes (R295). -/
def State.setSynced (s : State) (n : Nat) (on : Bool) : State :=
  if s.flag (pageETH n) Off.eth_LINKST 1 = on then s
  else (s.setFld (pageETH n) Off.eth_LINKST 1 1 (bit on)).intSet (pageETH n) 18

/-- RATE from two successive pairs of TB and time in ns: the 802.1AS time advances (1 + RATE × 2^−40) × 1.25 ns per LSB. -/
def ptpRate (t0 : Nat) (n0 : Int) (t1 : Nat) (n1 : Int) : Int :=
  if t1 ≤ t0 then 0 else ((n1 - n0) * 4 - 5 * ((t1 - t0 : Nat) : Int)) * 2 ^ 40 / (5 * ((t1 - t0 : Nat) : Int))

/-- meanLinkDelay in ns out of one exchange: half of the round trip, in the peer's time, less what the peer took. `r` is the
peer's time over the port's between two responses, (1, 1) without a pair. A TB LSB is 1.25 ns. -/
def peerDelay (t1 t4 : Nat) (t2 t3 : Int) (r : Int × Int) : Int :=
  let trip : Int := ((t4 : Int) - (t1 : Int)) * 5
  if r.2 = 0 then (trip - 4 * (t3 - t2)) / 8 else (trip * r.1 - 4 * (t3 - t2) * r.2) / (8 * r.2)

/-- A Pdelay_Resp_Follow_Up ends the port's exchange (R295). -/
def peerMeasured (n : Nat) (seq : Nat) (t3 : Int) (s : State) : State :=
  let e := s.eth n
  match e.ask with
  | none => s
  | some (q, t1, t4, t2) =>
    if q ≠ seq then s
    else
      let r : Int × Int := match e.asked with
        | some (u4, u3) => if u4 < t4 then ((t3 - u3) * 4, ((t4 : Int) - (u4 : Int)) * 5) else (1, 1)
        | none => (1, 1)
      s.setEth n { e with ask := none, asked := some (t4, t3), linkDelay := peerDelay t1 t4 t2 t3 r }

/-- A received 802.1AS message (R295). -/
def ptpMessage (n : Nat) (m : PtpMsg) (s : State) : State :=
  let p := pageETH n
  let e := s.eth n
  if !s.active p || !s.flag p Off.eth_MACCFG 3 then s else
  match m with
  | .sync rx interval => s.setEth n { e with sync := some (s.near rx.toNat, interval) }
  | .pdelayReq seq rx tx => s.setEth n { e with answer := some (seq.toNat, rx.toNat, tx.toNat) }
  | .pdelayReqSent seq tx => s.setEth n { e with sent := some (seq.toNat, s.near tx.toNat), ask := none }
  | .pdelayResp seq rx t2 =>
    match e.sent with
    | some (q, tx) => if q = seq.toNat then s.setEth n { e with ask := some (q, tx, s.near rx.toNat, t2) } else s
    | none => s
  | .pdelayRespFollowUp seq t3 => peerMeasured n seq.toNat t3 s
  | .followUp sec ns corr =>
    match e.sync with
    | none => s
    | some (rx, _) =>
      let t : Int := (sec.toNat : Int) * 1000000000 + (ns.toNat : Int) + corr + e.linkDelay
      let rate := match e.pair with
        | some (t0, n0) => ptpRate t0 n0 rx t
        | none => 0
      let s := s.setEth n { e with pair := some (rx, t) }
      let s := s.setReg64 p Off.eth_PTPTB_LO Off.eth_PTPTB_HI rx
      let s := s.setReg p Off.eth_PTPNS (BitVec.ofNat 32 (t % 1000000000).toNat)
      let s := s.setReg64 p Off.eth_PTPSEC_LO Off.eth_PTPSEC_HI ((t / 1000000000).toNat % 2 ^ 48)
      let s := s.setReg p Off.eth_PTPRATE (BitVec.ofNat 32 (unsigned 32 rate))
      s.setSynced n true

def execPtpMessage (n : Fin 2) (m : PtpMsg) (s : State) : Out := .next (ptpMessage n m s)

/-- No Sync for three announced intervals: SYNCED becomes 0 (R295). -/
def syncTimeout (n : Nat) (s : State) : State :=
  match (s.eth n).sync with
  | none => s
  | some (rx, i) => (s.upTo (rx + 3 * i)).setSynced n false

def execSyncTimeout (n : Fin 2) (s : State) : Out := .next (syncTimeout n s)

/-- A PAUSE frame holds the transmitter for its quanta of 512 bit times when RXPAUSE = 1; else it is discarded (R292, R294). -/
def pauseFrame (n : Nat) (quanta : Nat) (s : State) : State :=
  if !s.active (pageETH n) then s
  else if s.flag (pageETH n) Off.eth_MACCFG 1 then s.setEth n { s.eth n with pause := s.now + quanta * 4096 / 100 }
  else s.addSat (pageETH n) Off.eth_RXDISC 0 16 1

def execPauseFrame (n : Fin 2) (q : BitVec 16) (s : State) : Out := .next (pauseFrame n q.toNat s)

/-- Any other received frame is discarded and counted (R292). -/
def execReceivedFrameDiscard (n : Fin 2) (s : State) : Out :=
  .next (if s.active (pageETH n) then s.addSat (pageETH n) Off.eth_RXDISC 0 16 1 else s)

end Sys2Proof.Machine
end

