-- ==== Sys2Proof/Machine/Blocks.lean ====
section
/-! DEFINITION. Blocks as a whole: entering and leaving service, RESET_BLOCK, the loss of a domain's contents, fatal faults and
LIMP causes (R37 to R40, R48, R77, R95, R166, R254, R297, R325, R334, R342). -/

namespace Sys2Proof.Machine

/-! ### Fatal faults and LIMP causes -/

/-- A fatal fault (R325, R326): SAFECAUSE holds the first, and the outputs are held from this clock on. A device in DORMANT
knows none but the brown-out (R343). -/
def fatal (cause page : Nat) (s : State) : State :=
  if s.md = mDORMANT then s
  else if s.md = mSAFE then s.alarm (originOf pageSYS) 0x007 s.now [BitVec.ofNat 32 (cause + 2 ^ 8)]
  else
    let s := if s.mode.safeDue then s else s.setReg pageSYS Off.sys_SAFECAUSE (BitVec.ofNat 32 (cause + page * 2 ^ 16))
    let s := (s.alarm (originOf pageSYS) 0x007 s.now [BitVec.ofNat 32 cause]).bell 0x000
    ({ s with mode := { s.mode with safeDue := true } }).dropFollow.dropPwmPins

/-- A loss without a spare (R334, R371, R375): NO_TAKEOVER, source 0x00D, and a LIMP cause, or in LIMP a fatal fault. Where the
availability logic takes nothing over, the report is all. -/
def unspared (p : Nat) (s : State) : State :=
  let s := (s.alarm (originOf p) 0x015 s.now [BitVec.ofNat 32 p]).bell 0x00D
  if s.md = mLIMP then fatal 0x07 p s
  else if s.md = mRUN ∨ s.md = mBENCH ∨ s.md = mHALT then
    let s := if s.flag pageSYS Off.sys_LIMPCAUSE 8 then s
      else (s.setFld pageSYS Off.sys_LIMPCAUSE 8 1 1).setFld pageSYS Off.sys_LIMPCAUSE 16 12 p
    { s with mode := { s.mode with limpDue := true } }
  else s

/-! ### Shadows (R52) -/

/-- The shadows of a block are discarded. -/
def State.dropShadows (s : State) (p : Nat) : State :=
  { s with shadow := s.shadow.filter (fun (e : Nat × Word) => basePage (e.1 / 4096) != p) }

/-- PAGE_STATE.SHADOW of a page (R33). -/
def State.shadowed (s : State) (p : Nat) : Bool := s.shadow.any (fun (e : Nat × Word) => e.1 / 4096 == p)

/-- A shadowed register as a commit would leave it. -/
def State.shadowReg (s : State) (p o : Nat) : Word :=
  match s.shadow.find? (fun (e : Nat × Word) => e.1 == adr p o) with
  | some e => e.2
  | none => s.reg p o

/-! ### Entering and leaving service -/

/-- The rings start: every index 0, the next record carries PHASE 1; a record that still waits is written to them (R48, R303). -/
def startRings (s : State) : State :=
  let s := [Off.cmdq_CRHEAD, Off.cmdq_CRTAIL, Off.cmdq_CPHEAD, Off.cmdq_CPTAIL].foldl (fun s o => s.setReg pageCMDQ o 0) s
  { s with ring := { owed := s.ring.owed } }

/-- A block becomes ACTIVE at a boundary, or SPARE where its configuration holds it as a spare (R39, R40, R166, R254). -/
def enterService (p : Nat) (s : State) : State :=
  let s := s.restartStreams p
  let i := pageInst p
  match pageKind p with
  | some .cl => if s.isReserve i then s.setSt p stSPARE
    else if (s.clu i).testFail then s.setSt p stACTIVE else takeRole i (s.setSt p stACTIVE)
  | some .pwm =>
    if s.flag p Off.pwm_MCFG 0 && (s.pwm i).sub.isNone then s.setSt p stSPARE else startPwm i (s.setSt p stACTIVE)
  | some .adc => startCore i (s.setSt p stACTIVE)
  | some .pchg => startCounters p (s.setSt p stACTIVE)
  | some .wu => wheelStart i { s.setSt p stACTIVE with twins := s.twins.filter (fun (t : Nat × Nat × Int) => t.1 != i) }
  | some .cmdq => startRings (s.setSt p stACTIVE)
  | some .eth => State.consumersChanged s (s.setSt p stACTIVE)
  | _ => s.setSt p stACTIVE

/-- A unit that is not ACTIVE reads SEARCH: what it knew is gone (R93). -/
def wheelOff (u : Nat) (s : State) : State :=
  let s := closeWheelLanes (fun v => s.servedBy v u) s
  let s := s.mapsOff u
  s.setWheel u { (s.wheel u).search with state := wSEARCH, toSearch := none, pubState := 0, pubs := [], mapValid := false }

/-- DISABLE and DISARM take a unit back to SEARCH, with the effects of R95 if it held a map (R94, R402). -/
def wheelDisabled (u : Nat) (s : State) : State :=
  let w := s.wheel u
  if w.state = wSEARCH then s
  else syncTo u wSEARCH (w.toSearch.getD 0x10) s

/-- What a block does in the clock in which it leaves ACTIVE by DISABLE or DISARM (R40, R126, R169, R203, R233, R240, R247, R315,
R328). -/
def leaveService (p : Nat) (s : State) : State :=
  let i := pageInst p
  match pageKind p with
  | some .cl => dropRole i (cancelCluster i s)
  | some .pwm => (s.stopPwm i).dropPwmPins
  | some .pchg => cutChecks s
  | some .rsmp => closeAllLanes s
  | some .ang => s.cancelCalendar
  | some .idx => portOff i s
  | some .wu => if s.active p then s else wheelOff i (if s.st p = stCONFIGURED then wheelDisabled i s else s)
  | _ => s

/-- A block leaves ACTIVE for another state at a boundary. -/
def retire (p x : Nat) (s : State) : State :=
  let s' := leaveService p (s.setSt p x)
  match pageKind p with
  | some .eth => State.consumersChanged s s'
  | _ => s'

/-! ### RESET_BLOCK and the loss of contents -/

/-- Registers of RIND that live in its non-volatile store (R367). -/
def rindStored (o : Nat) : Bool := (0x40 ≤ o && o < 0x60) || (0x800 ≤ o && o < 0x814) || (0x870 ≤ o && o < 0x880)

/-- What RESET_BLOCK clears beside the configuration (R38, R48, R77, R182). -/
def resetInner (p : Nat) (s : State) : State :=
  let i := pageInst p
  match pageKind p with
  | some .pchg => resetPins p eSTATE s
  | some .adc => resetCore i s
  | some .pwm => resetPwm i s
  | some .cl => (resetCluster i false s).setReg p Off.cl_PAIRSTAT 0
  | some .cmdq => startRings s
  | some .rsmp => loseLanes s
  | _ => s

/-- RESET_BLOCK (R38, R40). -/
def resetBlockNow (p : Nat) (s : State) : State :=
  let s := (blockPages p).foldl (fun s q =>
    s.resetRegs q (fun o => !(o == 0x014 || (0x40 ≤ o && o < 0x800)))) s
  let s := resetInner p (s.dropShadows p)
  let s := s.setPage p { s.page p with enpend := false }
  if (s.page p).st = stSPARE ∨ (s.page p).st = stIDLE then s else s.setSt p stIDLE

/-- The contents of the blocks of a domain are lost (R342). -/
def loseContents (d : Nat) (s : State) : State :=
  if d < 16 then resetCluster d true s
  else if d < 32 then
    let c := d - 16
    { s with cstore := s.cstore.filter (fun e => e.1 / 8192 != c), banks := s.banks.filter (fun e => e.1 / 2 != c) }
  else if d < 52 then
    let p := (d - 32) / 2
    let s := resetPins (pagePCHG p) ePOWER s
    (List.range 16).foldl (fun s k =>
      let c := 16 * p + k
      s.setChan c { s.chan c with shift := {}, follow := false, lvl := s.safeLvl c }) s
  else if d < 57 then s.setAdc (d - 52) {}
  else if d < 67 then resetPwm (d - 57) s
  else if d < 75 then (wheelOff (d - 67) s).setWheel (d - 67) {}
  else if d = 80 then { s with eth0 := {} }
  else if d = 81 then { s with eth1 := {} }
  else if d = 82 then { s with idx0 := { rate := s.idx0.rate, slewed := s.idx0.slewed } }
  else if d = 83 then { s with idx1 := {} }
  else if d = 84 then { s with iu := { latch := s.iu.latch, armed := s.iu.armed, flight := s.iu.flight, idlePin := s.iu.idlePin } }
  else if d = 85 then { s with whey := { owed := s.whey.owed, alarms := s.whey.alarms, queued := s.whey.queued } }
  else if d = 86 then { loseLanes s with lanes := [] }
  else if d = 87 then { s with td := {} }
  else if d = 88 then { s with rind := { s.rind with ir := 2, scan := 0, cells := [], sampled := [], acc := 0, dr := 0 } }
  else if d = 90 then
    let s := s.endSessions.clearAuth
    { s with rind := { s.rind with lockHost := 0, lockTap := 0, tapFails := 0, level := none, sealing := none } }
  else s

/-- The first domain of those that are switched together: the two banks of a PCHG page (R340). -/
def leadDomain (d : Nat) : Nat := if 32 ≤ d ∧ d < 52 then d / 2 * 2 else d

/-- The domains that are switched together. -/
def domainGroup (d : Nat) : List Nat := if 32 ≤ d ∧ d < 52 then [d / 2 * 2, d / 2 * 2 + 1] else [d]

/-- The base pages of the blocks in a domain. -/
def domainBases (d : Nat) : List Nat := basePages.filter (fun p => pageDomain p == leadDomain d)

/-- PAGE_STATE of a page after a reset of its domain: a converter core is IDLE (R210), every other block as after reset. -/
def domainState (p : Nat) : PageSt := if pageKind p = some .adc then { st := stIDLE } else pageReset p

/-- The pages of a domain return to reset values (R342); a converter core has its reference off (R210). -/
def clearPages (d : Nat) (s : State) : State :=
  (domainBases d).foldl (fun s p =>
    let s := (blockPages p).foldl (fun s q => s.resetRegs q (fun o => p == pageRIND && rindStored o)) s
    let s := if p = pageRIND then s.rindCrc else s
    (domainResetCore p (s.dropShadows p)).setPage p (domainState p)) s

end Sys2Proof.Machine
end

