-- ==== Sys2Proof/Machine/Avail.lean ====
section
/-! DEFINITION. The availability logic and the power domains: takeovers, role migration, domain commands, repair and restore
(R178, R340 to R342, R356, R370 to R380). -/

namespace Sys2Proof.Machine

/-- The modes in which work is taken over (R371). -/
def State.takesOver (s : State) : Bool := s.serving || s.md == mHALT

/-- A block that is in service, or a spare, has failed: the availability logic takes note. -/
def noteLost (p : Nat) (s : State) : State :=
  let used := s.active p || s.st p == stSPARE
  if !used || s.lost.any (fun (e : Nat × Bool) => e.1 == p) then s
  else { s with lost := s.lost ++ [(p, s.st p == stSPARE)] }

def State.unlist (s : State) (p : Nat) : State := { s with lost := s.lost.filter (fun (e : Nat × Bool) => e.1 != p) }

/-- A DOM_RESET is owed on a domain; one that runs there already, as after a rail fault, repairs it (R341, R379). -/
def oweDomain (d : Nat) (s : State) : State :=
  if s.running.any (fun r => r.req.page.toNat == pagePWR && r.code == 0x43 && r.data.headD 92 == d) then s else
  { s with dom := s.dom.set {} d { s.dom.get {} d with repair := true } }

/-- A DOM_RESET is owed on the domain of a block; for a cluster on both of its domains (R379). -/
def oweRepair (p : Nat) (s : State) : State :=
  let s := oweDomain (leadDomain (pageDomain p)) s
  if pageKind p = some .cl then oweDomain (16 + pageInst p) s else s

/-- TAKEOVER and source 0x00C; the source has lost its work until it is restored (R371, R374, R378). -/
def takeover (kind src tgt w7 : Nat) (s : State) : State :=
  let s := { s with taken := s.taken.filter (· != src) ++ [src] }
  (s.alarm (originOf src) 0x014 s.now [BitVec.ofNat 32 (kind + src * 2 ^ 4 + tgt * 2 ^ 16), BitVec.ofNat 32 w7]).bell 0x00C

/-- A command of the availability logic: no completion record (R371). -/
def ownRequest (p w2 : Nat) : Req := { src := .device, page := BitVec.ofNat 12 p, tag := 0, args := { w2 := BitVec.ofNat 32 w2 } }

/-! ### Wheel twins (R376) -/

/-- The configuration of a wheel unit in all its pages, without PRISEL. -/
def State.wheelConf (s : State) (u : Nat) : List Word :=
  let w := s.region (pageWU u)
  withField (w.headD 0) 20 3 0 :: (w.drop 1 ++ s.region (pageWUX u) ++ s.region (pageWUS u))

/-- The lowest-numbered twin of a unit that is in FULL_SYNC. -/
def State.twinOf (s : State) (u : Nat) : Option Nat :=
  (List.range 8).find? (fun v => v != u && s.active (pageWU v) && (s.wheel v).state == wFULL && s.wheelConf v == s.wheelConf u)

/-- The predictor goes over to the twin from the fault clock on. Without one the wheel has no map from there, and its windows close
(R93, R233). -/
def twinSearch (u : Nat) (s : State) : State :=
  match (if s.takesOver then s.twinOf u else none) with
  | some v => { s with twinDue := s.twinDue ++ [(u, v, s.cycDiff.get 0 (8 * u + v))] }
  | none => closeWheelLanes (fun w => s.servedBy w u) s

/-- The twin serves every reference from the boundary on; wheels that the lost unit served go with it. -/
def twinTake (u v : Nat) (d : Int) (s : State) : State :=
  let rest := (s.twins.filter (fun (t : Nat × Nat × Int) => t.1 != u)).map
    (fun (t : Nat × Nat × Int) => if t.2.1 = u then (t.1, v, t.2.2 + d) else t)
  let s := { s with twins := (u, v, d) :: rest }
  let s := if s.st (pageWU u) = stFAULT ∨ s.st (pageWU u) = stDOWN then s else s.setSt (pageWU u) stQUARANTINE
  oweRepair (pageWU u) (takeover 3 (pageWU u) (pageWU v) 0 s)

/-! ### In the clock of a fault -/

/-- A lost block is dealt with in its fault clock: SUBSTITUTE is issued, a twin is found, a failed spare is reported (R371, R372,
R375, R376). The takeover itself is for the boundary. -/
def availBlock (p : Nat) (spare : Bool) (s : State) : State :=
  let i := pageInst p
  if spare then
    let s := ((s.alarm (originOf p) 0x016 s.now [BitVec.ofNat 32 p]).bell 0x00D).unlist p
    if s.takesOver then oweRepair p s else s
  else if pageKind p = some .wu then twinSearch i s
  else if !s.takesOver then s
  else match pageKind p with
  | some .pwm =>
    (match (List.range 10).find? (fun k => s.st (pagePWM k) == stSPARE && !s.busy (pagePWM k)) with
      | some k => (offer 0x40 pwmSubstitute (ownRequest (pagePWM k) (s.logical i)) s).2
      | none => s)
  | some .adc => if i = 4 then s else (offer 0x43 adcSubstitute (ownRequest (pageADC 4) i) s).2
  | _ => s

/-- The blocks that have been lost in this clock are dealt with. -/
def dealLost (old s : State) : State :=
  (s.lost.filter (fun (e : Nat × Bool) => !old.lost.any (fun (o : Nat × Bool) => o.1 == e.1))).foldl
    (fun (s : State) (e : Nat × Bool) => availBlock e.1 e.2 s) s

/-- A block that nothing stands in for, in a domain that a command may reset (R372, R379). -/
def noSpare (p : Nat) : Bool :=
  match pageKind p with
  | some .cl | some .pwm | some .wu => false
  | some .adc => p == pageADC 4
  | _ => pageDomain p != 89 && pageDomain p != 90

/-- A block fails in this clock; the domain of one whose work nothing takes over, without a spare or not in service, is to be reset
(R379). -/
def failBlock (p : Nat) (s : State) : State :=
  let idle := !s.active p && s.st p != stSPARE
  let s := dealLost s (s.blockFault p)
  if s.takesOver ∧ (noSpare p ∨ idle) then oweRepair p s else s

def execPwmCopyMismatch (m : Fin 10) (s : State) : Out := .next (dealLost s (pwmCopyMismatch m s))

def execReferenceFault (n : Fin 5) (s : State) : Out := .next (dealLost s (referenceFault n s))

def execComparatorSelftest (failed : List (Fin 16 × Fin 4)) (s : State) : Out :=
  .next (dealLost s (comparatorSelftest (failed.map (fun f => (f.1.val, f.2.val))) s))

/-- The two decoders of a wheel unit differ: the unit enters FAULT (R370). -/
def execWheelDecoderMismatch (u : Fin 8) (s : State) : Out :=
  .next (if s.active (pageWU u) then failBlock (pageWU u) s else s)

/-! ### Domains (R340 to R342) -/

/-- A domain takes a DSTATE: DOMCHG. -/
def setDst (d x : Nat) (s : State) : State :=
  let s := (domainGroup d).foldl (fun s k => { s with dom := s.dom.set {} k { s.dom.get {} k with st := x } }) s
  s.intSet pagePWR 16

/-- What leaving ON does to the blocks of a domain in that clock (R94, R247, R251, R286, R300, R315, R341, R380). -/
def domainEffects (d : Nat) (s : State) : State :=
  if 32 ≤ d ∧ d < 52 then cutChecks s.dropFollow.dropPwmPins
  else if 57 ≤ d ∧ d < 67 then s.dropPwmPins
  else if 67 ≤ d ∧ d < 75 then
    if s.twinDue.any (fun (t : Nat × Nat × Int) => t.1 == d - 67) then s else searchAtBoundary (d - 67) 0x11 s
  else if 75 ≤ d ∧ d < 79 then s.quadrantLost (d - 75)
  else if d = 79 then linkDown s
  else if d = 82 then portOff 0 s
  else if d = 83 then portOff 1 s
  else if d = 85 then { s with whey := { s.whey with owed := some s.now } }
  else if d = 90 then { s with rind := { s.rind with level := none, sealing := none } }
  else s

/-- The pins of an I/O bank that leaves ON: those that it drives are held at their latched safe levels, the others stay undriven
(R341). -/
def holdBank (d : Nat) (s : State) : State :=
  if 32 ≤ d ∧ d < 52 then
    { s with bankHold := (List.range 16).foldl (fun h k =>
        let n := 16 * ((d - 32) / 2) + k
        h.set none n (if (s.pinDrive n).isSome then s.latched? n else none)) s.bankHold }
  else s

/-- A domain leaves ON for another DSTATE (R341, R377): its blocks' states are kept, the commands on its pages end with
E_POWER; a COMMIT that is PREPARED is judged at its boundary (R54). -/
def leaveOn (d x : Nat) (s : State) : State :=
  let l := leadDomain d
  let ps := domainBases d
  let back := ps.map (fun p => (p, (s.page p).st, (s.page p).enpend))
  let lost := if 16 ≤ d ∧ d < 32 then [pageCL (d - 16)] else ps.filter (fun p => pageDomain p != 90)
  let old := s.lost
  let s := lost.foldl (fun s p => noteLost p s) s
  let before := { s with lost := old }
  let s := { s with dom := s.dom.set {} l { s.dom.get {} l with back := back } }
  let s := setDst d x (holdBank d s)
  let s := if 16 ≤ d ∧ d < 32 ∧ s.st (pageCL (d - 16)) = stSPARE then s.setSt (pageCL (d - 16)) stFAULT else s
  let s := (s.running.filter (fun r => ps.contains r.req.page.toNat && !(r.code == 5 && (s.page r.req.page.toNat).prepared))).foldl
    (fun s r => s.endRun r { code := ePOWER }) s
  let s := domainEffects l (dealLost before s)
  if d = 80 ∨ d = 81 then State.consumersChanged before s else s

/-- A shift unit goes to OFF; a SHIFT stalled on it ends (R162). -/
def unitOff (c : Nat) (s : State) : State := (failStalls c ePOWER s).setUnit c {}

/-- Loaded entries and the shift units' bits are discarded by a reset or when power goes (R77, R162, R341). -/
def discardLoaded (d : Nat) (s : State) : State :=
  if 32 ≤ d ∧ d < 52 then
    let p := (d - 32) / 2
    (List.range 16).foldl (fun s k => unitOff (16 * p + k) s) (resetPins (pagePCHG p) ePOWER s)
  else s

/-- REJOINING begins: the keep-copy stands aside after a DOM_RESET, and the domain is cleared (R342, R377); the row map of its arrays is
to be built again (R381). A rejoin that begins anew has its keep-copy already. -/
def beginRejoin (d : Nat) (restore : Bool) (s : State) : State :=
  let l := leadDomain d
  let has := l < 16 || (32 ≤ l && l < 75)
  let k := s.dom.get {} l
  let keep := if restore && !k.keep.isEmpty then k.keep else if restore && has then (domainBases d).flatMap (fun p => (blockPages p).flatMap (fun q =>
      (adr q 0x014, s.reg q 0x014) :: (s.region q).zipIdx.map (fun (w : Word × Nat) => (adr q (0x40 + 4 * w.2), w.1)))) else []
  let s := clearPages d (loseContents l s)
  let s := { s with press := { s.press with spares := s.press.spares.filter (fun e => e.1 / 2048 != l) } }
  setDst d 4 { s with dom := s.dom.set {} l { k with worked := false, since := s.now, keep := keep, back := if restore then k.back else [] } }

/-- The work of a block has been taken over (R378): by the availability logic, or a module's by a SUBSTITUTE of the host. -/
def State.takenOver (s : State) (p : Nat) : Bool :=
  s.taken.contains p || (pageKind p == some .pwm && s.modMap (pageInst p) != pageInst p)

/-- The state of a block after a restore (R378). -/
def restored (p st : Nat) (enp : Bool) (s : State) : State :=
  let taken := s.takenOver p
  let s := { s with taken := s.taken.filter (· != p) }
  if st = stIDLE then s
  else if 52 ≤ pageDomain p ∧ pageDomain p < 57 then s.setSt p stCONFIGURED
  else if taken ∨ st = stSPARE then
    s.setSt p (if pageKind p = some .pwm ∧ s.flag p Off.pwm_MCFG 0 then stSPARE else stCONFIGURED)
  else if st = stACTIVE then enterService p s
  else if enp then (s.setSt p stCONFIGURED).setPage p { s.page p with st := stCONFIGURED, enpend := true }
  else s.setSt p stCONFIGURED

/-- The domain is ON: its pages come back from the keep-copy (R342, R378), and a consumer may have returned. -/
def domainOn (d : Nat) (s : State) : State :=
  let l := leadDomain d
  let k := s.dom.get {} l
  let before := s
  let s := setDst d 0 { s with dom := s.dom.set {} l { k with keep := [], back := [] } }
  let s := k.keep.foldl (fun s e => s.setReg (e.1 / 4096) (e.1 % 4096) e.2) s
  let s := if 32 ≤ l ∧ l < 52 then applyIdleCounters (pagePCHG ((l - 32) / 2)) s else s
  let s := if k.keep.isEmpty then s
    else k.back.foldl (fun (s : State) (b : Nat × Nat × Bool) => restored b.1 b.2.1 b.2.2 s) s
  if d = 80 ∨ d = 81 then State.consumersChanged before s else s

/-- TB LSBs of the rejoin work of a domain (R342). -/
def rejoinTime (d : Nat) : Nat :=
  if d < 16 then 12800 else if d < 32 then 20000 else if 75 ≤ d ∧ d < 79 then 4000 else if d = 85 then 160000 else 1600

/-- A memory test maps a row that it finds bad to a spare row of its block; with none left the array fails its test (R381). A row that
was reported when its second error fell is not reported again. -/
def mapRow (r : Nat) (s : State) : State :=
  if !s.spareRow r then rowReport r (2 ^ 28) s
  else if s.press.due.contains r then useSpare r s
  else rowReport r 0 (useSpare r s)

/-- Rows that wait for the rejoin of a domain. -/
def State.rowsDue (s : State) (d : Nat) : List Nat := s.press.due.filter (rowDomain · == d)

/-- A memory test ends with these rows bad: what it maps, and which of the rows of data arrays found no spare row. A word of a control
store stays served by the mirror then (R381). -/
def memoryTest (rows : List Nat) (s : State) : List Nat × State :=
  rows.eraseDups.foldl (fun (a : List Nat × State) r =>
    (if a.2.spareRow r || (16 ≤ rowDomain r && rowDomain r < 32) then a.1 else a.1 ++ [r], mapRow r a.2)) ([], s)

/-- The blocks of a domain: of a control store its cluster. -/
def domainBlocks (d : Nat) : List Nat := if 16 ≤ d ∧ d < 32 then [pageCL (d - 16)] else domainBases d

/-- The rejoin work ends, and with it the memory test, which maps the rows that it finds bad and those that wait for it. A domain whose
test fails is OFF, and each of its blocks is reported (R379, R381). -/
def rejoinWorkEnd (d : Nat) (t : RejoinResult) (s : State) : State :=
  let l := leadDomain d
  let k := s.dom.get {} l
  if k.st ≠ 4 ∨ k.worked then s else
  let s := s.upTo (k.since + rejoinTime l)
  let due := s.rowsDue l
  let r := memoryTest (due ++ (t.rows.map (fun a => rowOf l a.toNat)).filter (fun r => !due.contains r)) s
  let s := r.2
  if t.ok && r.1.isEmpty then { s with dom := s.dom.set {} l { k with worked := true, since := s.now } }
  else
    let s := setDst d 1 { s with dom := s.dom.set {} l { k with keep := [], back := [], repair := false } }
    let s := (domainBlocks l).foldl (fun s p => unspared p s) s
    match s.running.find? (fun r => r.req.page.toNat == pagePWR && r.data.headD 92 == l) with
    | some r => s.endRun r { code := ePOWER, res := [1] }
    | none => s

def execRejoinWorkEnd (d : Fin 92) (test : RejoinResult) (s : State) : Out := .next (rejoinWorkEnd d test s)

/-! ### Domain commands (R341, R348, R349) -/

/-- The domain of a command: DOMSEL, or ARG word 2. -/
def State.domSel (s : State) (q : Req) : Nat :=
  match q.src with
  | .port _ => s.fld pagePWR Off.pwr_DOMSEL 0 7
  | _ => fieldOf q.args.w2 0 7

/-- The command that runs on a domain. -/
def State.domRun (s : State) (d : Nat) : Option Running :=
  s.running.find? (fun r => r.req.page.toNat == pagePWR && 0x40 ≤ r.code && r.data.headD 92 == leadDomain d)

/-- A domain command, from the DSTATEs that it starts in; its data are the lead domain and how far it has come. -/
def domCmd (code : Nat) (frm : List Nat) : Cmd where
  errs q s :=
    let d := s.domSel q
    [ (eSTATE, s.md == mBOOT || s.md == mDORMANT), (eVALUE, decide (91 < d)),
      (eSTATE, d == 89 || d == 91 || (d == 90 && code != 0x43)), (eSTATE, !frm.contains (s.dom.get {} d).st),
      (eBUSY, (s.domRun d).isSome || s.running.any (fun r => r.req.page.toNat == pagePWR && isCommon r.code && r.code != 1)) ]
  run q s :=
    let d := leadDomain (s.domSel q)
    { s with running := match s.running.reverse with
      | r :: t => (({ r with data := [d, 0] } : Running) :: t).reverse
      | [] => [] }

def domOff : Cmd := domCmd 0x40 [0, 2]
def domOn : Cmd := domCmd 0x41 [1]
def domIsolate : Cmd := domCmd 0x42 [0]
def domReset : Cmd := domCmd 0x43 [0, 2]

/-- A domain command goes on. -/
def stepRun (r : Running) (n : Nat) (s : State) : State :=
  { s with running := s.running.map (fun x => if x = r then { x with data := [r.data.headD 0, n] } else x) }

/-- A domain command at a boundary (R341). A domain is ON at the first boundary after its rejoin work: work that ends in the clock of a
boundary waits for the next one. -/
def domainStep (r : Running) (s : State) : State :=
  let d := r.data.headD 0
  let on := (s.dom.get {} d).st == 0
  match r.data.getD 1 0 with
  | 0 =>
    if r.code = 0x42 then (leaveOn d 2 s).endRun r { res := [2] }
    else if r.code = 0x43 then
      let s := if on then leaveOn d 2 s else s
      stepRun r 1 (setDst d 3 (discardLoaded d s))
    else if r.code = 0x40 then stepRun r 1 (if on then leaveOn d 2 s else s)
    else stepRun r 2 (beginRejoin d false s)
  | 1 => if r.code = 0x43 then stepRun r 2 (beginRejoin d true s) else s
  | _ =>
    let k := s.dom.get {} d
    if k.worked ∧ k.since < s.now then (domainOn d s).endRun r { res := [0] } else s

/-- Step 6 of a boundary (R20). -/
def domainsAtBoundary (s : State) : State :=
  (s.running.filter (fun r => r.req.page.toNat == pagePWR && 0x40 ≤ r.code)).foldl (fun s r => domainStep r s) s

/-- Power is removed from a domain under DOM_OFF (R341). -/
def domainPowerOff (d : Nat) (s : State) : State :=
  match s.domRun d with
  | some r =>
    if r.code = 0x40 ∧ r.data.getD 1 0 = 1 then
      let s := setDst d 1 (discardLoaded d s)
      let s := if d = 86 then { s with smem := [] } else s
      s.endRun r { res := [1] }
    else s
  | none => s

def execDomainPowerOff (d : Fin 92) (s : State) : Out := .next (domainPowerOff d s)

/-- The DOM_RESETs that the availability logic owes are issued, each as soon as no command runs on its domain (R379). -/
def issueRepairs (s : State) : State :=
  s.dom.foldl (fun s e =>
    let d := e.1
    let k := s.dom.get {} d
    if !k.repair || (s.domRun d).isSome then s
    else if (k.st = 0 ∨ k.st = 2) ∧ s.md ≠ mBOOT ∧ s.md ≠ mDORMANT then
      (offer 0x43 domReset (ownRequest pagePWR d) { s with dom := s.dom.set {} d { k with repair := false } }).2
    else { s with dom := s.dom.set {} d { k with repair := false } }) s

/-- A domain is isolated in this clock: out of ON it leaves service; a domain command that had come further than that begins anew with
the next boundary. -/
def isolate (d : Nat) (s : State) : State :=
  let l := leadDomain d
  if s.dst l = 0 then leaveOn d 2 s
  else
    let s := if s.dst l = 2 then s else setDst d 2 s
    match s.domRun d with
    | some r => stepRun r 0 s
    | none => s

/-- The rail of a domain leaves its tolerance (R325, R370, R379, R382): the domain is isolated in that clock, and reset. Of Rind
and of the system core it is a fatal fault. A domain that is OFF has no rail that could. -/
def railFault (d : Nat) (s : State) : State :=
  let l := leadDomain d
  if s.md = mDORMANT ∨ s.mode.brown ∨ s.dst l = 1 then s
  else if d = 89 then fatal 0x0A 0 s
  else if d = 90 then fatal 0x09 pageRIND (isolate 90 s)
  else
    let s := isolate d s
    if s.takesOver then issueRepairs (oweDomain l s) else s

/-! ### Moving a cluster role (R356, R373 to R375) -/

/-- A cluster qualifies as the spare for another (R373). -/
def State.qualifies (s : State) (c k : Nat) : Bool :=
  let a := s.bankSt c (s.bankOf c)
  let b := s.bankSt k (s.bankOf k)
  s.st (pageCL k) == stSPARE && s.dst (16 + k) == 0 && !(s.clu k).testFail && !s.split k &&
    b.valid && b.sha.isSome && a.sha == b.sha

/-- Rind's role map follows a move at SEALED (R356). -/
def moveRoleMap (c k r : Nat) (s : State) : State :=
  if s.level = lvSEALED ∧ !s.rind.sealRoles.isEmpty then
    ((s.setRoleMap k (0x80 + r)).setRoleMap c 0x90).log pageRIND 0x008 0x015 s.now [BitVec.ofNat 32 (c + k * 2 ^ 4 + r * 2 ^ 8)]
  else s

/-- The configuration regions of a cluster go to another (R374). -/
def copyClusterCfg (c k : Nat) (s : State) : State :=
  let put (a b : Nat) (s : State) : State := (s.region a).zipIdx.foldl (fun (s : State) (w : Word × Nat) => s.setReg b (0x40 + 4 * w.2) w.1) s
  let s := put (pageCLT c) (pageCLT k) (put (pageCL c) (pageCL k) s)
  let s := (s.setFld (pageCL k) Off.cl_ROLECFG 8 1 0).setFld (pageCL c) Off.cl_ROLECFG 8 1 1
  [pageCL c, pageCLT c, pageCL k, pageCLT k].foldl (fun s p => s.setReg p 0x014 (s.regionCrc p)) s

/-- What a copy takes from the source: memories, tasks, event completions (R374). -/
def copyRole (c k : Nat) (lost : Bool) (s : State) : State :=
  let x := s.clu c
  let s := (List.range 8).foldl (fun s i =>
    { s with engs := s.engs.set {} (8 * k + i) { s.eng (8 * k + i) with mem := if lost then [] else (s.eng (8 * c + i)).mem } }) s
  let s := s.setClu k { s.clu k with
    shared := if lost then [] else x.shared, tasks := if lost then [] else x.tasks, ecq := if lost then [] else x.ecq,
    copy := some (c, lost) }
  s.setClu c { s.clu c with tasks := [], ecq := [] }

/-- Tasks stalled in SHIFT end as under SHIFT_ABORT and are CANCELLED (R178). -/
def endShifts (c : Nat) (s : State) : State :=
  (List.range 8).foldl (fun s i =>
    let e := 8 * c + i
    match (s.eng e).wait, (s.eng e).task with
    | some _, some t => freeEngine e (endTask c t (abortShift e s))
    | _, _ => s) s

/-- The row of a cluster in which a word fails. -/
def copyRow (c : Nat) : CopyFault → Nat
  | .loc e w => memRow (8 * c + e.val) true (4 * w.toNat)
  | .shared w => memRow (8 * c) false (4 * w.toNat)
  | .task t w => taskRow c t.toNat w.toNat
  | .event i w => eventRow c i.toNat w.toNat

/-- A word of a saved descriptor is zero, in the model's order of its eight words: g12 to g15, the resume address with the flags, the
mask, the counts, the state (R374). -/
def TaskSt.zeroWord (t : TaskSt) (w : Nat) : TaskSt :=
  if w < 4 then { t with save := t.save.set w 0 }
  else if w = 4 then { t with resume := 0, fl := {} }
  else if w = 5 then { t with mask := 0 }
  else if w = 6 then { t with rdy := 0, runs := 0 }
  else { t with st := 0, shiftWait := false, cancel := false }

/-- The copy of a role has ended: words that failed parity are zero, TAKEOVER is written, the failed block is repaired (R374,
R379). -/
def copyEnd (k : Nat) (bad : List CopyFault) (s : State) : State :=
  match (s.clu k).copy with
  | none => s
  | some (c, lost) =>
    let s := bad.foldl (fun s f => rowError (copyRow c f) s) s
    let s := bad.foldl (fun s f => match f with
      | .loc e w => let x := s.eng (8 * k + e.val)
                    { s with engs := s.engs.set {} (8 * k + e.val) { x with mem := x.mem.setWord (4 * w.toNat) 0 } }
      | .shared w => s.setShared k (4 * w.toNat) 0
      | .task t w => s.setTask k t.toNat ((s.task k t.toNat).zeroWord w.toNat)
      | .event i w => s.setClu k { s.clu k with ecq := (s.clu k).ecq.modify i.toNat (fun r => r.set w.toNat 0) }) s
    let s := s.setClu k { s.clu k with copy := none }
    let s := takeover 0 (pageCL c) (pageCL k) (s.epoch (s.role k) + min bad.length 255 * 2 ^ 8 + bit lost * 2 ^ 16) s
    issueRepairs (oweRepair (pageCL c) s)

def execMigrationCopyEnd (c : Fin 16) (zeroed : List CopyFault) (s : State) : Out := .next (copyEnd c zeroed s)

/-- What stands at a boundary on the engines of a cluster is done before its role moves; a task that is then RUNNING still has no
engine to go on with, and is CANCELLED. -/
def settleEngines (c : Nat) (s : State) : State :=
  (List.range 8).foldl (fun s i =>
    let s := releaseHeld (8 * c + i) s
    match (s.eng (8 * c + i)).task with
    | some t => freeEngine (8 * c + i) (endTask c t s)
    | none => s) s

/-- The role of cluster c moves to cluster k (R178, R374). -/
def moveRole (c k : Nat) (s : State) : State :=
  let r := s.role c
  let lost := !s.pageOn (pageCL c)
  let s := if lost then s else settleEngines c (endShifts c s)
  let s := (List.range 8).foldl (fun s i => freeEngine (8 * c + i) s) s
  let msgs := (s.clu c).msgq
  let s := copyClusterCfg c k (s.setClu c { s.clu c with msgq := [] })
  let s := { s with epochs := s.epochs.set 0 r (nextEpoch (s.epoch r)) }
  let s := takeRole k (dropRole c (s.setSt (pageCL k) stACTIVE))
  let s := copyRole c k lost s
  let s := if lost || s.st (pageCL c) == stFAULT then s else s.setSt (pageCL c) stQUARANTINE
  let s := moveRoleMap c k r s
  let s := msgs.foldl (fun s m => bounce m eEPOCH s) s
  if lost then copyEnd k [] s else s

/-- A cluster at step 5 of a boundary: it enters FAULT if it is to, and its role moves if a spare qualifies (R164, R180, R182,
R373, R375). -/
def clusterMigrate (c : Nat) (s : State) : State :=
  let p := pageCL c
  let s := if (s.clu c).faultDue then (s.setClu c { s.clu c with faultDue := false }).blockFault p else s
  let lost := s.lost.any (fun (e : Nat × Bool) => e.1 == p && !e.2)
  let move := lost || (s.clu c).moveDue
  if !move then s else
  let s := (s.setClu c { s.clu c with moveDue := false }).unlist p
  if !(s.clu c).holds then s
  else if !s.takesOver then (if lost then unspared p s else s)
  else match (List.range 16).find? (fun k => k != c && s.qualifies c k) with
    | some k => moveRole c k s
    | none =>
      if lost then
        let s := unspared p s
        if s.st p = stFAULT then oweRepair p s else s
      else
        let pr := ((List.range 4).find? (fun i => s.fld p Off.cl_PAIRSTAT (4 * i) 2 == 2)).getD 0
        s.alarm (cluOrigin c) 0x005 s.now [BitVec.ofNat 32 (pr + s.fld p Off.cl_PAIRSTAT (4 * pr + 2) 2 * 2 ^ 2 + c * 2 ^ 4)]

/-- What became of a lost converter core, PWM module or wheel unit at the boundary. -/
def settleLost (p : Nat) (s : State) : State :=
  let i := pageInst p
  let s := s.unlist p
  let done : Option (Nat × Nat) :=
    match pageKind p with
    | some .adc => if (s.adc 4).sub = some i ∧ i ≠ 4 then some (1, pageADC 4) else none
    | some .pwm => if s.modMap (s.logical i) ≠ i then some (2, pagePWM (s.modMap (s.logical i))) else none
    | _ => none
  match done with
  | some (k, t) =>
    let s := if k = 2 then s.setPwm i { s.pwm i with sub := none } else s
    oweRepair p (takeover k p t 0 s)
  | none =>
    let s := unspared p s
    if s.st p = stFAULT ∧ s.takesOver then oweRepair p s else s

/-- Step 5 of a boundary: role migrations, substitutions and releases, twin takeovers (R20). -/
def migrations (s : State) : State :=
  let s := (List.range 16).foldl (fun s c => clusterMigrate c s) s
  let s := pwmMigrate (convertersMigrate s)
  let due := s.twinDue
  let s := due.foldl (fun (s : State) (t : Nat × Nat × Int) => (twinTake t.1 t.2.1 t.2.2 s).unlist (pageWU t.1)) { s with twinDue := [] }
  s.lost.foldl (fun (s : State) (e : Nat × Bool) => settleLost e.1 s) s

end Sys2Proof.Machine
end

