-- ==== Sys2Proof/Machine/Commit.lean ====
section
/-! DEFINITION. Commits: prepare, the commit step of a boundary, COMMIT and GROUP_COMMIT (R20, R52 to R58, R91, R211, R212, R220,
R234, R242). -/

namespace Sys2Proof.Machine

/-! ### Values that a prepare looks at -/

/-- A register as it will stand after the boundary: a page of the same commit, or one that is PREPARED, brings its shadow. -/
def State.landing (s : State) (with_ : List Nat) (p o : Nat) : Word :=
  if with_.contains (basePage p) || (s.page (basePage p)).prepared then s.shadowReg p o else s.reg p o

/-- Software keeps NORMMAX below RATIOMIN, and AFTMAX below NORMMIN (R91). -/
def wheelFits (u : Nat) (s : State) : Bool :=
  let p := pageWU u
  decide (fieldOf (s.shadowReg p Off.wu_NORMCFG) 16 16 < fieldOf (s.shadowReg p Off.wu_GAPCFG) 0 16) &&
    decide (fieldOf (s.shadowReg p Off.wu_AFTCFG) 16 16 < fieldOf (s.shadowReg p Off.wu_NORMCFG) 0 16)

/-- SYNCPT and SYNCOFS do not exceed PER (R242). -/
def pwmFits (m : Nat) (s : State) : Bool :=
  let p := pagePWM m
  let per := (s.shadowReg p Off.pwm_PER).toNat
  decide ((s.shadowReg p Off.pwm_SYNCPT).toNat ≤ per) && decide ((s.shadowReg p Off.pwm_SYNCOFS).toNat ≤ per)

/-- The sample-memory area of a ring in use: a name of the ring, its core (5 for the resampler), base and size. -/
structure Area where
  name : Nat
  core : Nat
  base : Nat
  size : Nat
deriving DecidableEq, Repr

/-- The areas of the rings of a core (R211, R212). -/
def coreAreas (s : State) (w : List Nat) (n : Nat) : List Area :=
  (List.range 16).filterMap (fun r =>
    let cfg := s.landing w (pageADC n) (Off.adc_RINGCFG r)
    if fieldOf cfg 0 1 = 1 ∧ fieldOf cfg 1 1 = 0 then
      some { name := 16 * n + r, core := n, base := (s.landing w (pageADC n) (Off.adc_RINGBASE_LO r)).toNat +
               (s.landing w (pageADC n) (Off.adc_RINGBASE_HI r)).toNat * 2 ^ 32, size := 2 ^ fieldOf cfg 4 5 }
    else none)

/-- The areas of the rings of the lanes (R234). -/
def laneAreas (s : State) (w : List Nat) : List Area :=
  (List.range 16).filterMap (fun l =>
    let p := pageRSML (l / 2)
    let r := s.landing w p (Off.rsml_RING (l % 2))
    if fieldOf (s.landing w p (Off.rsml_LCFG (l % 2))) 0 1 = 1 then
      some { name := 80 + l, core := 5, base := fieldOf r 6 12 * 64, size := 2 ^ fieldOf r 24 5 }
    else none)

/-- Two areas of different rings meet; ADC4 and the core whose group it serves hold the same rings (R214). -/
def areasMeet (s : State) (a b : Area) : Bool :=
  let twins := (a.core == 4 && (s.adc 4).sub == some b.core) || (b.core == 4 && (s.adc 4).sub == some a.core)
  a.name != b.name && !twins && decide (a.base < b.base + b.size) && decide (b.base < a.base + a.size)

/-- The rings of the committed block lie in sample memory below the status words and meet no other ring (R212, R234). -/
def areasFit (core : Nat) (w : List Nat) (s : State) : Bool :=
  let all := (List.range 5).flatMap (coreAreas s w) ++ laneAreas s w
  (all.filter (fun a => a.core == core)).all (fun a =>
    decide (a.base + a.size ≤ 0x3FC00) && all.all (fun b => !areasMeet s a b))

/-- The doorbell intervals of the rings in use (R219). -/
def marksFit (n : Nat) (s : State) : Bool :=
  (List.range 16).all (fun r =>
    let cfg := s.shadowReg (pageADC n) (Off.adc_RINGCFG r)
    fieldOf cfg 0 1 == 0 || decide (fieldOf (s.shadowReg (pageADC n) (Off.adc_RINGWM r)) 0 24 ≤ 2 ^ fieldOf cfg 4 5 / 2))

/-- The sequence entries in use name enabled rings, and averaging ones no compact ring (R211, R220). -/
def entriesFit (n : Nat) (s : State) : Bool :=
  (List.range 64).all (fun e =>
    let a := s.shadowReg (pageADCS n) (Off.adcs_SEQA e)
    let b := s.shadowReg (pageADCS n) (Off.adcs_SEQB e)
    let cfg := s.shadowReg (pageADC n) (Off.adc_RINGCFG (fieldOf b 24 4))
    fieldOf a 0 16 == 0 || fieldOf b 28 1 == 1 ||
      (fieldOf cfg 0 1 == 1 && (fieldOf a 26 4 == 0 || fieldOf cfg 2 1 == 1)))

/-- The shadow values of a block agree with one another and with the rest of its pages (R54). -/
def consistent (p : Nat) (w : List Nat) (s : State) : Bool :=
  let i := pageInst p
  match pageKind p with
  | some .wu => wheelFits i s
  | some .pwm => pwmFits i s
  | some .adc => areasFit i w s && marksFit i s && entriesFit i s
  | some .rsmp => areasFit 5 w s
  | _ => true

/-! ### Prepare (R54) -/

/-- COMMIT is permitted in the state of a block (R40, R114). -/
def State.mayCommit (s : State) (p : Nat) : Bool :=
  s.st p == stIDLE || s.st p == stCONFIGURED || s.st p == stACTIVE || s.st p == stSPARE ||
    (pageKind p == some .adc && s.st p == stCALIBRATING) || (pageKind p == some .wu && s.st p == stSYNTH)

/-- The code of the prepare of a page: `own` while the page runs the COMMIT that is judged. -/
def prepareCode (p : Nat) (w : List Nat) (own : Bool) (s : State) : Nat :=
  firstErr [ (ePOWER, !s.pageOn p),
    (eSEALED, (blockPages p).any (fun q => s.locked q && s.shadowed q)),
    (eSTATE, !s.mayCommit p),
    (eVALUE, !consistent p w s),
    (eBUSY, s.busy p && !own), (eBUSY, (s.page p).prepared), (eBUSY, s.mode.arm == 1) ]

def State.setPrepared (s : State) (p : Nat) (b : Bool) : State := s.setPage p { s.page p with prepared := b }

/-! ### The commit step -/

/-- The value of a field changes with the commit: the registers were `old`. -/
def changed (old s : State) (p o : Nat) : Bool := old.reg p o != s.reg p o

/-- What a commit does in a converter core (R201, R204, R206, R209, R212): RNG, AVGL and SHIFT close the blocks of the entry. -/
def committedAdc (old : State) (n : Nat) (s : State) : State :=
  let p := pageADC n
  let s := (List.range 16).foldl (fun s r =>
    if (List.range 4).any (fun k => changed old s p (Off.adc_RINGCFG r + 4 * k)) then emptyRing n r s else s) s
  let s := if (List.range 18).any (fun k => old.shadow.any (fun (e : Nat × Word) => e.1 == adr p (0x820 + 4 * k)))
    then s.setFld p Off.adc_CORESTAT 9 1 1 else s
  let e := (s.adc n).entry
  let a := changed old s (pageADCS n) (Off.adcs_SEQA e)
  let b := changed old s (pageADCS n) (Off.adcs_SEQB e)
  let blocks := old.seqA n e 24 6 != s.seqA n e 24 6 || old.seqB n e 16 4 != s.seqB n e 16 4
  if a || b || changed old s p Off.adc_ENMASK then seqChanged n blocks s else s

/-- What a commit does in the lanes (R224, R233, R234). -/
def committedLane (old : State) (l : Nat) (s : State) : State :=
  let p := pageRSML (l / 2)
  let h := l % 2
  let c (o : Nat) : Bool := changed old s p o
  let f (lo len : Nat) : Bool := old.fld p (Off.rsml_LCFG h) lo len != s.fld p (Off.rsml_LCFG h) lo len
  laneChanged l (f 0 1 || f 8 6 || f 16 3 || f 1 1 || c (Off.rsml_STEP h) || c (Off.rsml_WSTART h) || c (Off.rsml_WEND h))
    (if f 0 1 || f 8 6 then some (old.lcfg l 8 6, old.lcfg l 2 1 == 1) else none) (c (Off.rsml_RING h)) s

/-- The shadows of a block become active; IDLE becomes CONFIGURED (R20, R40, R52, R57). -/
def commitBlock (p : Nat) (s : State) : State :=
  let old := s
  let mine := s.shadow.filter (fun (e : Nat × Word) => basePage (e.1 / 4096) == p)
  let s := mine.foldl (fun s e => s.setReg (e.1 / 4096) (e.1 % 4096) e.2) s
  let s := (s.dropShadows p).setPrepared p false
  let s := match pageKind p with
    | some .adc => committedAdc old (pageInst p) s
    | some .rsmp => (List.range 16).foldl (fun s l => committedLane old l s) s
    | _ => s
  if (s.page p).st = stIDLE then s.setSt p stCONFIGURED else s

/-- The check of a prepared page at the boundary (R54). -/
def commitCode (p : Nat) (s : State) : Nat :=
  if !s.pageOn p then ePOWER else if s.st p = stFAULT ∨ s.st p = stQUARANTINE then eSTATE else eOK

/-! ### Group commits -/

/-- The pages that a mask names (R49). -/
def maskPages (a : Args) : List Nat :=
  let ws := [a.w2, a.w3, a.w4, a.w5]
  (List.range 128).filter (fun i => bitOf (ws.getD (i / 32) 0).toNat (i % 32))

/-- A group commit that cannot be started (R53). -/
def groupIllegal (a : Args) : Bool :=
  let ps := maskPages a
  ps.isEmpty || decide (64 < ps.length) || ps.any (fun p => (pageKind p).isNone || isSecondary p || p == pageCMDQ) ||
    a.w6.toNat % 128 != 0

/-- The failure mask (R57). -/
def failMask (fails : List (Nat × Nat)) : List Word :=
  (List.range 4).map (fun w => BitVec.ofNat 32
    (((List.range 32).filter (fun i => fails.any (fun (f : Nat × Nat) => f.1 == 32 * w + i))).map (fun i => 2 ^ i)).sum)

/-- The result array (R57). -/
def resultArray (g : Group) : List Word :=
  let byte (p : Nat) : Nat :=
    if !g.pages.contains p then 0xFF
    else match g.fails.find? (fun (f : Nat × Nat) => f.1 == p) with | some f => f.2 | none => eOK
  (List.range 32).map (fun w => BitVec.ofNat 32 (((List.range 4).map (fun i => byte (4 * w + i) * 2 ^ (8 * i))).sum))

/-- A group commit leaves the device with its outcome (R57). -/
def endGroup (g : Group) (s : State) : State :=
  let s := { s with groups := s.groups.erase g }
  let code := if g.fails.isEmpty then eOK else ePARTIAL
  if g.single then
    s.finish (g.pages.headD 0) 5 { code := match g.fails with | f :: _ => f.2 | [] => eOK }
  else
    let s := if g.addr = 0 then s else s.oweHost (.words g.addr (resultArray g))
    let s := s.intSet pageCMDQ 1
    if g.slot then s.record 0x40 g.req g.part { code := code, res := failMask g.fails } else s

/-- The pages of a group that have not failed. -/
def Group.live (g : Group) : List Nat := g.pages.filter (fun p => !g.fails.any (fun (f : Nat × Nat) => f.1 == p))

/-- The pages of a group are no longer PREPARED (R57). -/
def unprepare (g : Group) (s : State) : State := g.live.foldl (fun s p => s.setPrepared p false) s

/-- A group commit starts its prepare (R53, R54). -/
def startGroup (q : Req) (part : Bool) (s : State) : State :=
  let ps := maskPages q.args
  let s := s.setPage pageCMDQ { s.page pageCMDQ with lastCmd := 0x40 }
  let r := ps.foldl (fun (r : State × List (Nat × Nat)) p =>
    let c := prepareCode p ps false r.1
    if c = eOK then (r.1.setPrepared p true, r.2) else (r.1, r.2 ++ [(p, c)])) (s, [])
  let a := q.args.w6.toNat + q.args.w7.toNat * 2 ^ 32
  let g : Group := ⟨q, false, part, ps, a, false, r.2, true⟩
  { r.1 with groups := r.1.groups ++ [g] }

/-- GROUP_COMMIT of the command ring: its acceptance or its rejection (R38, R50, R53). -/
def groupCommit (q : Req) (part : Bool) (s : State) : State :=
  let e := firstErr [ (eSTATE, s.bootBars q), (eVALUE, groupIllegal q.args), (eBUSY, !s.slotFree || decide (512 ≤ s.outst)) ]
  if e = eOK then startGroup q part s
  else
    let s := s.markReject pageCMDQ 0x008 e 0x40 q.tag.toNat
    if s.slotFree then s.record 0x40 q part { code := e } else s

def execGroupCommit (tag : BitVec 16) (part : Bool) (args : Args) (s : State) : Out :=
  .next (groupCommit { src := .ring, page := 4, tag := tag, args := args } part s)

/-- Prepare ends for the oldest group that is still in it (R54 to R56). -/
def groupPrepared (s : State) : State :=
  match s.groups.find? (fun g => !g.ready) with
  | none => s
  | some g =>
    if (!g.part && !g.fails.isEmpty) || g.live.isEmpty then endGroup g (unprepare g s)
    else { s with groups := s.groups.map (fun h => if h = g then { g with ready := true } else h) }

def execGroupCommitPrepared (s : State) : Out := .next (groupPrepared s)

/-- A group at its boundary (R54 to R57). -/
def commitGroup (g : Group) (s : State) : State :=
  let found := (g.live.map (fun p => (p, commitCode p s))).filter (fun (f : Nat × Nat) => f.2 != eOK)
  let s := found.foldl (fun (s : State) (f : Nat × Nat) => s.setPrepared f.1 false) s
  let h := { g with fails := g.fails ++ found }
  let s := { s with groups := s.groups.map (fun x => if x = g then h else x) }
  let s := if h.fails.isEmpty || (g.part && !g.single) then h.live.foldl (fun s p => commitBlock p s) s else unprepare h s
  endGroup h s

/-- The commits of a boundary (R20); each reloads the latches of the safe levels (R252). -/
def commitsAtBoundary (s : State) : State :=
  let l := s.groups.filter (·.ready)
  let s := l.foldl (fun s g => commitGroup g s) s
  if l.isEmpty then s else s.latchSafe

/-! ### COMMIT of one page (R53) -/

def commitCmd : Cmd where
  errs q s :=
    let p := q.page.toNat
    [(eSTATE, !s.mayCommit p), (eBUSY, p == pagePWR && s.busy p)]
  run q s :=
    let p := q.page.toNat
    let c := prepareCode p [p] true s
    if c = eOK then
      let g : Group := ⟨q, true, false, [p], 0, true, [], false⟩
      { s.setPrepared p true with groups := s.groups ++ [g] }
    else s.finish p 5 { code := c }


/-- A page withdraws from its commit (R42, R58): it fails with E_STATE. -/
def withdraw (p : Nat) (s : State) : State :=
  let s := { s with groups := (s.groups.filter (fun (g : Group) => !(g.single && g.pages == [p]))).map (fun (g : Group) =>
    if g.live.contains p then { g with fails := g.fails ++ [(p, eSTATE)] } else g) }
  s.setPrepared p false

end Sys2Proof.Machine
end

