-- ==== Sys2Proof/Machine/Arm.lean ====
section
/-! DEFINITION. The checks of ARM and the configuration report (R36, R86, R92, R100, R107, R111, R166, R169, R247, R250, R270, R271,
R297, R317, R331, R333, R355, R356). -/

namespace Sys2Proof.Machine

/-- A failure that the checks find: page, reason, detail (R333). -/
structure CfgFail where
  page : Nat
  reason : Nat
  detail : Nat
deriving DecidableEq, Repr

/-- The block is ACTIVE from BOOT (R33). -/
def bootActive (p : Nat) : Bool := (pageReset p).st == stACTIVE

/-- The pages whose domain is ON. -/
def State.livePages (s : State) : List Nat := (basePages.flatMap blockPages).filter (fun p => s.pageOn p)

/-! ### 1 and 6: CRC and seal -/

def crcFails (s : State) : List CfgFail :=
  (s.livePages.filter (fun p => s.regionCrc p != s.reg p 0x014)).map (fun p => ⟨p, 1, 0x014⟩)

def sealFails (s : State) : List CfgFail :=
  if s.level ≠ lvSEALED then [] else
  match s.rind.pkg with
  | none => []
  | some k => (k.pages.filter (fun p => !s.sealHolds k p)).map (fun p => ⟨p, 7, 0x014⟩)

/-! ### 2: references -/

/-- A naming: the page that names, and the page that it names. -/
abbrev Naming := Nat × Nat

/-- The page of the module that serves a logical PWM module (R254). -/
def State.pwmServing (s : State) (l : Nat) : Nat := pagePWM (s.modMap l)

def namedByAdc (s : State) (n : Nat) : List Naming :=
  (List.range 4).filterMap (fun i =>
    let w := s.reg (pageADC n) (Off.adc_TRGCFG i)
    let x := fieldOf w 16 8
    match fieldOf w 0 2 with
    | 0 => none
    | 3 => some (pageADC n, s.pwmServing (x / 8))
    | _ => some (pageADC n, chPage x))

def namedByPwm (s : State) (m : Nat) : List Naming :=
  let p := pagePWM m
  (if s.flag p Off.pwm_BLKCFG 8 then [(p, chPage (s.fld p Off.pwm_BLKCFG 0 8))] else []) ++
    (match s.fld p Off.pwm_MCFG 1 2 with
      | 1 => [(p, s.pwmServing (m - 1))]
      | 2 => [(p, chPage (s.fld p Off.pwm_MCFG 8 8))]
      | _ => [])

def namedByLanes (s : State) (k : Nat) : List Naming :=
  (List.range 2).filterMap (fun h =>
    let w := s.reg (pageRSML k) (Off.rsml_LCFG h)
    if fieldOf w 0 1 = 1 then some (pageRSML k, pageWU (s.serve (fieldOf w 16 3)).1) else none)

def namedByCluster (s : State) (c : Nat) : List Naming :=
  (List.range 12).filterMap (fun i =>
    let e := s.evsel c i
    match e.1 with
    | 1 => some (pageCL c, chPage e.2) | 2 => some (pageCL c, chPage e.2) | 3 => some (pageCL c, chPage e.2)
    | 4 => some (pageCL c, pageRSMP) | 6 => some (pageCL c, pageTB) | _ => none)

def namedByIdx (s : State) : List Naming :=
  (List.range 8).filterMap (fun u => if s.flag (pageIDX 0) (Off.idx_IMP u) 0 then some (pageIDX 0, pageWU u) else none)

def namedByPins (s : State) : List Naming :=
  (List.range 160).filterMap (fun n => if s.pinSrc n = 1 then some (pagePINMUX, s.pwmServing (s.pinCh n / 8)) else none)

def namedByRind (s : State) : List Naming :=
  if s.fld pageRIND Off.rind_REVCEIL 0 16 = 0 then []
  else [(pageRIND, pageWU (s.serve (s.fld pageRIND Off.rind_REVCEIL 16 3)).1)]

/-- What enabled fields of the pages that are ON name. -/
def namings (s : State) : List Naming :=
  ((List.range 5).flatMap (namedByAdc s) ++ (List.range 10).flatMap (namedByPwm s) ++ (List.range 8).flatMap (namedByLanes s) ++
    (List.range 16).flatMap (namedByCluster s) ++ namedByIdx s ++ namedByPins s ++ namedByRind s).filter (fun n => s.pageOn n.1)

/-- Why a named page is not in a fit state: none if it is. -/
def unfit (s : State) (p : Nat) : Option Nat :=
  if !s.pageOn p ∨ s.st p = stFAULT ∨ s.st p = stQUARANTINE then some 3
  else if (s.page (basePage p)).enpend ∨ s.st p = stSPARE ∨ bootActive (basePage p) then none else some 2

def namingFails (s : State) : List CfgFail :=
  (namings s).filterMap (fun n => (unfit s n.2).map (fun r => ⟨n.2, r, n.1⟩))

/-! ### 3: pin claims -/

/-- A claim: the page of the claimant and the TIO pin. -/
abbrev Claim := Nat × Nat

/-- Input claims of a wheel unit: its secondary inputs on TIO pins and Clover's pins (R85, R86). -/
def inputClaims (s : State) (u : Nat) : List Claim :=
  let p := pageWU u
  let q := s.reg p Off.wu_QCFG
  let sec (o : Nat) : List Claim := if s.fld p o 0 2 = 1 then [(p, s.fld p o 8 8)] else []
  if !s.pageOn p then [] else
  sec Off.wu_SECACFG ++ sec Off.wu_SECBCFG ++
    (if fieldOf q 0 1 = 1 then [(p, fieldOf q 8 8), (p, fieldOf q 16 8)] else []) ++
    (if fieldOf q 0 1 = 1 ∧ fieldOf q 2 1 = 1 then [(p, fieldOf q 24 8)] else [])

/-- Pins that the SYNCFG of a wheel unit names with that cam enabled (R107, R250). The crank has no enable, and claims nothing before
SYN_START. -/
def synthClaims (s : State) (u : Nat) : List Claim :=
  let p := pageWU u
  let w := s.reg p Off.wu_SYNCFG
  if !s.pageOn p then [] else
  (if fieldOf w 24 1 = 1 then [(p, fieldOf w 8 8)] else []) ++ (if fieldOf w 25 1 = 1 then [(p, fieldOf w 16 8)] else [])

def channelClaims (s : State) : List Claim :=
  (List.range 160).filterMap (fun n =>
    if s.pageOn (chPage n) && s.chcfg n 0 1 == 1 then some (chPage n, n) else none)

def pwmClaims (s : State) : List Claim :=
  (List.range 160).filterMap (fun n => if s.pinSrc n = 1 then some (pagePINMUX, n) else none)

/-- A claimant drives its pin: a channel or a PWM channel that PINSEL selects, a unit whose synthesis goes to pins (R107, R250). -/
def State.claimDrives (s : State) (c : Claim) : Bool :=
  match pageKind c.1 with
  | some .pchg => s.pinSrc c.2 == 0
  | some .wu => !s.flag c.1 Off.wu_SYNCFG 26
  | _ => true

/-- A pin claimed more than once is entered on the page of each claimant that drives it, or of the claimants that hold an input claim
where none does (R331, R333). -/
def claimFails (s : State) : List CfgFail :=
  let ins := (List.range 8).flatMap (inputClaims s)
  let out := channelClaims s ++ pwmClaims s ++ (List.range 8).flatMap (synthClaims s)
  let bad (n : Nat) : Bool := decide (1 < out.countP (fun d => d.2 == n)) || (out.any (fun d => d.2 == n) && ins.any (fun d => d.2 == n))
  let drv := out.filter s.claimDrives
  (drv.filter (fun c => bad c.2) ++ ins.filter (fun c => bad c.2 && !drv.any (fun d => d.2 == c.2))).map (fun c => ⟨c.1, 4, c.2⟩)

/-! ### 4: signatures -/

def bankFails (s : State) : List CfgFail :=
  if s.level = lvOPEN then [] else
  (List.range 16).flatMap (fun c =>
    if !(s.page (pageCL c)).enpend then [] else
    ([false, true].filter (fun b => (b == s.bankOf c || s.split c) && !(s.bankSt c b).valid)).map (fun b => ⟨pageCL c, 5, bit b⟩))

/-! ### 5: block rules -/

/-- How units name WHL pins: the pin, the unit and the register (R85, R86). -/
def whlNamings (s : State) : List (Nat × Nat × Nat) :=
  (List.range 8).flatMap (fun u =>
    let p := pageWU u
    if !s.pageOn p then [] else
    (if s.flag p Off.wu_WCFG 0 then [(s.fld p Off.wu_WCFG 20 3, u, Off.wu_WCFG)] else []) ++
      (if s.fld p Off.wu_SECACFG 0 2 = 2 then [(s.fld p Off.wu_SECACFG 8 8, u, Off.wu_SECACFG)] else []) ++
      (if s.fld p Off.wu_SECBCFG 0 2 = 2 then [(s.fld p Off.wu_SECBCFG 8 8, u, Off.wu_SECBCFG)] else []))

def whlFails (s : State) : List CfgFail :=
  let ns := whlNamings s
  let twice := ns.filter (fun a => ns.any (fun b => b.1 == a.1 && b.2.1 != a.2.1))
  let bad := ns.filter (fun a => a.2.2 != Off.wu_WCFG && s.pageOn (pageWU a.1) && s.flag (pageWU a.1) Off.wu_WCFG 0)
  (twice ++ bad).map (fun a => ⟨pageWU a.2.1, 6, a.2.2⟩) ++ bad.map (fun a => ⟨pageWU a.1, 6, Off.wu_WCFG⟩)

/-- The entries of a cam table in use that do not lie above the entry before them (R92). -/
def camFails (s : State) (u : Nat) (cfg : Nat) (tab : Nat → Nat) : List CfgFail :=
  if s.fld (pageWU u) cfg 0 2 = 0 then [] else
  ((List.range (s.fld (pageWU u) cfg 16 6)).filter (fun i => i != 0 &&
    decide (s.fld (pageWUX u) (tab i) 0 24 ≤ s.fld (pageWUX u) (tab (i - 1)) 0 24))).map (fun i => ⟨pageWUX u, 6, tab i⟩)

def wheelFails (s : State) (u : Nat) : List CfgFail :=
  let p := pageWU u
  if !s.pageOn p then [] else
  camFails s u Off.wu_SECACFG Off.wux_CAMA ++ camFails s u Off.wu_SECBCFG Off.wux_CAMB ++
    (if s.flag p Off.wu_DIRCFG 0 && !s.flag p Off.wu_WCFG 1 then [⟨p, 6, Off.wu_DIRCFG⟩] else []) ++
    (if s.fld p Off.wu_SYNCCFG 10 2 == 0 && !s.flag p Off.wu_WCFG 3 then [⟨p, 6, Off.wu_SYNCCFG⟩] else [])

def clusterFails (s : State) (c : Nat) : List CfgFail :=
  let p := pageCL c
  if !s.pageOn p then [] else
  (if !s.isReserve c && (List.range 16).any (fun k => k != c && s.pageOn (pageCL k) && !s.isReserve k && s.role k == s.role c)
    then [⟨p, 6, Off.cl_ROLECFG⟩] else []) ++
  ((List.range 256).filter (fun t =>
    let w := s.reg (pageCLT c) (Off.clt_TASKCFG t)
    fieldOf w 15 1 == 1 && s.trails (8 * c + fieldOf w 12 3))).map (fun t => ⟨pageCLT c, 6, Off.clt_TASKCFG t⟩)

def pwmFails (s : State) (m : Nat) : List CfgFail :=
  let p := pagePWM m
  if s.pageOn p && s.flag p Off.pwm_BLKCFG 8 && !s.flag (chPage (s.fld p Off.pwm_BLKCFG 0 8))
      (Off.pchg_CNTCFG (s.fld p Off.pwm_BLKCFG 0 8 % 16)) 0
  then [⟨p, 6, Off.pwm_BLKCFG⟩] else []

/-- Sources whose route names a target (R270). -/
def State.routedTo (s : State) (t : Nat) : Nat :=
  ((List.range 8).map (fun q => ((List.range 64).map (fun w =>
    (List.range 8).countP (fun i => s.flag (0x010 + q) (Off.iu_ROUTE w) (4 * i + t)))).sum)).sum

def targetFails (s : State) : List CfgFail :=
  if !s.pageOn pageIU then [] else
  let f (t lo len : Nat) : Nat := s.fld pageIU (Off.iu_HTCFG t) lo len
  let msi (t : Nat) : Bool := f t 0 1 == 1 && f t 3 2 != 0
  (List.range 4).flatMap (fun t =>
    (if f t 1 1 == 1 && decide (256 < s.routedTo t) then [⟨pageIU, 6, Off.iu_HTCFG t⟩] else []) ++
    (if msi t && (List.range 4).any (fun k => k != t && msi k && f k 8 3 == f t 8 3) then [⟨pageIU, 6, Off.iu_HTCFG t⟩] else []))

def ethFails (s : State) (n : Nat) : List CfgFail :=
  let p := pageETH n
  let zero (l : List Nat) : Bool := l.all (fun o => s.reg p o == 0)
  if !(s.pageOn p && ((s.page p).enpend || s.active p) && s.flag p Off.eth_MACCFG 0) then [] else
  ([ (Off.eth_SRCMAC_LO, zero [Off.eth_SRCMAC_LO, Off.eth_SRCMAC_HI]), (Off.eth_DSTMAC_LO, zero [Off.eth_DSTMAC_LO, Off.eth_DSTMAC_HI]),
     (Off.eth_SRCIP, zero [Off.eth_SRCIP]), (Off.eth_DSTIP, zero [Off.eth_DSTIP]) ].filter (·.2)).map (fun e => ⟨p, 6, e.1⟩)

def importFails (s : State) (u : Nat) : List CfgFail :=
  let p := pageIDX 0
  let dev := s.fld p (Off.idx_IMP u) 1 2
  if !(s.pageOn p && s.flag p (Off.idx_IMP u) 0) then [] else
  (if s.flag (pageWU u) Off.wu_WCFG 0 then [⟨pageWU u, 6, Off.wu_WCFG⟩] else []) ++
    (if s.fld (pageWU u) Off.wu_SECACFG 0 2 ≠ 0 then [⟨pageWU u, 6, Off.wu_SECACFG⟩] else []) ++
    (if s.fld (pageWU u) Off.wu_SECBCFG 0 2 ≠ 0 then [⟨pageWU u, 6, Off.wu_SECBCFG⟩] else []) ++
    (if dev = s.fld p Off.idx_CHAIN 0 2 ∨ s.fld p Off.idx_CHAIN 2 2 < dev then [⟨p, 6, Off.idx_IMP u⟩] else [])

def ruleFails (s : State) : List CfgFail :=
  whlFails s ++ (List.range 8).flatMap (wheelFails s) ++ (List.range 16).flatMap (clusterFails s) ++
    (List.range 10).flatMap (pwmFails s) ++ targetFails s ++ (List.range 2).flatMap (ethFails s) ++ (List.range 8).flatMap (importFails s)

/-! ### The report (R333) -/

def CfgFail.rank (f : CfgFail) : Nat := (f.page * 256 + f.reason) * 4096 + f.detail

/-- Every failure once, in the order of the report. -/
def armFails (s : State) : List CfgFail :=
  sortBy (fun a b => decide (a.rank < b.rank))
    (crcFails s ++ namingFails s ++ claimFails s ++ bankFails s ++ ruleFails s ++ sealFails s).eraseDups

def CfgFail.word (f : CfgFail) : Word := BitVec.ofNat 32 (f.page + f.reason * 2 ^ 12 + f.detail * 2 ^ 20)

/-- The report is cleared. -/
def clearReport (s : State) : State :=
  (List.range 64).foldl (fun s i => s.setReg pageSYS (Off.sys_CFGREP i) 0) (s.setReg pageSYS Off.sys_CFGREPCNT 0)

/-- The report of a set of failures. -/
def putReport (l : List CfgFail) (s : State) : State :=
  let s := (l.take 64).zipIdx.foldl (fun s e => s.setReg pageSYS (Off.sys_CFGREP e.2) e.1.word) s
  s.setReg pageSYS Off.sys_CFGREPCNT (BitVec.ofNat 32 (min l.length 64 + bit (decide (64 < l.length)) * 2 ^ 7))

/-- The checks of an ARM end: it fails with E_CONFIG, or the target mode begins at the next boundary (R332, R333). -/
def armChecksEnd (s : State) : State :=
  if s.mode.arm ≠ 1 then s else
  let l := armFails s
  if l.isEmpty then { s with mode := { s.mode with arm := 2 } }
  else
    let s := putReport l { s with mode := { s.mode with arm := 0 } }
    let s := (s.bell 0x004).log pageSYS (originOf pageSYS) 0x010 s.now [s.reg pageSYS Off.sys_CFGREPCNT]
    (s.intSet pageSYS 17).finish pageSYS 0x40 { code := eCONFIG }

def execArmChecksEnd (s : State) : Out := .next (armChecksEnd s)

end Sys2Proof.Machine
end

