-- ==== Sys2Proof/Machine/Common.lean ====
section
/-! DEFINITION. The common commands (R38 to R40, R42, R48, R58, R109, R114, R208, R209, R254, R341, R355). -/

namespace Sys2Proof.Machine

/-! ### NOP -/

/-- Change what the command accepted last keeps. -/
def State.keepLast (s : State) (d : List Nat) : State :=
  { s with running := match s.running.reverse with
    | r :: t => (({ r with data := d } : Running) :: t).reverse
    | [] => [] }

/-- The NOPs whose earlier writes have all committed or failed end. -/
def settleNops (s : State) : State :=
  (s.running.filter (fun r => r.code == 1 && !r.data.any (fun n => s.host.posted.any (fun e => e.seq == n)))).foldl
    (fun s r => s.endRun r {}) s

/-- NOP of the command ring keeps the numbers of the posted writes to its page that have not committed; through a port the earlier
writes to the page have committed before it (R45). -/
def nop : Cmd where
  errs _ _ := []
  run q s :=
    let l := s.host.posted.filter (fun e => q.src == .ring && e.addr / 4096 == q.page.toNat)
    settleNops (s.keepLast (l.map (·.seq)))

/-! ### RESET_BLOCK, ENABLE, DISABLE -/

def resetBlock : Cmd where
  errs q s :=
    let p := q.page.toNat
    [ (eSTATE, bootActive p || s.active p || (pageKind p == some .wu && s.st p == stSYNTH) ||
        (pageKind p == some .pwm && (s.pwm (pageInst p)).sub.isSome)),
      (eBUSY, p == pageCMDQ && s.outst != 0), (eSEALED, (blockPages p).any s.locked) ]
  run q s := (resetBlockNow q.page.toNat s).finish q.page.toNat 2 {}

/-- The modes in which ENABLE is legal: for CMDQ HALT and SAFE too (R39). -/
def State.mayEnable (s : State) (p : Nat) : Bool :=
  s.md == mCONFIGURE || s.serving || (p == pageCMDQ && (s.md == mHALT || s.md == mSAFE))

def State.setEnpend (s : State) (p : Nat) (b : Bool) : State := s.setPage p { s.page p with enpend := b }

def enable : Cmd where
  errs q s :=
    let p := q.page.toNat
    [ (eSTATE, s.st p != stCONFIGURED || !s.mayEnable p),
      (eSTATE, pageKind p == some .adc && !(s.refRdy (pageInst p) && s.calValid (pageInst p))) ]
  run q s :=
    let p := q.page.toNat
    if s.md = mCONFIGURE ∧ p ≠ pageCMDQ then (s.setEnpend p true).finish p 3 {} else s

def disable : Cmd where
  errs q s :=
    let p := q.page.toNat
    [ (eSTATE, bootActive p || !(s.st p == stACTIVE || (s.st p == stCONFIGURED && s.md == mCONFIGURE))),
      (eSTATE, pageKind p == some .pwm && (s.pwm (pageInst p)).sub.isSome) ]
  run q s :=
    let p := q.page.toNat
    if s.st p = stCONFIGURED then (s.setEnpend p false).finish p 4 {}
    else if pageKind p = some .wu then searchAtBoundary (pageInst p) 0x10 s else s

/-- The second part of a boundary's commit step: what is enabled and disabled (R39, R40). -/
def enablesAtBoundary (s : State) : State :=
  (s.running.filter (fun r => r.code == 3 || r.code == 4)).foldl (fun s r =>
    let p := r.req.page.toNat
    if r.code = 3 then
      if s.st p = stCONFIGURED then (enterService p s).endRun r {} else s.endRun r { code := eSTATE }
    else if s.st p = stACTIVE then
      (retire p stCONFIGURED s).endRun r {}
    else s.endRun r { code := eSTATE }) s

/-! ### ABORT -/

/-- A running command is cancelled (R42): what it has begun is undone as its block's chapter says. -/
def cancelRun (r : Running) (s : State) : State :=
  let p := r.req.page.toNat
  let i := pageInst p
  match pageKind p, r.code with
  | some .adc, 0x40 => abortCalibrate p r s
  | some .adc, 0x41 => abortUrgent i r s
  | some .press, 0x40 => abortLoad r s
  | some .press, 0x41 => abortSwitch s
  | some .sys, 0x40 => { s with mode := { s.mode with arm := 0 } }.endRun r { code := eSTATE, aborted := true }
  | some .sys, 0x45 => { s with iu := { s.iu with armed := false } }.endRun r { code := eSTATE, aborted := true }
  | some .rind, _ =>
    { s with rind := { s.rind with level := none, sealing := none } }.endRun r { code := eSTATE, aborted := true }
  | _, _ => s.endRun r { code := eSTATE, aborted := true }

/-- The commands that ABORT cancels: on PWR those of the host that have not reached their first boundary (R341). -/
def State.abortable (s : State) (p : Nat) : List Running :=
  s.running.filter (fun r => r.req.page.toNat == p && r.code != 6 &&
    (p != pagePWR || isCommon r.code || (!ownReq r.req && r.data.getD 1 0 == 0)))

def abort : Cmd where
  errs _ _ := []
  run q s :=
    let p := q.page.toNat
    let s := withdraw p s
    let s := (s.abortable p).foldl (fun s r => cancelRun r s) s
    let s := if pageKind p = some .wu ∧ s.st p = stSYNTH then synEnd (pageInst p) s else s
    (s.dropShadows p).finish p 6 {}

/-! ### SELFTEST -/

def selftest : Cmd where
  errs q s :=
    let p := q.page.toNat
    [(eSTATE, s.active p || (pageKind p == some .wu && s.st p == stSYNTH))]
  run _ s := s

/-- The test of a block ends: a failure puts the block into FAULT, or leaves it in FAULT or QUARANTINE (R38, R40). -/
def selftestDone (p : Nat) (pass : Bool) (s : State) : State :=
  if !s.runs p 7 then s else
  let s := if pass ∨ s.st p = stFAULT ∨ s.st p = stQUARANTINE then s else failBlock p s
  let s := if pass ∧ pageKind p = some .cl then s.setClu (pageInst p) { s.clu (pageInst p) with testFail := false } else s
  s.finish p 7 { res := [BitVec.ofNat 32 (bit pass)] }

def execSelftestDone (page : BitVec 12) (pass : Bool) (s : State) : Out := .next (selftestDone page.toNat pass s)

end Sys2Proof.Machine
end

