-- ==== Sys2Proof/Machine/Legal.lean ====
section
/-! DEFINITION. Which values a register takes, and which writes its block's rules refuse (R15, R16, R43, R48, R76, R104, R105, R106,
R111 to R113, R131, R132, R173, R189, R193, R208, R216, R220, R222, R237, R240, R249, R256, R260, R264, R267, R278, R296, R297, R305,
R313, R319, R345, R348, R360, R367, R369). -/

namespace Sys2Proof.Machine

/-- An offset is one of a repeated register. -/
def hits (o base stride n : Nat) : Bool :=
  decide (base ≤ o) && (o - base) % stride == 0 && decide ((o - base) / stride < n)

/-- The number of a repeated register. -/
def hitIdx (o base stride : Nat) : Nat := (o - base) / stride

/-- A value lies in a closed range. -/
def within (lo hi v : Nat) : Bool := decide (lo ≤ v) && decide (v ≤ hi)

/-! ### Legal values, by kind of page -/

/-- Legal values of SYS, PWR, RIND and DBG registers (R345, R348, R367, R369). -/
def legalPwr (o : Nat) (w : Word) : Bool :=
  if o = Off.pwr_DOMSEL then decide (fieldOf w 0 7 ≤ 91)
  else if o = Off.pwr_TEMPCFG then within 100 165 (fieldOf w 0 8) else true

def legalRind (o : Nat) (w : Word) : Bool :=
  if o = Off.rind_REVCEIL then fieldOf w 0 16 == 0 || within 50 30000 (fieldOf w 0 16)
  else if o = Off.rind_PKGLEN then within 128 131072 (fieldOf w 0 18) else true

def legalDbg (o : Nat) (w : Word) : Bool := !(o == Off.dbg_DBGCFG && fieldOf w 0 2 == 3)

/-- Ring sizes and indices (R48). -/
def legalCmdq (o : Nat) (w : Word) (s : State) : Bool :=
  if o = Off.cmdq_CRSIZE ∨ o = Off.cmdq_CPSIZE then within 6 12 (fieldOf w 0 4)
  else if o = Off.cmdq_CRTAIL then decide (w.toNat < s.crSize)
  else if o = Off.cmdq_CPTAIL then decide (w.toNat < s.cpSize) else true

/-- The tick grid and the slow clock (R15, R16, R60). -/
def legalTb (o : Nat) (w : Word) (s : State) : Bool :=
  if o = Off.tb_TICKCFG then
    within 1000 40000 w.toNat && w.toNat % 8 == 0 && decide ((s.reg pageTB Off.tb_TICKPHASE).toNat < 2 * w.toNat)
  else if o = Off.tb_TICKPHASE then decide (w.toNat < 2 * s.fld pageTB Off.tb_TICKCFG 0 16)
  else if o = Off.tb_SLOWCFG then within 1 1000 (fieldOf w 16 16) else true

/-- The interrupt unit (R278). -/
def legalIu (o : Nat) (w : Word) : Bool :=
  if hits o (Off.iu_HTCFG 0) 32 4 then fieldOf w 3 2 != 3
  else if hits o (Off.iu_QSIZE 0) 32 4 then within 6 12 (fieldOf w 0 4) else true

/-- A MIN and MAX pair of 16 bits each (R111). -/
def minMax (w : Word) : Bool := decide (fieldOf w 0 16 < fieldOf w 16 16)

/-- A secondary input's configuration (R111): `pri` is PRISEL. -/
def legalSec (w : Word) (pri : Nat) : Bool :=
  let src := fieldOf w 0 2
  let pin := fieldOf w 8 8
  src != 3 && decide (pin < 160) && (src != 2 || (decide (pin < 8) && pin != pri)) &&
    (src == 0 || within 1 32 (fieldOf w 16 6))

/-- Wheel units (R105, R106, R111). -/
def legalWu (u o : Nat) (w : Word) (s : State) : Bool :=
  if o = Off.wu_WCFG then within 12 240 (fieldOf w 8 8) && within 1 2 (fieldOf w 16 2)
  else if o = Off.wu_VRCFG then within 1 7 (fieldOf w 0 3) && within 5 250 (fieldOf w 8 8)
  else if o = Off.wu_FILTCFG then decide (fieldOf w 16 16 ≤ 10000)
  else if o = Off.wu_GAPCFG ∨ o = Off.wu_NORMCFG ∨ o = Off.wu_AFTCFG then minMax w
  else if o = Off.wu_SYNCCFG then within 1 3 (fieldOf w 2 2) && within 1 15 (fieldOf w 4 4)
  else if o = Off.wu_STALLCFG then decide (100 ≤ fieldOf w 0 20)
  else if o = Off.wu_SECACFG ∨ o = Off.wu_SECBCFG then legalSec w (s.fld (pageWU u) Off.wu_WCFG 20 3)
  else if o = Off.wu_DIRWIN then
    decide (fieldOf w 0 8 < fieldOf w 8 8) && decide (fieldOf w 8 8 < fieldOf w 16 8) && decide (fieldOf w 16 8 < fieldOf w 24 8)
  else if o = Off.wu_DIRCFG then within 1 7 (fieldOf w 1 3)
  else if o = Off.wu_LRNCFG then
    within 1 7 (fieldOf w 1 3) && within 1 255 (fieldOf w 8 8) && decide (fieldOf w 16 8 < fieldOf w 24 8)
  else if o = Off.wu_QCFG then
    fieldOf w 0 1 == 0 || (fieldOf w 8 8 != fieldOf w 16 8 && decide (fieldOf w 8 8 < 160) && decide (fieldOf w 16 8 < 160) &&
      (fieldOf w 2 1 == 0 || decide (fieldOf w 24 8 < 160)))
  else if o = Off.wu_QPOSSET then firstErr (qpossetErrs u w.toNat s) == eOK
  else if o = Off.wu_SYNCFG then
    fieldOf w 26 1 == 1 || (decide (fieldOf w 0 8 < 160) && (fieldOf w 24 1 == 0 || decide (fieldOf w 8 8 < 160)) &&
      (fieldOf w 25 1 == 0 || decide (fieldOf w 16 8 < 160)))
  else true

/-- A position of TERR that the wheel has and that is not position 0 (R112). -/
def terrPlace (u k : Nat) (s : State) : Bool :=
  1 ≤ k && decide (k < s.fld (pageWU u) Off.wu_WCFG 8 8 - s.fld (pageWU u) Off.wu_WCFG 16 2)

def legalWux (u o : Nat) (w : Word) (s : State) : Bool :=
  if hits o (Off.wux_TERR 0) 4 120 then
    let j := hitIdx o (Off.wux_TERR 0) 4
    (fieldOf w 0 16 == 0 || terrPlace u (2 * j) s) && (fieldOf w 16 16 == 0 || terrPlace u (2 * j + 1) s)
  else true

def legalWus (o : Nat) (w : Word) : Bool :=
  if o = Off.wus_PROF then within 1 32 (fieldOf w 0 6)
  else if hits o (Off.wus_SEG 0) 4 32 then fieldOf w 0 16 == 0 || within 50 30000 (fieldOf w 0 16) else true

def legalAng (o : Nat) (w : Word) : Bool :=
  if o = Off.ang_CALCFG then within 1 16384 (fieldOf w 0 15) && within 1 512 (fieldOf w 16 10) else true

def legalQuota (o : Nat) (w : Word) : Bool :=
  if hits o (Off.angQuota_ROLEQUOTA 0) 4 16 then within 1 16384 (fieldOf w 0 15) else true

/-- Pin channels: a reserved KIND is refused when it is staged (R76); the ranges of STAGCFG (R70). -/
def legalPchg (o : Nat) (w : Word) : Bool :=
  if hits o (Off.pchg_CMPSTG_KIND 0) 128 16 then decide (fieldOf w 0 3 ≤ 5)
  else if o = Off.pchg_STAGCFG then within 1 160 (fieldOf w 0 8) && decide (fieldOf w 8 8 < 160) else true

/-- PWM modules (R240, R249, R257). -/
def legalPwm (m : Nat) (s : State) (o : Nat) (w : Word) : Bool :=
  if o = Off.pwm_MCFG then
    fieldOf w 1 2 != 3 && fieldOf w 3 2 != 3 && decide (fieldOf w 8 8 < 160) && !(s.logical m == 0 && fieldOf w 1 2 == 1)
  else if o = Off.pwm_PER then within 1 0xFFFFFFFE w.toNat
  else if o = Off.pwm_BLKCFG then decide (fieldOf w 0 8 < 160)
  else if o = Off.pwm_SUBSEL then decide (fieldOf w 0 4 ≤ 9) else true

def legalPinmux (o : Nat) (w : Word) : Bool :=
  if hits o (Off.pinmux_PINSEL 0) 4 160 then fieldOf w 0 2 != 3 && decide (fieldOf w 8 7 < 80) else true

/-- A trigger source (R202, R220). -/
def legalTrg (w : Word) : Bool :=
  let kind := fieldOf w 0 2
  let evt := fieldOf w 2 2
  !(kind == 1 && evt != 0) && !(kind == 2 && evt == 3) && decide (fieldOf w 16 8 < (if kind = 3 then 80 else 160))

/-- A power of two. -/
def isPow2 (n : Nat) : Bool := (List.range 32).any (fun i => n == 2 ^ i)

/-- Converters (R195, R196, R220). -/
def legalAdc (n o : Nat) (w : Word) (s : State) : Bool :=
  if o = Off.adc_CORECFG then within 10 255 (fieldOf w 0 8) && within 4 64 (fieldOf w 8 7)
  else if o = Off.adc_SEQCTL then within 1 64 (fieldOf w 0 7)
  else if hits o (Off.adc_TRGCFG 0) 8 4 then legalTrg w
  else if hits o (Off.adc_RINGCFG 0) 16 16 then within 8 (if fieldOf w 1 1 = 0 then 17 else 24) (fieldOf w 4 5)
  else if hits o (Off.adc_RINGWM 0) 16 16 then fieldOf w 0 24 == 0 || (decide (64 ≤ fieldOf w 0 24) && isPow2 (fieldOf w 0 24))
  else if hits o (Off.adc_CALOFS 0) 4 4 then within 0 8192 (signed 16 (fieldOf w 0 16) + 4096).toNat && decide (-4096 ≤ signed 16 (fieldOf w 0 16))
  else if hits o (Off.adc_CALGAIN 0) 4 4 then within 0xE000 0x12000 (fieldOf w 0 18)
  else if hits o (Off.adc_RINGRP 0) 16 16 then
    let r := hitIdx o (Off.adc_RINGRP 0) 16
    let cfg := s.reg (pageADC n) (Off.adc_RINGCFG r)
    decide (fieldOf w 0 25 < 2 ^ fieldOf cfg 4 5) && fieldOf w 0 25 % (if fieldOf cfg 2 1 = 1 then 16 else 2) == 0
  else true

def legalAdcs (o : Nat) (w : Word) : Bool :=
  if hits o (Off.adcs_SEQA 0) 8 64 then decide (fieldOf w 26 4 ≤ 8)
  else if hits o (Off.adcs_SEQB 0) 8 64 then decide (fieldOf w 16 4 ≤ 8) && decide (fieldOf w 20 3 ≤ 4) else true

def legalTdac (o : Nat) (w : Word) : Bool :=
  if o = Off.tdac_TDCMP then decide (fieldOf w 0 4 ≤ 8) else true

/-- Resampler lanes (R237). -/
def legalRsml (p o : Nat) (w : Word) (s : State) : Bool :=
  if hits o (Off.rsml_LCFG 0) 32 2 then within 1 15 (fieldOf w 24 4)
  else if hits o (Off.rsml_STEP 0) 32 2 then within 1 256 (fieldOf w 0 9)
  else if hits o (Off.rsml_RING 0) 32 2 then within 8 17 (fieldOf w 24 5)
  else if hits o (Off.rsml_RRP 0) 32 2 then
    decide (fieldOf w 0 17 < 2 ^ s.fld p (Off.rsml_RING (hitIdx o (Off.rsml_RRP 0) 32)) 24 5) && fieldOf w 0 17 % 8 == 0
  else true

/-- The index of an event line, by kind (R173). -/
def legalEvsel (w : Word) : Bool :=
  let i := fieldOf w 8 8
  match fieldOf w 0 3 with
  | 0 => i == 0 | 1 => decide (i < 160) | 2 => decide (i < 160) | 3 => decide (i < 160) | 4 => decide (i < 16)
  | 5 => i == 0 | 6 => decide (i < 4) | _ => false

def legalCl (o : Nat) (w : Word) : Bool :=
  if o = Off.cl_BNCCFG then decide (fieldOf w 4 12 ≤ 0xFEF)
  else if hits o (Off.cl_EVSEL 0) 4 12 then legalEvsel w else true

def legalPress (o : Nat) (w : Word) : Bool :=
  if o = Off.press_IMGLEN then within 64 1048575 (fieldOf w 0 21) else true

def legalWhey (o : Nat) (w : Word) : Bool :=
  if o = Off.whey_TRCFG then within 1 15 (fieldOf w 0 4) && within 1 128 (fieldOf w 16 8) else true

def legalEth (o : Nat) (w : Word) : Bool :=
  if o = Off.eth_FRMCFG then within 256 8972 (fieldOf w 0 14) && within 1 255 (fieldOf w 16 8)
  else if o = Off.eth_IPCFG then within 1 255 (fieldOf w 8 8) else true

def legalIdx (o : Nat) (w : Word) : Bool :=
  if o = Off.idx_LCFG then within 1 255 (fieldOf w 8 8) && within 1 255 (fieldOf w 16 8)
  else if o = Off.idx_TMO then decide (2 ≤ fieldOf w 16 16) && decide (1 ≤ fieldOf w 0 16) && decide (fieldOf w 0 16 < fieldOf w 16 16)
  else if o = Off.idx_CHAIN then decide (fieldOf w 0 2 ≤ fieldOf w 2 2) else true

/-- Every field of a write lies in its legal set (R43). -/
def legalWord (p o : Nat) (w : Word) (s : State) : Bool :=
  match pageKind p with
  | some .pwr => legalPwr o w
  | some .rind => legalRind o w
  | some .dbg => legalDbg o w
  | some .cmdq => legalCmdq o w s
  | some .tb => legalTb o w s
  | some .iu => legalIu o w
  | some .wu => legalWu (pageInst p) o w s
  | some .wux => legalWux (pageInst p) o w s
  | some .wus => legalWus o w
  | some .ang => legalAng o w
  | some .angQuota => legalQuota o w
  | some .pchg => legalPchg o w
  | some .pwm => legalPwm (pageInst p) s o w
  | some .pinmux => legalPinmux o w
  | some .adc => legalAdc (pageInst p) o w s
  | some .adcs => legalAdcs o w
  | some .tdac => legalTdac o w
  | some .rsml => legalRsml p o w s
  | some .cl => legalCl o w
  | some .press => legalPress o w
  | some .whey => legalWhey o w
  | some .eth => legalEth o w
  | some .idx => legalIdx o w
  | _ => true

/-! ### The bits of PAGE_INTSTAT that a block defines -/

/-- The implemented bits of PAGE_INTSTAT and PAGE_INTEN (R33, and the field table of each chapter). -/
def intBits (p : Nat) : Nat :=
  7 + (if isSecondary p then 0 else
    match pageKind p with
    | some .sys => 0x70000 | some .pwr => 0xF0000 | some .rind => 0xF0000 | some .hostif => 0xF0000 | some .tb => 0x3F0000
    | some .iu => 0xF30000 | some .wu => 0x7FF0000 | some .ang => 0x3F0000 | some .cl => 0x1FF0000 | some .press => 0x3F0000
    | some .adc => 0x7F0000 | some .tdac => 0x10000 | some .rsmp => 0xF0000 | some .pwm => 0x70000 | some .trip => 0xFFFF0000
    | some .whey => 0x1F0000 | some .eth => 0x70000 | some .idx => 0x3F0000 | some .dbg => 0x30000
    | _ => 0)

/-! ### Further rejections of single registers -/

/-- The port's number in the calendar's staging words. -/
def portNum : Port → Nat
  | .pcie => 0
  | .spi => 1
  | .tap => 2

/-- The ring of a Whey read index. -/
def wheyRingOf (o : Nat) : Option WheyRing :=
  if o = Off.whey_ARP then some .alarm else if o = Off.whey_SRP then some .loss else if o = Off.whey_GRP then some .general else none

/-- Rejections that one register's own rule adds to those of every write. -/
def regErrs (port : Port) (p o : Nat) (w : Word) (s : State) : List (Nat × Bool) :=
  let i := pageInst p
  match pageKind p with
  | some .cmdq => [(eSTATE, 0x40 ≤ o && decide (o < 0x800) && (s.active pageCMDQ || s.outst != 0))]
  | some .rind =>
    (match settingOf o with | some k => limitedErrs k s | none => []) ++
      (if hits o (Off.rind_TEAMKEY 0) 4 4 || hits o (Off.rind_SCRKEY 0) 4 16 then keyErrs s else [])
  | some .iu =>
    if hits o (Off.iu_ROUTE 0) 4 64 then routeErrs p o w s
    else if p ≠ pageIU then []
    else if hits o (Off.iu_EOI 0) 32 4 then eoiErrs (hitIdx o (Off.iu_EOI 0) 32) w.toNat s
    else if hits o (Off.iu_QHEAD 0) 32 4 then qheadErrs (hitIdx o (Off.iu_QHEAD 0) 32) w.toNat s
    else if o = Off.iu_RAISE then raiseErrs w.toNat
    else if o = Off.iu_CNTDEC then cntdecErrs w.toNat s else []
  | some .wu => [(eSEALED, o == Off.wu_LRNCFG && s.fld pageRIND Off.rind_LEVEL 0 2 == 2)]
  | some .wux =>
    [ (eSEALED, decide (0x800 ≤ o) && s.fld pageRIND Off.rind_LEVEL 0 2 == 2),
      (eSTATE, decide (0x800 ≤ o) && s.flag (pageWU i) Off.wu_LRNCFG 0 && s.active (pageWU i)) ]
  | some .wus => [(eSTATE, decide (0x40 ≤ o) && s.st (pageWU i) == stSYNTH)]
  | some .ang =>
    if o = Off.ang_EVW3 then
      let e := s.evwEntry (portNum port) w
      entryErrs e true s
    else []
  | some .adc => if o = Off.adc_REFCFG then refErrs i w s else []
  | some .tdac => if o = Off.tdac_TDCFG then tdcfgErrs w s else []
  | some .whey => (match wheyRingOf o with | some r => ringIndexErrs s r w.toNat | none => [])
  | some .idx => [(eSEALED, o == Off.idx_LCFG && fieldOf w 1 1 == 1 && s.fld pageRIND Off.rind_LEVEL 0 2 != 0)]
  | _ => []

end Sys2Proof.Machine
end

