-- ==== Sys2Proof/Machine/Views.lean ====
section
/-! DEFINITION. What a host read returns (R6, R9, R11, R32, R33, R35, R47, R62, R63, R79, R321): the page header, the status
registers that show the state of a unit, and the registers that hold their value. -/

namespace Sys2Proof.Machine

/-! ### The page header (R33) -/

def pageIdWord (p : Nat) : Word :=
  match pageKind p with
  | some k => BitVec.ofNat 32 (k.type * 2 ^ 16 + pageInst p * 2 ^ 8 + 1)
  | none => 0

def pageStateWord (s : State) (p : Nat) : Word :=
  let b := s.page (basePage p)
  BitVec.ofNat 32 (s.st p + (s.page p).lastCmd * 2 ^ 8 + bit (s.shadowed p) * 2 ^ 16 + bit b.prepared * 2 ^ 17 +
    bit (s.busy p) * 2 ^ 18 + bit b.enpend * 2 ^ 19)

/-- PAGE_LOCK: the smallest budget among the limited-change settings, which all lie on the RIND page. -/
def pageLockWord (s : State) (p : Nat) : Word :=
  let b := if p = pageRIND then min (min (s.budget 1) (s.budget 2)) (min (s.budget 3) (s.budget 4)) else 0xFF
  BitVec.ofNat 32 (s.level + bit (s.locked p) * 4 + b * 2 ^ 8)

def pageDomainWord (s : State) (p : Nat) : Word := BitVec.ofNat 32 (pageDomain p + s.dst (pageDomain p) * 2 ^ 8)

/-! ### Status registers -/

/-- MODE.REQ: the mode that a mode command requests (R323). -/
def modeTarget (s : State) (code : Nat) : Nat :=
  match code with
  | 0x40 => if s.flag pageSYS Off.sys_ARMCFG 0 then mBENCH else mRUN
  | 0x41 => mCONFIGURE
  | 0x42 => mLIMP
  | 0x43 => if s.md = mHALT then s.fld pageSYS Off.sys_MODE 8 3 else mRUN
  | 0x44 => mHALT
  | 0x45 => mDORMANT
  | 0x46 => mBOOT
  | _ => mSAFE

/-- The pending host mode request: a command of SYS, or a HALT request of DBG (R323, R366). -/
def State.modeRun (s : State) : Option Running :=
  s.running.find? (fun r => (r.req.page.toNat == pageSYS && 0x40 ≤ r.code) || (r.req.page.toNat == pageDBG && r.code == 0x43))

def modeWord (s : State) : Word :=
  let w := (s.reg pageSYS Off.sys_MODE).toNat % 2 ^ 16
  match s.modeRun with
  | none => BitVec.ofNat 32 w
  | some r => BitVec.ofNat 32 (w + 2 ^ 16 + (if r.req.page.toNat = pageDBG then mHALT else modeTarget s r.code) * 2 ^ 17)

/-- DOMSTAT: DSTATE and FIXED of eight domains (R340, R348). -/
def domstatWord (s : State) (w : Nat) : Word :=
  BitVec.ofNat 32 (((List.range 8).map (fun i =>
    let d := 8 * w + i
    if 91 < d then 0 else (s.dst d + bit (decide (89 ≤ d)) * 8) * 2 ^ (4 * i))).sum)

def viewRind (s : State) (o : Nat) : Option Word :=
  if o = Off.rind_LEVEL then some (levelWord s)
  else if o = Off.rind_LOGCNT then some (BitVec.ofNat 32 s.rind.log.length)
  else if o = Off.rind_AUTHST then some (authstWord s)
  else if o = Off.rind_DEVUID_LO then some (lo32 Config.devUid)
  else if o = Off.rind_DEVUID_HI then some (hi32 Config.devUid)
  else if o = Off.rind_TEAMKID_LO then some (byteWord s.teamId 0)
  else if o = Off.rind_TEAMKID_HI then some (byteWord s.teamId 1)
  else if o = Off.rind_SCRKID_LO then some (byteWord s.scrId 0)
  else if o = Off.rind_SCRKID_HI then some (byteWord s.scrId 1)
  else if o = Off.rind_DEVKID_LO then some (byteWord devId 0)
  else if o = Off.rind_DEVKID_HI then some (byteWord devId 1)
  else if o = Off.rind_KEYSTAT then some (keystatWord s)
  else if hits o (Off.rind_LOGDATA 0) 4 16 then some (logDataWord s (hitIdx o (Off.rind_LOGDATA 0) 4))
  else if hits o (Off.rind_DEVPUB 0) 4 16 then
    some (byteWord (beBytes 64 Config.devPub.toNat) (hitIdx o (Off.rind_DEVPUB 0) 4))
  else none

/-- The head entry of the Posted Write Error Log (R47); `f` picks from it. -/
def pwelView (s : State) (f : PwelEntry → Nat) : Option Word :=
  match s.host.pwel with
  | [] => some 0
  | e :: _ => some (BitVec.ofNat 32 (f e))

def viewHostif (s : State) (o : Nat) : Option Word :=
  if o = Off.hostif_WSEQ then some (BitVec.ofNat 32 (s.host.acc + s.host.dn * 2 ^ 16))
  else if o = Off.hostif_PWELCNT then some (BitVec.ofNat 32 s.host.pwel.length)
  else if o = Off.hostif_PWEL_STAT then pwelView s (fun e => e.seq + e.code * 2 ^ 16 + 2 ^ 24)
  else if o = Off.hostif_PWEL_ADDR then pwelView s (fun e => e.addr + e.len % 256 * 2 ^ 24)
  else if o = Off.hostif_PWEL_DATA then pwelView s (fun e => e.data.toNat)
  else if o = Off.hostif_PWEL_TB_LO then pwelView s (·.tb)
  else if o = Off.hostif_PWEL_TB_HI then pwelView s (fun e => e.tb / 2 ^ 32)
  else if o = Off.hostif_SPISTAT then some (BitVec.ofNat 32 (s.host.spi.seq + bit s.host.spi.pend * 2 ^ 8))
  else none

/-- NOW_LO and NOW_HI: a host port reads its latch, the TAP the live half (R62, R63). -/
def viewTb (s : State) (port : Port) (o : Nat) : Option Word :=
  if o = Off.tb_NOW_LO then some (lo32 s.tb)
  else if o = Off.tb_NOW_HI then
    match port with
    | .pcie => some (s.reg pageHOSTIF Off.hostif_TBLATP)
    | .spi => some (s.reg pageHOSTIF Off.hostif_TBLATS)
    | .tap => some (hi32 s.tb)
  else none

def viewIu (s : State) (p o : Nat) : Option Word :=
  let q := p - 0x010
  if hits o (Off.iu_PEND 0) 4 16 then some (pendWord s q (hitIdx o (Off.iu_PEND 0) 4))
  else if hits o (Off.iu_CNT 0) 4 128 then some (cntWord s q (hitIdx o (Off.iu_CNT 0) 4))
  else if p ≠ pageIU then none
  else if hits o (Off.iu_PENDTOP 0) 32 4 then some (pendTop s (hitIdx o (Off.iu_PENDTOP 0) 32))
  else if hits o (Off.iu_QTAIL 0) 32 4 then some (BitVec.ofNat 32 (s.itgt (hitIdx o (Off.iu_QTAIL 0) 32)).qtail)
  else if hits o (Off.iu_TSTAT 0) 32 4 then some (tstat s (hitIdx o (Off.iu_TSTAT 0) 32))
  else if hits o (Off.iu_TIDLE 0) 32 4 then some (BitVec.ofNat 32 (bit (!(s.itgt (hitIdx o (Off.iu_TIDLE 0) 32)).busy)))
  else if o = Off.iu_WAKESTAT then some (s.iu.latch.setWidth 32)
  else none

/-- Wheel unit status; an importing unit shows SYNCST, its other status fields read zero (R317). -/
def viewWu (s : State) (u o : Nat) : Option Word :=
  if o = Off.wu_SYNCST then some (syncstWord s u)
  else if 0x800 ≤ o ∧ s.flag (pageIDX 0) (Off.idx_IMP u) 0 ∧ s.active (pageWU u) then some 0
  else if o = Off.wu_ERRBND ∧ (s.wheel u).state ≠ wCAM then some 0
  else if o = Off.wu_QPOS then some (BitVec.ofNat 32 (s.wheel u).qpos)
  else if o = Off.wu_QSTAT then some (qstatWord s u)
  else if o = Off.wu_SYNSTAT then some (synstatWord s u)
  else if o = Off.wu_LRNSTAT then some (lrnstatWord s u)
  else none

def viewAng (s : State) (port : Port) (o : Nat) : Option Word :=
  if o = Off.ang_CALSTAT then some (calstat s)
  else if o = Off.ang_CPLWAIT then some (BitVec.ofNat 32 (min s.cplWait 0x7FFF))
  else if hits o Off.ang_EVW0 4 3 then some (s.cal.evw.get 0 (3 * portNum port + hitIdx o Off.ang_EVW0 4))
  else none

def viewPchg (s : State) (p o : Nat) : Option Word :=
  let c := 16 * (p - 0x030) + (o - 0x800) / 128
  if hits o (Off.pchg_CHSTAT 0) 128 16 then some (chstatWord s c)
  else if hits o (Off.pchg_CMPQ 0) 128 16 then some (cmpqWord s c)
  else if hits o (Off.pchg_CMPHEAD_LO 0) 128 16 then some (BitVec.ofNat 32 (cmpHead s c))
  else if hits o (Off.pchg_CMPHEAD_HI 0) 128 16 then some (BitVec.ofNat 32 (cmpHead s c / 2 ^ 32))
  else if hits o (Off.pchg_CAPQ 0) 128 16 then some (BitVec.ofNat 32 (s.chan c).capq.length)
  else if hits o (Off.pchg_CNTVAL 0) 128 16 then some (BitVec.ofNat 32 (s.chan c).cnt)
  else none

def viewCl (s : State) (c o : Nat) : Option Word :=
  if o = Off.cl_CLSTAT then some (clstatWord s c)
  else if o = Off.cl_PAIRSTAT then some (pairstatWord s c)
  else if o = Off.cl_ENGSTAT then some (engstatWord s c)
  else if o = Off.cl_MSGSTAT then some (msgstatWord s c)
  else if o = Off.cl_MCLOG_STAT then some (mclogWord s c)
  else if o = Off.cl_MCLOG_TB_LO then some (BitVec.ofNat 32 (mclogTb s c))
  else if o = Off.cl_MCLOG_TB_HI then some (BitVec.ofNat 32 (mclogTb s c / 2 ^ 32))
  else none

def viewPress (s : State) (o : Nat) : Option Word :=
  if o = Off.press_BANKST then some (bankstWord s)
  else if o = Off.press_INACTST then some (inactstWord s)
  else if o = Off.press_WINST then some (winstWord s)
  else if o = Off.press_REPSTAT then some (repstatWord s)
  else none

def viewWhey (s : State) (o : Nat) : Option Word :=
  if o = Off.whey_AWP then some (BitVec.ofNat 32 (s.wring .alarm).wp)
  else if o = Off.whey_SWP then some (BitVec.ofNat 32 (s.wring .loss).wp)
  else if o = Off.whey_GWP then some (BitVec.ofNat 32 (s.wring .general).wp)
  else if o = Off.whey_ARP then some (BitVec.ofNat 32 (s.hostIndex .alarm))
  else if o = Off.whey_SRP then some (BitVec.ofNat 32 (s.hostIndex .loss))
  else if o = Off.whey_GRP then some (BitVec.ofNat 32 (s.hostIndex .general))
  else if o = Off.whey_GSTAT then some (BitVec.ofNat 32 (s.ringFill .general + s.whey.decim * 2 ^ 24))
  else if o = Off.whey_SUMSTAT then some (BitVec.ofNat 32 (s.whey.sums.length + s.whey.coal.length * 2 ^ 16))
  else none

/-- The status registers that show the state of a unit; none for a register that holds its value. -/
def viewReg (s : State) (port : Port) (p o : Nat) : Option Word :=
  let i := pageInst p
  match pageKind p with
  | some .sys =>
    if o = Off.sys_MODE then some (modeWord s)
    else if o = Off.sys_DEVID then some (s.reg pageSYS Off.sys_DEVID + (if Config.gradeMx then 1 else 0)) else none
  | some .pwr => if hits o (Off.pwr_DOMSTAT 0) 4 12 then some (domstatWord s (hitIdx o (Off.pwr_DOMSTAT 0) 4)) else none
  | some .rind => viewRind s o
  | some .hostif => viewHostif s o
  | some .cmdq => if o = Off.cmdq_OUTST then some (BitVec.ofNat 32 s.outst) else none
  | some .tb => viewTb s port o
  | some .iu => viewIu s p o
  | some .wu => viewWu s i o
  | some .ang => viewAng s port o
  | some .angQuota =>
    if hits o (Off.angQuota_ROLECNT 0) 4 16 then some (BitVec.ofNat 32 (s.ownCount (hitIdx o (Off.angQuota_ROLECNT 0) 4))) else none
  | some .angPeek =>
    if hits o (Off.angPeek_PEEKD 0) 4 4 then some (peekWord s (hitIdx o (Off.angPeek_PEEKD 0) 4))
    else if o = Off.angPeek_PEEKST then some (peekStat s) else none
  | some .pchg => viewPchg s p o
  | some .pwm => if o = Off.pwm_CNT then some (pwmCntWord s i) else if o = Off.pwm_MSTAT then some (mstatWord s i) else none
  | some .adc => if o = Off.adc_CORESTAT then some (corestatWord s i) else none
  | some .rsmp => if o = Off.rsmp_WINOPEN then some (winopenWord s) else none
  | some .rsml => if hits o (Off.rsml_LSTAT 0) 32 2 then some (lstatWord s (2 * i + hitIdx o (Off.rsml_LSTAT 0) 32)) else none
  | some .cl => viewCl s i o
  | some .clt =>
    if hits o (Off.clt_TASKST 0) 8 256 then some (taskstWord s i (hitIdx o (Off.clt_TASKST 0) 8))
    else if hits o (Off.clt_TASKW 0) 8 256 then some (taskwWord s i (hitIdx o (Off.clt_TASKW 0) 8)) else none
  | some .press => viewPress s o
  | some .whey => viewWhey s o
  | some .idx =>
    if o = Off.idx_CREDIT then some (idxCreditWord s i) else if o = Off.idx_PSTAT then some (pstatWord s i)
    else if o = Off.idx_OFFSET ∨ o = Off.idx_RESIDUAL then some (offsetWord s i o) else none
  | some .dbg => if o = Off.dbg_DSTAT then some (dstatWord s) else none
  | _ => none

/-- What a register reads, before the effect of the read itself (R9, R11, R32, R35). -/
def readWord (port : Port) (a : Nat) (s : State) : Word :=
  let p := a / 4096
  let o := a % 4096
  if (pageKind p).isNone then 0
  else if o = 0x000 then pageIdWord p
  else if o = 0x004 then pageStateWord s p
  else if o = 0x020 then pageLockWord s p
  else if o = 0x024 then pageDomainWord s p
  else if !s.pageOn p then 0
  else if o = 0x00C ∨ o = 0x010 ∨ o = 0x014 ∨ o = 0x018 ∨ o = 0x01C then s.reg p o
  else
    match regRow a with
    | none => 0
    | some r =>
      match viewReg s port p o with
      | some w => w
      | none => if r.access == .wo then 0 else s.reg p o

/-- HOSTIF answers: not in DORMANT, and in BOOT from 2.0 ms (R321, R329). -/
def State.answers (s : State) : Bool :=
  s.md != mDORMANT && (s.md != mBOOT || decide (s.modeClock + 1600000 ≤ s.now))

/-- The PCIe function takes memory accesses: the link is up, Memory Space Enable is 1 and the function is in D0 (R299). -/
def State.pcieOpen (s : State) : Bool := s.answers && s.host.linkUp && s.host.cfg.memSpace && !s.host.cfg.d3

/-- A memory access that the function does not take: an unsupported request, which AER shows (R299). -/
def State.pcieClosed (s : State) : State :=
  if s.answers && s.host.linkUp then
    { s with host := { s.host with cfg := { s.host.cfg with aer := s.host.cfg.aer ||| 0x00100000 } } }
  else s

/-- The word that the last read of a port returned. -/
def State.putRead (s : State) (port : Port) (w : Word) : State :=
  match port with
  | .pcie => { s with host := { s.host with rdPcie := w } }
  | .spi => { s with host := { s.host with rdSpi := w } }
  | .tap => { s with host := { s.host with rdTap := w } }

/-- The effect of a read on its register: an RC register clears, CAPPOP pops, NOW_LO loads the port's latch (R9, R62, R79). A read
that meets a hardware set of the same clock returns the value from before it and leaves the new event (R10). -/
def readEffect (port : Port) (a : Nat) (meets : Bool) (s : State) : Word × State :=
  let p := a / 4096
  let o := a % 4096
  if (pageKind p).isNone ∨ !s.pageOn p then (readWord port a s, s)
  else if pageKind p = some .pchg ∧ hits o (Off.pchg_CAPPOP 0) 128 16 then hostPop (16 * (p - 0x030) + hitIdx o (Off.pchg_CAPPOP 0) 128) s
  else if a = adr pageTB Off.tb_NOW_LO then
    match port with
    | .pcie => (lo32 s.tb, s.setReg pageHOSTIF Off.hostif_TBLATP (hi32 s.tb))
    | .spi => (lo32 s.tb, s.setReg pageHOSTIF Off.hostif_TBLATS (hi32 s.tb))
    | .tap => (lo32 s.tb, s)
  else if meets ∧ pageKind p = some .iu ∧ hits o (Off.iu_CNT 0) 4 128 then (cntBefore s (p - 0x010) (hitIdx o (Off.iu_CNT 0) 4), s)
  else
    match regRow a with
    | some r =>
      if r.access != .rc then (readWord port a s, s)
      else if meets then (s.clockReg p o, s.setReg p o (Store.get 0 s.fresh a))
      else (readWord port a s, s.setReg p o 0)
    | none => (readWord port a s, s)

/-- Writes of this port to a page that have been accepted and have not committed come first (R45). -/
def State.postedTo (s : State) (p : Nat) : Bool := s.host.posted.any (fun e => e.addr / 4096 == p)

/-- A 32-bit read through a port. -/
def readReg (port : Port) (a : Nat) (meets : Bool) (s : State) : State :=
  let r := readEffect port a meets s
  r.2.putRead port r.1

end Sys2Proof.Machine
end

