-- ==== Sys2Proof/Machine/Modes.lean ====
section
/-! DEFINITION. The modes: commands, transitions, BOOT, DORMANT, supply and temperature, and TB_PRESET (R3, R5, R66, R68, R252,
R321 to R339, R343, R344, R347, R366, R369, R395). -/

namespace Sys2Proof.Machine

/-! ### Mode commands (R323, R347) -/

/-- A mode command, from the modes that permit it. -/
def modeCmd (frm : List Nat) (more : State → List (Nat × Bool)) (act : State → State) : Cmd where
  errs _ s := [(eSTATE, !frm.contains s.md), (eBUSY, s.modeRun.isSome)] ++ more s
  run _ s := act s

def arm : Cmd :=
  modeCmd [mCONFIGURE] (fun _ => []) (fun s => let t := clearReport s
                                               { t with mode := { t.mode with arm := 1 } })

/-- A DISARM from SAFE after a clock loss waits for the clock (R326). -/
def disarm : Cmd :=
  modeCmd [mRUN, mLIMP, mBENCH, mHALT, mSAFE] (fun s => [(eSTATE, s.md == mSAFE && s.mode.clockLost)]) id

def enterLimp : Cmd := modeCmd [mRUN] (fun _ => []) id

/-- What bars a RESUME from LIMP (R335). -/
def State.limpHolds (s : State) : Bool :=
  (List.range 8).any (fun u => s.flag pageSYS Off.sys_LIMPCAUSE u && (s.wheel u).state == wCAM) ||
    (s.flag pageSYS Off.sys_LIMPCAUSE 8 && !s.active (s.fld pageSYS Off.sys_LIMPCAUSE 16 12))

def resume : Cmd := modeCmd [mLIMP, mHALT] (fun s => [(eSTATE, s.md == mLIMP && s.limpHolds)]) id

def halt : Cmd := modeCmd [mCONFIGURE, mRUN, mLIMP, mBENCH] (haltErrs .host) (logHalt .host)

def haltReq : Cmd := modeCmd [mCONFIGURE, mRUN, mLIMP, mBENCH] (haltErrs .tap) (logHalt .tap)

/-- SLEEP arms the wake latches (R275, R337). -/
def sleep : Cmd :=
  modeCmd [mCONFIGURE, mSAFE]
    (fun s => [ (eSTATE, !s.flag pageTB Off.tb_SLOWSTAT 1), (eBUSY, decide (0 < s.ringFill .alarm) || decide (0 < s.ringFill .loss)) ])
    (fun s => { s with iu := { s.iu with latch := 0, armed := true }, mode := { s.mode with wake := 0 } })

def reboot : Cmd := modeCmd [mCONFIGURE, mRUN, mLIMP, mBENCH, mHALT, mSAFE] (fun _ => []) id

def forceSafe : Cmd := modeCmd [mCONFIGURE, mRUN, mLIMP, mBENCH, mHALT] (fun _ => []) (fatal 0x01 0)

/-- TB_PRESET is accepted in BENCH with full debug access on a device that stands alone (R66). -/
def tbPreset : Cmd where
  errs _ s := [(eSTATE, s.md != mBENCH || s.granted != 2 || s.fld (pageIDX 0) Off.idx_CHAIN 2 2 != 0)]
  run _ s := s

/-! ### Transitions (R322, R324) -/

/-- The mode register changes, with its interrupt and its record. -/
def putMode (new : Nat) (s : State) : State :=
  let old := s.md
  let t := s
  let s := (s.setFld pageSYS Off.sys_MODE 4 3 old).setFld pageSYS Off.sys_MODE 0 3 new
  let s := if new = mHALT then s.setFld pageSYS Off.sys_MODE 8 3 old else s
  let s := s.setReg64 pageSYS Off.sys_MODETB_LO Off.sys_MODETB_HI s.now
  let s := s.setFld pagePINMUX1 Off.pinmuxX_FORCESTAT 0 1 (bit (new == mHALT))
  let s := if old = mSAFE then s.setFld pagePINMUX1 Off.pinmuxX_FORCESTAT 1 1 0 else s
  let s := s.intSet pageSYS 16
  let s := s.log pageSYS (originOf pageSYS) 0x011 s.now [BitVec.ofNat 32 (old + new * 2 ^ 4)]
  State.regrant t s

/-- Synthesis ends with BENCH (R109). -/
def endSynthesis (s : State) : State :=
  (List.range 8).foldl (fun s u => if s.st (pageWU u) = stSYNTH then synEnd u s else s) s

/-- The blocks that are to be in service when RUN begins (R39, R332). -/
def enpendStart (s : State) : State :=
  basePages.foldl (fun s p =>
    if (s.page p).enpend && s.st p == stCONFIGURED then enterService p (s.setEnpend p false) else s) s

/-- RUN or BENCH begins out of CONFIGURE (R332). -/
def armBegin (s : State) : State :=
  let s := enpendStart s
  mirrorAtRun { s with epochs := (List.range 16).foldl (fun e r => e.set 0 r 1) s.epochs }

/-- LIMP begins (R334). -/
def limpBegin (s : State) : State :=
  let s := { s with mode := { s.mode with limpDue := false } }
  (s.intSet pageSYS 18).alarm (originOf pageSYS) 0x010 s.now [s.reg pageSYS Off.sys_LIMPCAUSE]

/-- No LIMP cause stands. -/
def clearLimp (s : State) : State :=
  { s.setReg pageSYS Off.sys_LIMPCAUSE 0 with mode := { s.mode with limpDue := false } }

/-- CONFIGURE begins out of a mode of service (R328). -/
def disarmBegin (s : State) : State :=
  let s := s.cancelCalendar
  basePages.foldl (fun s p =>
    if s.active p && !bootActive p && p != pageCMDQ then (retire p stCONFIGURED s).setEnpend p true else s) s

/-- Everything a change to a mode other than BOOT and DORMANT does. -/
def enterMode (new : Nat) (s : State) : State :=
  let old := s.md
  let s := if old = mBENCH ∧ new ≠ mBENCH then endSynthesis s else s
  let s := putMode new s
  let s := if new = mRUN ∨ new = mLIMP ∨ new = mBENCH then { s with mode := { s.mode with wd := 0 } } else s
  let s := if old = mCONFIGURE ∧ (new = mRUN ∨ new = mBENCH) then armBegin s else s
  let s := if new = mLIMP then limpBegin s else s
  let s := if new = mCONFIGURE then clearLimp (if old = mBOOT then s else disarmBegin s) else s
  let s := if new = mSAFE then
    let m := { s.mode with safeDue := false, cfgDue := false, arm := 0 }
    { s.endSessions.clearAuth with mode := m, iu := { s.iu with armed := false } } else s
  let s := if new = mCONFIGURE then { s with mode := { s.mode with cfgDue := false } } else s
  s.dropFollow.dropPwmPins

/-- The pending request leaves: it is done, or it has lost. -/
def endMode (won : Bool) (s : State) : State :=
  match s.modeRun with
  | none => s
  | some r =>
    let s := { s with mode := { s.mode with arm := 0 } }
    s.endRun r { code := if won then eOK else eSTATE }

/-! ### BOOT (R322, R329, R330, R338) -/

/-- A register that a BOOT leaves: the stored ones, HOTTIME, what pins and clocks show; of the always-on domain more survives a
warm BOOT (R68, R338, R367). -/
def bootKeeps (warm : Bool) (a : Nat) : Bool :=
  let p := a / 4096
  let o := a % 4096
  (p == pageRIND && rindStored o) || (p == pagePWR && o == Off.pwr_HOTTIME) || (p == pageTB && o == Off.tb_SLOWSTAT) ||
    (warm && ((p == pagePWR && (o == Off.pwr_WAKETMR || o == Off.pwr_WAKESRC)) ||
      (p == pageTB && (o == 0x014 || o == Off.tb_TICKCFG || o == Off.tb_TICKPHASE || o == Off.tb_SLOWCFG || o == Off.tb_SLOWRATIO))))

/-- What Rind keeps through a BOOT: its non-volatile store. -/
def bootRind (r : RindSt) : RindSt :=
  { teamKey := r.teamKey, teamMask := r.teamMask, scrKey := r.scrKey, scrMask := r.scrMask, draws := r.draws, prev := r.prev, undo := r.undo,
    log := r.log, pkg := r.pkg, terr := r.terr, sealRoles := r.sealRoles, portOpen := false }

/-- A BOOT begins: everything returns to its reset values but what R338 and R367 keep. -/
def bootAt (warm : Bool) (t0 : Nat) (cause : Nat) (s : State) : State :=
  let old := s.md
  let n : State := {}
  let w : WheySt := if warm then { owed := some t0 } else {}
  let n := { n with
    pending := s.pending, tb := if warm then BitVec.ofNat 64 t0 else 0, era := if warm then t0 / 2 ^ 64 else 0, tick := if warm then s.tick else {},
    regs := s.regs.filter (fun e => bootKeeps warm e.1), hostMem := s.hostMem, free := s.free, rind := bootRind s.rind,
    chans := s.chans.foldl (fun (c : Store Chan) (e : Nat × Chan) => c.set {} e.1 { inLvl := e.2.inLvl }) [], whey := w,
    iu := { idlePin := s.iu.idlePin } }
  let n := (List.range 8).foldl (fun n i => n.setReg pageRIND (0x040 + 4 * i) (s.rind.prev.getD i 0)) n
  let n := (n.setFld pageTB Off.tb_SLOWSTAT 0 1 0).rindCrc
  let n := (n.setReg pageSYS Off.sys_MODE (BitVec.ofNat 32 (old * 2 ^ 4))).setReg64 pageSYS Off.sys_MODETB_LO Off.sys_MODETB_HI t0
  let n := n.setReg pageSYS Off.sys_BOOTSTAT (BitVec.ofNat 32 (2 * bit warm))
  let n := n.setReg pagePWR Off.pwr_RESETCAUSE (BitVec.ofNat 32 cause)
  let n := (List.range 5).foldl (fun n i => n.setFld (pageADC i) Off.adc_CORESTAT 8 2 0) n
  (n.intSet pageSYS 16).log pageSYS (originOf pageSYS) 0x011 t0 [BitVec.ofNat 32 (old + mBOOT * 2 ^ 4)]

/-- Bits of RESETCAUSE (R348). -/
def causePOR : Nat := 1
def causePIN : Nat := 2
def causeREBOOT : Nat := 4
def causeWAKE : Nat := 8
def causeBROWN : Nat := 16

def execPowerOnReset (s : State) : Out := .next (bootAt false 0 causePOR s)

/-- The mode that a brown-out left: the transition into BOOT is one, though the BOOT begins with the return of VBAT (R322, R343). -/
def beforeBrown (s : State) : State := s.setFld pageSYS Off.sys_MODE 0 3 (s.fld pageSYS Off.sys_MODE 4 3)

/-- RESET# low for `ns` nanoseconds: from 1 µs it resets, below 200 ns it does not, between them it may (R395). -/
def resetPin (ns : Nat) (taken : Bool) (s : State) : State :=
  if !(1000 ≤ ns ∨ (200 ≤ ns ∧ taken)) then s
  else if s.mode.aonFault then bootAt false 0 causePIN (beforeBrown s)
  else if s.mode.brown then s else bootAt false 0 causePIN s

def execResetPin (ns : Nat) (taken : Bool) (s : State) : Out := .next (resetPin ns taken s)

/-- The calibration of a core during BOOT (R208, R209, R329). -/
def bootCal (n : Nat) (r : CalResult) (s : State) : State :=
  let s := s.setFld (pageADC n) Off.adc_CORESTAT 8 1 1
  if calOk r then (putCal n r s).setFld (pageADC n) Off.adc_CORESTAT 9 1 1
  else (s.intSet (pageADC n) 17).setSt (pageADC n) stFAULT

/-- A page whose failed self-test is fatal: those of the I/O banks, of the system core and of Rind (R330). -/
def fatalPage (p : Nat) : Bool := pageKind p == some .pchg || pageDomain p == 89 || pageDomain p == 90

/-- The BOOT sequence ends: self-test results, calibration, the recall at SEALED, BOOTSTAT (R329, R330). -/
def bootDone (r : BootResult) (s : State) : State :=
  if s.md ≠ mBOOT ∨ s.mode.cfgDue ∨ s.mode.brown then s else
  let s := s.upTo (s.modeClock + 11200000)
  let c := (s.reg pagePWR Off.pwr_RESETCAUSE).toNat
  let s := if r.torn ∧ (c = causePOR ∨ c = causeBROWN) then tornChange s else { s with rind := { s.rind with undo := none } }
  let m := memoryTest (r.rows.map (fun a => rowOf a.1.val a.2.toNat)) s
  let s := m.2
  let bad := (r.failed.map (·.toNat)).filter (fun p => basePages.contains p) ++ m.1.flatMap (fun a => domainBases (rowDomain a))
  let s := (r.cal.zipIdx).foldl (fun s c => if c.2 < 5 then bootCal c.2 c.1 s else s) s
  let s := bad.foldl (fun s p => s.setSt p stFAULT) s
  let n := basePages.countP (fun p => (s.page p).st == stFAULT && !fatalPage p)
  let back := r.rindOk && s.level == lvSEALED && s.rind.pkg.isSome
  let s := if back then sealRecall s else s
  let w := 1 + (s.fld pageSYS Off.sys_BOOTSTAT 1 1) * 2 + bit back * 4 + min n 255 * 2 ^ 8
  let s := s.setReg pageSYS Off.sys_BOOTSTAT (BitVec.ofNat 32 w)
  let s := { s with mode := { s.mode with cfgDue := true }, rind := { s.rind with portOpen := true } }
  let bank := bad.find? fatalPage
  if !r.rindOk then fatal 0x08 pageRIND s
  else if !r.coreOk then fatal 0x08 0 s
  else match bank with
    | some p => fatal 0x08 p s
    | none => s

def execBootDone (r : BootResult) (s : State) : Out := .next (bootDone r s)

/-- The device's own ARM at the first boundary of CONFIGURE (R330). -/
def autoArm (s : State) : State :=
  if s.flag pageSYS Off.sys_BOOTSTAT 2 ∧ s.flag pageSYS Off.sys_ARMCFG 1 then
    (offer 0x40 arm (ownRequest pageSYS 0) (s.setFld pageSYS Off.sys_BOOTSTAT 3 1 1)).2
  else s

/-! ### DORMANT (R337 to R339) -/

/-- DORMANT begins, in the order of R337: MODE, the events with their records, SLEEP; then the domains go off and the link goes
down, once the held samples are stored, and the commands that still run end with their domains (R341). -/
def enterDormant (r : Running) (s : State) : State :=
  let s := (putMode mDORMANT (stopCores s)).cancelCalendar
  let s := drainCompletions s.cplWait s
  let s := s.endSessions.clearAuth
  let s := s.endRun r {}
  darkIfStored { s with mode := { s.mode with safeDue := false, arm := 0, exc := 0 } }

/-- The wake timer runs out, or SCS# falls (R339). -/
def wakeBy (bitNo : Nat) (s : State) : State :=
  if s.md = mDORMANT ∧ s.flag pagePWR Off.pwr_WAKESRC bitNo ∧ (bitNo ≠ 1 ∨ s.tbStopped ∧ s.reg pagePWR Off.pwr_WAKETMR ≠ 0) then
    { s with mode := { s.mode with wake := putBits s.mode.wake bitNo 1 1 } }
  else s

def execWakeTimer (s : State) : Out := .next (wakeBy 1 s)
def execSpiWake (s : State) : Out := .next (wakeBy 2 s)

/-- The armed matches whose values fell in DORMANT are reached in the first clock after the catch-up (R64): `old` is the state
before the wake. -/
def keepMatches (old s : State) : State :=
  (List.range 4).foldl (fun s n =>
    if old.flag pageTB Off.tb_MATCHARM n ∧ old.clockOf (old.matchVal.get 0 n) ≤ s.now then
      ({ s with matchVal := s.matchVal.set 0 n (old.matchVal.get 0 n),
                matchTb := s.matchTb.set 0 n (s.now + 1) }).setFld pageTB Off.tb_MATCHARM n 1 1
    else s) s

/-- The TB restarts after DORMANT: the warm BOOT and the catch-up of one clock (R68, R275, R338, R339). -/
def tbCatchup (d : Nat) (s : State) : State :=
  if s.md ≠ mDORMANT ∨ !s.tbStopped ∨ s.mode.wake = 0 then s else
  let wake := s.mode.wake
  let latch := s.iu.latch
  let cfg := s.reg pageIU Off.iu_WAKECFG
  let t0 := s.now + d * (s.reg pageTB Off.tb_SLOWRATIO).toNat / 65536
  let n := bootAt true t0 (causeWAKE + wake * 2 ^ 8) s
  let n := { n with tb := s.tb, era := s.era, iu := { n.iu with latch := latch, wakeDue := latch } }
  let n := catchUp d ((n.setReg pageIU Off.iu_WAKECFG cfg).intSet pageIU 17)
  keepMatches s n

def execTbCatchup (ticks : BitVec 48) (s : State) : Out := .next (tbCatchup ticks.toNat s)

/-! ### The mode step of a boundary (R20, R324) -/

/-- The code of the pending request; a HALT request of the debug page counts as HALT. -/
def State.modeCode (s : State) : Nat :=
  match s.modeRun with
  | none => 0
  | some r => if r.req.page.toNat = pageDBG then 0x44 else r.code

/-- The mode that a RESUME leads to (R322). -/
def State.resumeMode (s : State) : Nat :=
  if s.md = mHALT then
    let h := s.fld pageSYS Off.sys_MODE 8 3
    if h = mRUN ∧ s.reg pageSYS Off.sys_LIMPCAUSE ≠ 0 then mLIMP else h
  else mRUN

/-- Step 7 of a boundary: at most one transition, the first of those due. -/
def modeStep (s : State) : State :=
  let c := s.modeCode
  let resume := c == 0x43
  if c = 0x46 then bootAt true s.now causeREBOOT s
  else if s.mode.safeDue ∧ (s.md ≠ mBOOT ∨ s.mode.cfgDue) then
    let won := c == 0x47
    enterMode mSAFE (endMode won s)
  else if c = 0x45 ∧ s.flag pageTB Off.tb_SLOWSTAT 0 then
    match s.modeRun with
    | some r => enterDormant r s
    | none => s
  else if s.md = mBOOT ∧ s.mode.cfgDue then autoArm (enterMode mCONFIGURE s)
  else if c = 0x41 then endMode true (enterMode mCONFIGURE s)
  else if c = 0x44 ∨ (resume && s.resumeMode == mHALT) then endMode true (enterMode mHALT s)
  else if (s.md = mRUN ∧ s.mode.limpDue) ∨ c = 0x42 ∨ (resume && s.resumeMode == mLIMP) then
    let won := c == 0x42 || (resume && s.resumeMode == mLIMP)
    let s := if c = 0x42 then s.setFld pageSYS Off.sys_LIMPCAUSE 9 1 1 else s
    endMode won (enterMode mLIMP s)
  else if resume then
    let m := s.resumeMode
    let s := if s.md = mLIMP then clearLimp s else s
    endMode true (enterMode m s)
  else if c = 0x40 ∧ s.mode.arm = 2 then
    let m := if s.flag pageSYS Off.sys_ARMCFG 0 then mBENCH else mRUN
    (endMode true (enterMode m s)).intSet pageSYS 17
  else s

/-! ### The host watchdog (R336) -/

/-- A boundary is counted. -/
def wdCount (s : State) : State :=
  if s.serving && s.fld pageSYS Off.sys_HOSTWD 0 16 != 0 then { s with mode := { s.mode with wd := s.mode.wd + 1 } } else s

/-- The count reaches its end. -/
def hostWatchdogExpiry (s : State) : State :=
  let t := s.fld pageSYS Off.sys_HOSTWD 0 16
  if s.serving ∧ t ≠ 0 ∧ t ≤ s.mode.wd then fatal 0x06 0 { s with mode := { s.mode with wd := 0 } } else s

def execHostWatchdogExpiry (s : State) : Out := .next (hostWatchdogExpiry s)

/-- A write of WDKICK. -/
def wdkickDo (w : Word) (s : State) : State :=
  if fieldOf w 0 1 = 1 then { s with mode := { s.mode with wd := 0 } } else s

/-! ### The engine clock (R252, R325, R326) -/

def engineClockLoss (s : State) : State :=
  if s.md = mDORMANT ∨ s.mode.clockLost then s else
  let s := fatal 0x02 0 { s with mode := { s.mode with clockLost := true } }
  let s := if s.md = mSAFE then s else enterMode mSAFE (endMode (s.modeCode == 0x47) s)
  s.setFld pagePINMUX1 Off.pinmuxX_FORCESTAT 1 1 1

def execEngineClockLoss (s : State) : Out := .next (engineClockLoss s)

/-- The clock monitor sees the clock again: the ticks go on with the next grid point. -/
def engineClockReturn (s : State) : State :=
  if s.mode.clockLost then regrid { s with mode := { s.mode with clockLost := false } } else s

def execEngineClockReturn (s : State) : Out := .next (engineClockReturn s)

/-! ### Supply and temperature (R3, R343, R344) -/

/-- What the always-on domain holds in registers (R338); the grid of a cold BOOT is the default one (R329). -/
def aonRegs : List Nat :=
  [adr pagePWR Off.pwr_WAKETMR, adr pagePWR Off.pwr_WAKESRC, adr pageTB Off.tb_SLOWCFG, adr pageTB Off.tb_SLOWRATIO]

/-- Below 4.2 V the device is in reset until VBAT has risen above 5.7 V; below 2.5 V the always-on domain loses its contents. -/
def brownOut (mv : Nat) (s : State) : State :=
  if 4200 ≤ mv then s
  else if s.mode.brown then (if mv < 2500 then { s with mode := { s.mode with aon := [] } } else s)
  else
    let aon := if mv < 2500 then [] else aonRegs.map (fun a => (a, s.reg (a / 4096) (a % 4096)))
    let n := bootAt false 0 causeBROWN s
    let m := { n.mode with brown := true, aon := aon }
    { n.setFld pagePWR Off.pwr_SUPSTAT 0 13 (mv / 10) with mode := m, tbStopped := true }

/-- The cold BOOT after a brown-out, with what the always-on domain has kept; TB.PAGE_CFGCRC fits it (R338, R343). -/
def afterBrown (s : State) : State :=
  let n := bootAt false 0 causeBROWN (beforeBrown s)
  let n := s.mode.aon.foldl (fun (n : State) (e : Nat × Word) => n.setReg (e.1 / 4096) (e.1 % 4096) e.2) n
  n.setReg pageTB 0x014 (n.regionCrc pageTB)

def execBrownOut (mv : Nat) (s : State) : Out := .next (brownOut mv s)

/-- VBAT leaves 6.0 to 60 V. -/
def supplyExcursion (mv : Nat) (s : State) : State :=
  if s.md = mDORMANT ∨ s.mode.brown then s
  else
    let high := decide (60000 < mv)
    let low := decide (4200 ≤ mv) && decide (mv < 6000)
    let k := s.mode.exc
    let same := (high && (k == 2 || k == 4)) || (low && (k == 1 || k == 3))
    let s := s.setFld pagePWR Off.pwr_SUPSTAT 0 13 (min (mv / 10) 8191)
    if same || !(high || low) then s
    else
      let i := bit high
      let s := (s.setFld pagePWR Off.pwr_SUPSTAT 16 2 (i + 1)).addSat pagePWR Off.pwr_SUPEVT (8 * i) 8 1
      let s := s.intSet pagePWR (17 + i)
      { s with mode := { s.mode with exc := i + 1, excTb := s.now } }

def execSupplyExcursion (mv : Nat) (s : State) : Out := .next (supplyExcursion mv s)

/-- VBAT is inside 6.0 to 60 V again, or has risen after a brown-out. -/
def supplyReturn (mv : Nat) (s : State) : State :=
  if s.mode.brown then (if 5700 < mv ∧ !s.mode.aonFault then afterBrown s else s)
  else if 6000 ≤ mv ∧ mv ≤ 60000 ∧ s.md ≠ mDORMANT then
    let s := s.setReg pagePWR Off.pwr_SUPSTAT (BitVec.ofNat 32 (mv / 10))
    { s with mode := { s.mode with exc := 0 } }
  else s

def execSupplyReturn (mv : Nat) (s : State) : Out := .next (supplyReturn mv s)

/-- An excursion outlasts its limit: 50 ms low, 400 ms high. -/
def excTimeout (kind cause limit : Nat) (s : State) : State :=
  if s.mode.exc = kind ∧ s.md ≠ mDORMANT then
    let s := s.upTo (s.mode.excTb + limit)
    fatal cause 0 { s with mode := { s.mode with exc := kind + 2 } }
  else s

def execUndervoltageTimeout (s : State) : Out := .next (excTimeout 1 0x03 40000000 s)
def execOvervoltageTimeout (s : State) : Out := .next (excTimeout 2 0x04 320000000 s)

/-- PWR.TEMP: the temperature and its maximum since BOOT, in 1/16 °C. -/
def putTemp (t : Int) (s : State) : State :=
  let m := max (signed 16 (s.fld pagePWR Off.pwr_TEMP 16 16)) t
  s.setReg pagePWR Off.pwr_TEMP (BitVec.ofNat 32 (unsigned 16 t + unsigned 16 m * 2 ^ 16))

/-- The junction stands at a temperature: above TEMPCFG.WARN it sets TEMPWARN. -/
def tempwarn (t : Int) (s : State) : State :=
  if s.md = mDORMANT then s else
  let s := putTemp t s
  if (16 * s.fld pagePWR Off.pwr_TEMPCFG 0 8 : Nat) < t then s.intSet pagePWR 19 else s

def execTempwarn (t : BitVec 16) (s : State) : Out := .next (tempwarn t.toInt s)

/-- The SAFE threshold in °C, by grade. -/
def hotLimit : Nat := if Config.gradeMx then 170 else 155

def junctionOvertemp (t : Int) (s : State) : State :=
  if s.md = mDORMANT then s else
  let s := tempwarn t s
  if (16 * hotLimit : Nat) < t then fatal 0x05 0 s else s

def execJunctionOvertemp (t : BitVec 16) (s : State) : Out := .next (junctionOvertemp t.toInt s)

/-- A whole minute above 150 °C, which a CT-5128-MX counts. -/
def hottimeMinute (s : State) : State := if Config.gradeMx then s.addSat pagePWR Off.pwr_HOTTIME 0 32 1 else s

def execHottimeMinute (s : State) : Out := .next (hottimeMinute s)

/-! ### The rail of the always-on domain (R370) -/

/-- A fault of the always-on domain: a brown-out from which RESET# alone recovers the device (R370, R382). -/
def aonFault (s : State) : State :=
  if s.mode.brown then s
  else
    let n := brownOut 0 s
    { n with mode := { n.mode with aonFault := true } }

def execDomainRailFault (d : Fin 92) (s : State) : Out := .next (if d.val = 91 then aonFault s else railFault d s)

/-! ### TB_PRESET at its boundary (R66) -/

/-- The preset of the TB in the clock after the boundary. -/
def presetAtBoundary (s : State) : State :=
  match s.running.find? (fun r => r.req.page.toNat == pageDBG && r.code == 0x44) with
  | none => s
  | some r =>
    let v := s.reg64 pageDBG Off.dbg_TBPRESET_LO Off.dbg_TBPRESET_HI
    if v ≤ s.tb.toNat then s.endRun r { code := eVALUE }
    else
      let s := presetJump v s
      let s := (List.range 8).foldl (fun s u => if s.active (pageWU u) then searchNow u 0x12 s else s) s
      s.endRun r {}

end Sys2Proof.Machine
end

