-- ==== Sys2Proof/Machine/Boundary.lean ====
section
/-! DEFINITION. The actions of a tick boundary in their order (R15 to R18, R20, R322 to R324). -/

namespace Sys2Proof.Machine

/-- Step 3: the commits, then what ENABLE and DISABLE bring, then Rind's judgement of changed settings and its level change (R20, R39,
R352, R360). Counters that do not run take their committed values at once (R82). -/
def boundaryCommits (s : State) : State :=
  let s := commitsAtBoundary s
  let s := (List.range 10).foldl (fun s p => applyIdleCounters (pagePCHG p) s) s
  levelAtBoundary (judgeSettings (enablesAtBoundary s))

/-- Synthesis starts and stops (R109). -/
def synthesisAtBoundary (s : State) : State :=
  (s.running.filter (fun r => pageKind r.req.page.toNat == some .wu && (r.code == 0x41 || r.code == 0x42))).foldl
    (fun s r => if r.code = 0x41 then synBegin r s else (synEnd (r.req.page.toNat - 0x020) s).endRun r {}) s

/-- STAGGER takes effect (R83). -/
def staggersAtBoundary (s : State) : State :=
  (s.running.filter (fun r => pageKind r.req.page.toNat == some .pchg && r.code == 0x42)).foldl (fun s r => staggerBoundary r s) s

/-- Step 8: each wheel unit publishes its edges and state; the maps for the interval that begins come into force (R20, R119, R317). -/
def publishStep (b : Nat) (s : State) : State :=
  let s := (List.range 8).foldl (fun s u => wheelBoundary u b s) s
  revCeiling (keepCycles (importPublish b (mapsTurn s)))

/-- Step 9: TICKNUM, and the grid of the tick that begins (R16, R17). -/
def gridStep (b : Nat) (s : State) : State :=
  let num := (b % 2 ^ 64 - s.tick.phase) / (2 * s.tick.per)
  let next := s.boundaryAfter b
  let t : TickSt := { bnd := b, next := next, per := s.fld pageTB Off.tb_TICKCFG 0 16, phase := (s.reg pageTB Off.tb_TICKPHASE).toNat,
                      len := (next - b) / 2, guard := false, cutoff := false }
  { s.setReg pageTB Off.tb_TICKNUM (BitVec.ofNat 32 num) with tick := t }

/-- The modules whose period begins at this clock let their pins follow (R251). -/
def pinsAtBoundary (s : State) : State :=
  (List.range 10).foldl (fun s m =>
    if s.active (pagePWM m) && (s.pwm m).cnt == 0 && (s.pwm m).t == s.now then followPwm m s else s) s

/-- What the blocks begin with the tick, after step 9. -/
def tickBegins (s : State) : State :=
  let s := resamplerBoundary (startDrain s)
  let s := (List.range 5).foldl (fun s n => restartAtBoundary n (seqSync n s)) s
  let s := pinsAtBoundary (staggersAtBoundary (synthesisAtBoundary s))
  let s := wakeAll 2 (tickReady (resumeHeld s))
  let s := idxTick (wakeBells s)
  presetAtBoundary (issueRepairs s)

/-- Blanking that the boundary has ended or moved shows to the modules at once (R247). -/
def blanksAtBoundary (old s : State) : State := cutChecks (keepBlanks old s)

/-- The boundary actions of R20. No boundary occurs while the TB or the engine clock stands (R18, R326). -/
def tickBoundary (s : State) : State :=
  if s.tbStopped || s.md == mDORMANT || s.mode.clockLost then s else
  let b := s.tick.next
  let old := s.upTo b
  let s := wdCount (wheyBoundary old)
  let s := boundaryCommits (closeIntake (abandonOverruns s))
  let s := domainsAtBoundary (migrations (switchAtBoundary s))
  let s := modeStep s
  if s.md = mDORMANT then gridStep b s else blanksAtBoundary old (tickBegins (gridStep b (publishStep b s)))

def execTickBoundary (s : State) : Out := .next (tickBoundary s)

end Sys2Proof.Machine
end

