-- ==== Sys2Proof/Machine/Issue.lean ====
section
/-! DEFINITION. How writes and commands reach their pages: the command table, PAGE_CMD, the rejections and effects of a register
write, posted writes and their log, and the ordering of a page (R6, R9, R11, R14, R31, R38, R41 to R47, R52, R58, R305, R308,
R332, R354, R362, R365). -/

namespace Sys2Proof.Machine

/-! ### The commands of the pages -/

/-- A code that a page does not define (R38). -/
def undefinedCmd : Cmd where
  errs _ _ := [(eRESERVED, true)]
  run _ s := s

/-- GROUP_COMMIT written to CMDQ.PAGE_CMD (R53). -/
def groupCmd : Cmd where
  errs _ _ := [(eVALUE, true)]
  run _ s := s

def sysCmd (code : Nat) : Cmd :=
  match code with
  | 0x40 => arm | 0x41 => disarm | 0x42 => enterLimp | 0x43 => resume | 0x44 => halt | 0x45 => sleep | 0x46 => reboot
  | 0x47 => forceSafe | _ => undefinedCmd

def pwrCmd (code : Nat) : Cmd :=
  match code with
  | 0x40 => domOff | 0x41 => domOn | 0x42 => domIsolate | 0x43 => domReset | _ => undefinedCmd

def rindCmd (code : Nat) : Cmd :=
  match code with
  | 0x40 => newNonce | 0x41 => auth | 0x42 => deauth | 0x43 => goTeam | 0x44 => goOpen | 0x45 => sealCmd | 0x46 => unsealCmd
  | 0x47 => chgAuth | 0x48 => readout | _ => undefinedCmd

def dbgCmd (code : Nat) : Cmd :=
  match code with
  | 0x40 => newNonce | 0x41 => auth | 0x42 => deauth | 0x43 => haltReq | 0x44 => tbPreset | _ => undefinedCmd

def wuCmd (code : Nat) : Cmd :=
  match code with
  | 0x40 => resync | 0x41 => synStart | 0x42 => synStop | 0x43 => lrnClear | _ => undefinedCmd

def angCmd (code : Nat) : Cmd :=
  match code with
  | 0x40 => evCancel | 0x41 => evCancelRole (fun s r => s.epoch r) | 0x42 => evFlushWheel | _ => undefinedCmd

def pchgCmd (code : Nat) : Cmd :=
  match code with
  | 0x40 => cmpPush | 0x41 => cmpFlush | 0x42 => stagger | 0x43 => capFlush | _ => undefinedCmd

def pwmCmd (code : Nat) : Cmd :=
  match code with
  | 0x40 => pwmSubstitute | 0x41 => pwmRelease | _ => undefinedCmd

/-- ADC_SUBSTITUTE and ADC_RELEASE are commands of ADC4 (R221). -/
def adcCmd (n code : Nat) : Cmd :=
  match code with
  | 0x40 => calibrate | 0x41 => urgent | 0x42 => seqRestart
  | 0x43 => if n = 4 then adcSubstitute else undefinedCmd
  | 0x44 => if n = 4 then adcRelease else undefinedCmd
  | _ => undefinedCmd

def rsmpCmd (code : Nat) : Cmd :=
  match code with
  | 0x40 => winClose | 0x41 => ringReset | _ => undefinedCmd

def clCmd (code : Nat) : Cmd :=
  match code with
  | 0x40 => taskReady | 0x41 => taskCancel | 0x42 => shiftAbort | _ => undefinedCmd

def pressCmd (code : Nat) : Cmd :=
  match code with
  | 0x40 => load | 0x41 => bankSwitch | 0x42 => mirrorCopy | _ => undefinedCmd

def idxCmd (code : Nat) : Cmd :=
  match code with
  | 0x40 => readmit | 0x41 => retrain | _ => undefinedCmd

/-- The commands that a block defines. -/
def blockCmd (p code : Nat) : Cmd :=
  match pageKind (basePage p) with
  | some .sys => sysCmd code
  | some .pwr => pwrCmd code
  | some .rind => rindCmd code
  | some .dbg => dbgCmd code
  | some .cmdq => if code = 0x40 then groupCmd else undefinedCmd
  | some .iu => if code = 0x40 then tgtReset else undefinedCmd
  | some .wu => wuCmd code
  | some .ang => angCmd code
  | some .pchg => pchgCmd code
  | some .pwm => pwmCmd code
  | some .adc => adcCmd (pageInst p) code
  | some .tdac => if code = 0x40 then tdCompare else undefinedCmd
  | some .rsmp => rsmpCmd code
  | some .cl => clCmd code
  | some .press => pressCmd code
  | some .idx => idxCmd code
  | _ => undefinedCmd

/-- A command on a secondary page is not judged by its block, but for a seal of the page and a code that the block does not define (R31,
R355). -/
def Cmd.onSecondary (c : Cmd) : Cmd := { errs := fun q s => (c.errs q s).filter lastingErr, run := fun _ s => s }

/-- The command that a code names on a page (R31, R38). -/
def cmdFor (p code : Nat) : Cmd :=
  let c := match code with
    | 1 => nop | 2 => resetBlock | 3 => enable | 4 => disable | 5 => commitCmd | 6 => abort | 7 => selftest
    | _ => blockCmd p code
  if isSecondary p && code != 1 then c.onSecondary else c

/-- A command with a further ground of rejection. -/
def Cmd.also (c : Cmd) (e : Nat × Bool) : Cmd := { errs := fun q s => e :: c.errs q s, run := c.run }

/-- A command reaches its page (R41). -/
def issue (code : Nat) (q : Req) (s : State) : Nat × State := offer code (cmdFor q.page.toNat code) q s

/-! ### The rejections of a register write (R14) -/

/-- The access code of a place in a page; none where there is no register that a write could name. -/
def accessAt (a : Nat) : Option Access :=
  let o := a % 4096
  if (pageKind (a / 4096)).isNone ∨ a % 4 ≠ 0 then none
  else if o = 0x014 then some .rwl
  else if o = 0x018 then some .w1c
  else if o = 0x01C then some .rw
  else if o < 0x040 then none
  else (regRow a).map (·.access)

/-- The bits of a register that a field names; SUBSEL.GROUP is reserved on ADC0 to ADC3 (R219). -/
def namedBits (a : Nat) : Nat :=
  let o := a % 4096
  if o = 0x014 then 0xFFFFFFFF
  else if o = 0x018 ∨ o = 0x01C then intBits (a / 4096)
  else if o = Off.adc_SUBSEL ∧ pageKind (a / 4096) = some .adc ∧ a / 4096 ≠ pageADC 4 then 0
  else match regRow a with | some r => r.named | none => 0

/-- A shadowed register (R52). -/
def isShadowed (a : Nat) : Bool := match regRow a with | some r => r.shadowed | none => false

/-- Every ground on which a write of a register is rejected. -/
def writeErrs (port : Port) (a : Nat) (w : Word) (len : Nat) (s : State) : List (Nat × Bool) :=
  let p := a / 4096
  let o := a % 4096
  let acc := accessAt a
  let cfg := decide (0x040 ≤ o) && decide (o < 0x800)
  [ (ePOWER, (pageKind p).isSome && !s.pageOn p),
    (eACCESS, len != 4 || acc.isNone || acc == some .ro),
    (eSEALED, cfg && s.locked p),
    (eSTATE, s.md == mBOOT && p != pageHOSTIF),
    (eSTATE, acc == some .rwl && s.md != mCONFIGURE),
    (eRESERVED, (w &&& ~~~ BitVec.ofNat 32 (namedBits a)) != 0),
    (eVALUE, !legalWord p o w s),
    (eBUSY, cfg && (s.mode.arm == 1 || s.runs (basePage p) 7 || s.sealing p)),
    (eBUSY, isShadowed a && (s.page (basePage p)).prepared) ] ++ regErrs port p o w s

/-! ### The effect of a register write -/

/-- A write is held in the shadow of its page (R52). -/
def State.putShadow (s : State) (a : Nat) (w : Word) : State :=
  { s with shadow := s.shadow.filter (fun (e : Nat × Word) => e.1 != a) ++ [(a, w)] }

/-- What each access code does with a written value (R9). -/
def plainWrite (a : Nat) (w : Word) (s : State) : State :=
  let p := a / 4096
  let o := a % 4096
  match regRow a with
  | none => s
  | some r =>
    let m := BitVec.ofNat 32 r.writable
    match r.access with
    | .rw | .rwl => s.setReg p o ((s.reg p o &&& ~~~ m) ||| (w &&& m))
    | .w1c => s.setReg p o (s.reg p o &&& ~~~ (w &&& m))
    | .w1s => s.setReg p o (s.reg p o ||| (w &&& m))
    | .ro | .wo | .rc => s

/-- A write to the interrupt unit (R264 to R276). -/
def writeIu (p o : Nat) (w : Word) (s : State) : State :=
  let plain := plainWrite (adr p o) w s
  if hits o (Off.iu_PEND 0) 4 16 then pendDo p o w s
  else if hits o (Off.iu_MASK 0) 4 16 || hits o (Off.iu_ROUTE 0) 4 64 then plain.settle
  else if p ≠ pageIU then plain
  else if hits o (Off.iu_HTCFG 0) 32 4 then settleIdle (hitIdx o (Off.iu_HTCFG 0) 32) plain.settle
  else if hits o (Off.iu_EOI 0) 32 4 then eoiDo (hitIdx o (Off.iu_EOI 0) 32) s
  else if hits o (Off.iu_TIDLE 0) 32 4 then (if fieldOf w 0 1 = 1 then tidleDo (hitIdx o (Off.iu_TIDLE 0) 32) s else s)
  else if hits o (Off.iu_QHEAD 0) 32 4 then qheadDo (hitIdx o (Off.iu_QHEAD 0) 32) w.toNat s
  else if o = Off.iu_RAISE then countBell (fieldOf w 0 12) s
  else if o = Off.iu_CNTDEC then cntdecDo w.toNat s
  else if o = Off.iu_WAKESTAT then { s with iu := { s.iu with latch := s.iu.latch &&& ~~~ w.setWidth 16 } }
  else plain

/-- PWELPOP discards the head entry (R47). -/
def pwelPop (w : Word) (s : State) : State :=
  if fieldOf w 0 1 = 1 then { s with host := { s.host with pwel := s.host.pwel.drop 1 } } else s

/-- What a write does beside storing its value, by kind of page; `seq` numbers the write that reaches CRTAIL (R50). -/
def blockWrite (port : Port) (seq p o : Nat) (w : Word) (s : State) : State :=
  let plain := plainWrite (adr p o) w s
  let i := pageInst p
  match pageKind p with
  | some .sys => if o = Off.sys_WDKICK then wdkickDo w s else plain
  | some .rind =>
    if hits o (Off.rind_TEAMKEY 0) 4 4 then teamKeyDo (hitIdx o (Off.rind_TEAMKEY 0) 4) w s
    else if hits o (Off.rind_SCRKEY 0) 4 16 then scrKeyDo (hitIdx o (Off.rind_SCRKEY 0) 4) w s else plain
  | some .hostif => if o = Off.hostif_PWELPOP then pwelPop w s else plain
  | some .cmdq =>
    if o = Off.cmdq_CRTAIL then (if s.reg p o = w then plain
      else { plain with ring := { plain.ring with pubs := plain.ring.pubs ++ [(fieldOf w 0 12, seq)] } })
    else plain
  | some .tb => if hits o (Off.tb_MATCH_HI 0) 8 4 then matchArm (hitIdx o (Off.tb_MATCH_HI 0) 8) w s else plain
  | some .iu => writeIu p o w s
  | some .wu =>
    if o = Off.wu_QPOSSET then qpossetDo i w.toNat s
    else if o = Off.wu_WCFG then wcfgDo i (s.reg p o) w plain else plain
  | some .ang =>
    if hits o Off.ang_EVW0 4 3 then
      { s with cal := { s.cal with evw := s.cal.evw.set 0 (3 * portNum port + hitIdx o Off.ang_EVW0 4) w } }
    else if o = Off.ang_EVW3 then hostPost (portNum port) w s else plain
  | some .pwm => if o = Off.pwm_BLKCFG ∨ hits o (Off.pwm_TRIPSEL 0) 4 4 then cutCheck i plain else plain
  | some .trip =>
    if hits o (Off.trip_TRIPCFG 0) 4 16 then cutChecks (tripcfgDo (hitIdx o (Off.trip_TRIPCFG 0) 4) plain) else plain
  | some .pinmux => if hits o (Off.pinmux_PINSEL 0) 4 160 then plain.dropFollow.dropPwmPins else plain
  | some .adc => if o = Off.adc_REFCFG then refDo i w s else plain
  | some .tdac => if o = Off.tdac_TDCFG then tdcfgDo w s else plain
  | some .cl => if o = Off.cl_MCLOGPOP then mclogPop i w s else if hits o (Off.cl_EVSEL 0) 4 12 then plain.wakeLevels else plain
  | some .whey =>
    (match wheyRingOf o with
      | some r => ringIndexMove s r w.toNat
      | none => if o = Off.whey_CFG then State.consumersChanged s plain else plain)
  | some .eth => if o = Off.eth_MACCFG then State.consumersChanged s plain else plain
  | some .dbg => if o = Off.dbg_DBGCFG then State.regrant s plain else plain
  | _ => plain

/-- The effect of a write that is not rejected. -/
def writeEffect (port : Port) (seq a : Nat) (w : Word) (s : State) : State :=
  let p := a / 4096
  let o := a % 4096
  if o = 0x014 then s.setReg p o w
  else if o = 0x018 then s.ringRise p (s.setReg p o (s.reg p o &&& ~~~ w))
  else if o = 0x01C then s.ringRise p (s.setReg p o w)
  else if isShadowed a then s.putShadow a w
  else blockWrite port seq p o w s

/-- A refused write to a limited-change register is logged with the value that was attempted (R361, R362). -/
def logRefusedWrite (p o : Nat) (w : Word) (code : Nat) (s : State) : State :=
  if p ≠ pageRIND then s else
  match settingOf o with
  | none => s
  | some k =>
    if code ≠ eBUDGET ∧ code ≠ eSEALED ∧ code ≠ eAUTH ∧ code ≠ eVALUE then s else s.logRefused k code (s.setting k) ((s.setReg p o w).setting k)

/-- A write at its page: its code, OK if it commits, and the state after it (R14, R41, R43). `seq` is its write sequence number. -/
def writeAt (port : Port) (seq a : Nat) (w : Word) (len : Nat) (s : State) : Nat × State :=
  let p := a / 4096
  let o := a % 4096
  if o = 0x008 ∧ len = 4 ∧ (pageKind p).isSome then
    let code := fieldOf w 0 8
    let q : Req := { src := .port port, page := BitVec.ofNat 12 p, tag := BitVec.ofNat 16 (fieldOf w 16 16) }
    offer code ((cmdFor p code).also (eRESERVED, fieldOf w 8 8 != 0)) q s
  else
    let e := firstErr (writeErrs port a w len s)
    if e = eOK then (eOK, writeEffect port seq a w s)
    else (e, (logRefusedWrite p o w e s).markReject p o e 0 (if port = .pcie then seq % 65536 else 0))

/-! ### Posted writes (R44 to R46) -/

/-- A failed posted write is logged, or counted as lost, and source 0x003 is raised. -/
def logFailed (e : Posted) (code : Nat) (s : State) : State :=
  let s := if s.host.pwel.length < 64 then
      { s with host := { s.host with pwel := s.host.pwel ++ [⟨e.seq, code, e.addr, e.len, e.data, s.now⟩] } }
    else s.addSat pageHOSTIF Off.hostif_PWELLOST 0 16 1
  s.bell 0x003

/-- WSEQ.DONE: every write numbered up to it has committed or failed. -/
def State.settleSeq (s : State) : State :=
  { s with host := { s.host with dn := match s.host.posted with
    | [] => s.host.acc
    | e :: _ => (e.seq + 65535) % 65536 } }

/-- A posted write reaches its page, where `act` is what it does there: it commits or fails. -/
def finishPosted (e : Posted) (act : State → Nat × State) (s : State) : State :=
  let s := { s with host := { s.host with posted := s.host.posted.filter (fun x => x.seq != e.seq) } }
  let r := act s
  settleNops ((if r.1 = eOK then r.2 else logFailed e r.1 r.2).settleSeq)

def commitPosted (e : Posted) (s : State) : State := finishPosted e (writeAt .pcie e.seq e.addr e.data e.len) s

/-- The posted writes of a list to a page commit, in the order of acceptance (R45). -/
def commitEarlier (l : List Posted) (p : Nat) (s : State) : State :=
  (l.filter (fun e => e.addr / 4096 == p)).foldl (fun s e => commitPosted e s) s

/-- Every posted write to a page commits. -/
def State.settlePage (s : State) (p : Nat) : State := commitEarlier s.host.posted p s

/-- The number that the next write takes. -/
def State.postSeq (s : State) : Nat := (s.host.acc + 1) % 65536

/-- A PCIe write to BAR0 is accepted and numbered; while 256 wait, the device withholds the credit (R29, R44). -/
def postedAccept (a : Nat) (w : Word) (len : Nat) (s : State) : State :=
  if !s.pcieOpen then s.pcieClosed
  else if 256 ≤ s.host.posted.length then s
  else
    let n := s.postSeq
    { s with host := { s.host with acc := n, posted := s.host.posted ++ [Posted.mk n a w len] } }.settleSeq

def execPostedWriteAccept (addr : BitVec 24) (data : Word) (len : Nat) (s : State) : Out :=
  .next (postedAccept addr.toNat data len s)

/-! ### Writes through the ports -/

/-- A PCIe write commits: one that has been accepted, or one that is accepted in this clock. The earlier writes to its page come
first (R45). While 256 writes wait, the device withholds the credit for another (R29). -/
def pcieWrite (a : Nat) (w : Word) (len : Nat) (act : Nat → State → Nat × State) (s : State) : State :=
  match s.host.posted.find? (fun e => e.addr == a && e.data == w && e.len == len) with
  | some e =>
    let s := commitEarlier (s.host.posted.takeWhile (fun x => x.seq != e.seq)) (a / 4096) s
    finishPosted e (act e.seq) s
  | none =>
    if !s.pcieOpen then s.pcieClosed else
    if 256 ≤ s.host.posted.length then s else
    let s := s.settlePage (a / 4096)
    let n := s.postSeq
    finishPosted ⟨n, a, w, len⟩ (act n) { s with host := { s.host with acc := n } }

/-- The SPI target takes the frame: it is enabled and the reported frame has finished (R305, R308). -/
def State.spiTakes (s : State) : Bool := s.flag pageHOSTIF Off.hostif_HCFG 0 && !s.host.spi.pend

/-- A frame that is turned away: ignored while the target is off, else counted in SPIERR.BUSY (R305, R308). -/
def spiTurnAway (s : State) : State :=
  if s.flag pageHOSTIF Off.hostif_HCFG 0 then (s.addSat pageHOSTIF Off.hostif_SPIERR 16 8 1).intSet pageHOSTIF 17 else s

/-- The frame that the next response reports (R306). -/
def State.report (s : State) (op seq code : Nat) (pend : Bool) (data : Word) : State :=
  { s with host := { s.host with spi := { s.host.spi with op := op, seq := seq, code := code, pend := pend, data := data } } }

/-- An SPI write: its outcome goes into CODE (R308). -/
def spiWriteNow (seq a : Nat) (act : Nat → State → Nat × State) (s : State) : State :=
  if s.spiTakes then
    let r := act s.host.acc (s.settlePage (a / 4096))
    r.2.report 2 seq r.1 false 0
  else spiTurnAway s

/-- The registers of the DBG page that the TAP writes without FULL (R365). -/
def tapOpen (a : Nat) : Bool :=
  a == adr pageDBG Off.dbg_RESP_LO || a == adr pageDBG Off.dbg_RESP_HI || a == adr pageDBG 0x008

/-- The data register of a DBGACC access that has ended: OP 1 reads and 2 writes, SPACE, address, DATA, CODE; PEND is 0 (R365). -/
def accWord (op : Nat) (bar2 : Bool) (a code : Nat) (w : Word) : BitVec 72 :=
  BitVec.ofNat 72 (op + bit bar2 * 4 + a / 4 % 2 ^ 26 * 2 ^ 3 + w.toNat * 2 ^ 29 + code % 256 * 2 ^ 61)

/-- A DBGACC access ends: its scan has shifted out the access before it (R365). -/
def State.tapDone (s : State) (op : Nat) (bar2 : Bool) (a code : Nat) (w : Word) : State :=
  { s with rind := { s.rind with dr := s.rind.acc, acc := accWord op bar2 a code w } }

/-- A DBGACC access that is not permitted (R365). The DATA of a read that is not made stay open. -/
def tapDenied (op : Nat) (bar2 : Bool) (a : Nat) (w : Word) (s : State) : State :=
  (s.addSat pageDBG Off.dbg_TAPREFUSE 0 16 1).tapDone op bar2 a eACCESS w

/-- The TAP is open for DBGACC: its instruction is selected, which ends a drive of the pins (R365, R366). -/
def State.tapSelect (s : State) : State := { s with rind := { s.rind with ir := 0x20, scan := 0 } }

/-- The port of the TAP answers (R366). -/
def State.tapAnswers (s : State) : Bool := s.permitted != 0 && s.pageOn pageDBG

/-- A write through the TAP. -/
def tapWrite (a : Nat) (w : Word) (act : Nat → State → Nat × State) (s : State) : State :=
  if !s.tapAnswers then s
  else
    let s := s.tapSelect
    if (s.granted = 2 ∨ tapOpen a) ∧ a ≠ adr pageDBG Off.dbg_DBGCFG then
      let r := act s.host.acc (s.settlePage (a / 4096))
      r.2.tapDone 2 false a r.1 w
    else tapDenied 2 false a w s

/-- A write that arrives through a port, where `act` is what it does at its page. -/
def throughPort (port : Port) (a : Nat) (w : Word) (len : Nat) (act : Nat → State → Nat × State) (s : State) : State :=
  match port with
  | .pcie => if s.answers then pcieWrite a w len act s else s
  | .spi => if s.answers then spiWriteNow s.host.spi.seq a act s else s
  | .tap => tapWrite a w act s

/-- The W1C bits that hardware set in the clock in which a write cleared them stay set, those that had been set before too (R10): `old`
is the state before the write. -/
def setWins (a : Nat) (old s : State) : State :=
  let p := a / 4096
  let o := a % 4096
  if accessAt a = some .w1c then s.setReg p o (s.reg p o ||| Store.get 0 old.fresh a) else s

/-- A register write through a port (R43). -/
def hostWrite (port : Port) (a : Nat) (w : Word) (len : Nat) (s : State) : State :=
  throughPort port a w len (fun seq s => writeAt port seq a w len s) s

/-- A 32-bit register write through a port. -/
def portWrite (port : Port) (p o : Nat) (w : Word) (s : State) : State := hostWrite port (adr p o) w 4 s

/-! ### Commands -/

/-- A command is issued: by a write of PAGE_CMD through a port, by the command ring or by the device itself (R41, R371). `kinds`
are the blocks that have the command; a page of another block does not define it. -/
def issueRow (kinds : List Kind) (code : Nat) (q : Req) (s : State) : State :=
  let p := q.page.toNat
  let known := kinds.isEmpty || kinds.any (fun k => pageKind (basePage p) == some k)
  let c := if known then cmdFor p code else undefinedCmd
  match q.src with
  | .port port =>
    throughPort port (adr p 0x008) (BitVec.ofNat 32 (code + q.tag.toNat * 2 ^ 16)) 4 (fun _ s => offer code c q s) s
  | _ => (offer code c q s).2

end Sys2Proof.Machine
end

