-- ==== Sys2Proof/Machine/Rows.lean ====
section
/-! DEFINITION. The meanings of the rows that are a command of a page, a write of one register or a read: each is the access or
the issue that its rule describes (R9, R38, R41, R43 to R48, R63, R64, R79, R106, R112, R115, R123, R133, R190, R191, R194, R208, R221,
R239, R254, R261, R264 to R278, R286, R320, R323, R336, R341, R347, R349, R368, R369). -/

namespace Sys2Proof.Machine

/-! ### Registers -/

def registerWrite (w : HostWrite) (s : State) : State :=
  let t := hostWrite w.port w.addr.toNat w.data w.len s
  if w.meets then setWins w.addr.toNat s t else t

def execRegisterWrite (w : HostWrite) (s : State) : Out := .next (registerWrite w s)
def execPwelpop (port : Port) (data : Word) (s : State) : Out := .next (portWrite port pageHOSTIF Off.hostif_PWELPOP data s)
def execCrtailWrite (port : Port) (data : Word) (s : State) : Out := .next (portWrite port pageCMDQ Off.cmdq_CRTAIL data s)
def execCptailWrite (port : Port) (data : Word) (s : State) : Out := .next (portWrite port pageCMDQ Off.cmdq_CPTAIL data s)
def execMatchArm (port : Port) (n : Fin 4) (data : Word) (s : State) : Out :=
  .next (portWrite port pageTB (Off.tb_MATCH_HI n.val) data s)
def execQpossetWrite (port : Port) (u : Fin 8) (data : Word) (s : State) : Out :=
  .next (portWrite port (pageWU u.val) Off.wu_QPOSSET data s)
def execWcfgWrite (port : Port) (u : Fin 8) (data : Word) (s : State) : Out :=
  .next (portWrite port (pageWU u.val) Off.wu_WCFG data s)
def execEvw3Write (port : Port) (data : Word) (s : State) : Out := .next (portWrite port pageANG Off.ang_EVW3 data s)
def execMclogpop (port : Port) (c : Fin 16) (data : Word) (s : State) : Out :=
  .next (portWrite port (pageCL c.val) Off.cl_MCLOGPOP data s)
def execRefcfgWrite (port : Port) (n : Fin 5) (data : Word) (s : State) : Out :=
  .next (portWrite port (pageADC n.val) Off.adc_REFCFG data s)
def execEoiWrite (port : Port) (n : Fin 4) (data : Word) (s : State) : Out :=
  .next (portWrite port pageIU (Off.iu_EOI n.val) data s)
def execTidleWrite (port : Port) (n : Fin 4) (data : Word) (s : State) : Out :=
  .next (portWrite port pageIU (Off.iu_TIDLE n.val) data s)
def execRaise (port : Port) (data : Word) (s : State) : Out := .next (portWrite port pageIU Off.iu_RAISE data s)
def execCntdec (port : Port) (data : Word) (s : State) : Out := .next (portWrite port pageIU Off.iu_CNTDEC data s)
def execQheadWrite (port : Port) (n : Fin 4) (data : Word) (s : State) : Out :=
  .next (portWrite port pageIU (Off.iu_QHEAD n.val) data s)
def execRouteWrite (port : Port) (page : Fin 8) (w : Fin 64) (data : Word) (s : State) : Out :=
  .next (portWrite port (pageIU + page.val) (Off.iu_ROUTE w.val) data s)
def execWdkick (port : Port) (data : Word) (s : State) : Out := .next (portWrite port pageSYS Off.sys_WDKICK data s)

/-- The read index of a ring. -/
def readIndexOff : WheyRing → Nat
  | .alarm => Off.whey_ARP
  | .loss => Off.whey_SRP
  | .general => Off.whey_GRP

def execWheyReadIndexWrite (port : Port) (ring : WheyRing) (data : Word) (s : State) : Out :=
  .next (portWrite port pageWHEY (readIndexOff ring) data s)

/-- A DBGACC read that is not permitted (R365). -/
def tapDenyRead (bar2 : Bool) (a : Nat) (s : State) : State :=
  let (w, s) := s.drawn
  tapDenied 1 bar2 a w s

/-- A 32-bit read through a port: the writes to the page that were accepted before it come first (R45, R308, R365). -/
def hostRead (port : Port) (a : Nat) (meets : Bool) (s : State) : State :=
  match port with
  | .pcie => if s.pcieOpen then readReg .pcie a meets (s.settlePage (a / 4096)) else s.pcieClosed
  | .spi =>
    if !s.answers then s
    else if s.spiTakes then
      let t := readReg .spi a meets (s.settlePage (a / 4096))
      t.report 1 s.host.spi.seq eOK false t.host.rdSpi
    else spiTurnAway s
  | .tap =>
    if !s.tapAnswers then s
    else
      let s := s.tapSelect
      if 1 ≤ s.granted ∨ a / 4096 = pageDBG then
        let t := readReg .tap a meets (s.settlePage (a / 4096))
        t.tapDone 1 false a eOK t.host.rdTap
      else tapDenyRead false a s

def execRcRead (port : Port) (addr : BitVec 24) (meets : Bool) (s : State) : Out := .next (hostRead port addr.toNat meets s)
def execTbNowLoRead (port : Port) (s : State) : Out := .next (hostRead port (adr pageTB Off.tb_NOW_LO) false s)
def execCappopRead (port : Port) (c : Fin 160) (s : State) : Out :=
  .next (hostRead port (adr (chPage c.val) (Off.pchg_CAPPOP (c.val % 16))) false s)

/-- A BAR0 read of a width other than 32 bits: zero data, and E_ACCESS in PAGE_RESULT (R6, R35). SPI and TAP accesses are always of
32 bits. -/
def oddRead (port : Port) (a len : Nat) (s : State) : State :=
  if port ≠ .pcie then s
  else if !s.pcieOpen then s.pcieClosed
  else if len = 4 ∧ a % 4 = 0 then hostRead .pcie a false s
  else
    let p := a / 4096
    let s := (s.settlePage p).putRead .pcie 0
    if (pageKind p).isSome ∧ s.pageOn p then s.setReg p 0x00C (BitVec.ofNat 32 eACCESS) else s

def execNon32BitRead (port : Port) (addr : BitVec 24) (len : Nat) (s : State) : Out := .next (oddRead port addr.toNat len s)

/-! ### Common commands (R38) -/

def execNop (q : Req) (s : State) : Out := .next (issueRow [] 1 q s)
def execResetBlock (q : Req) (s : State) : Out := .next (issueRow [] 2 q s)
def execEnable (q : Req) (s : State) : Out := .next (issueRow [] 3 q s)
def execDisable (q : Req) (s : State) : Out := .next (issueRow [] 4 q s)
def execCommit (q : Req) (s : State) : Out := .next (issueRow [] 5 q s)
def execAbort (q : Req) (s : State) : Out := .next (issueRow [] 6 q s)
def execSelftest (q : Req) (s : State) : Out := .next (issueRow [] 7 q s)

/-! ### Modes (R323, R347) -/

def execArm (q : Req) (s : State) : Out := .next (issueRow [.sys] 0x40 q s)
def execDisarm (q : Req) (s : State) : Out := .next (issueRow [.sys] 0x41 q s)
def execEnterLimp (q : Req) (s : State) : Out := .next (issueRow [.sys] 0x42 q s)
def execResume (q : Req) (s : State) : Out := .next (issueRow [.sys] 0x43 q s)
def execHalt (q : Req) (s : State) : Out := .next (issueRow [.sys] 0x44 q s)
def execSleep (q : Req) (s : State) : Out := .next (issueRow [.sys] 0x45 q s)
def execReboot (q : Req) (s : State) : Out := .next (issueRow [.sys] 0x46 q s)
def execForceSafe (q : Req) (s : State) : Out := .next (issueRow [.sys] 0x47 q s)
def execHaltReq (q : Req) (s : State) : Out := .next (issueRow [.dbg] 0x43 q s)
def execTbPreset (q : Req) (s : State) : Out := .next (issueRow [.dbg] 0x44 q s)

/-! ### Power domains (R341, R349) -/

def execDomOff (q : Req) (s : State) : Out := .next (issueRow [.pwr] 0x40 q s)
def execDomOn (q : Req) (s : State) : Out := .next (issueRow [.pwr] 0x41 q s)
def execDomIsolate (q : Req) (s : State) : Out := .next (issueRow [.pwr] 0x42 q s)
def execDomReset (q : Req) (s : State) : Out := .next (issueRow [.pwr] 0x43 q s)

/-! ### Rind and debug (R368, R369) -/

def execNewNonce (q : Req) (s : State) : Out := .next (issueRow [.rind, .dbg] 0x40 q s)
def execAuth (q : Req) (s : State) : Out := .next (issueRow [.rind, .dbg] 0x41 q s)
def execDeauth (q : Req) (s : State) : Out := .next (issueRow [.rind, .dbg] 0x42 q s)
def execGoTeam (q : Req) (s : State) : Out := .next (issueRow [.rind] 0x43 q s)
def execGoOpen (q : Req) (s : State) : Out := .next (issueRow [.rind] 0x44 q s)
def execSeal (q : Req) (s : State) : Out := .next (issueRow [.rind] 0x45 q s)
def execUnseal (q : Req) (s : State) : Out := .next (issueRow [.rind] 0x46 q s)
def execChgAuth (q : Req) (s : State) : Out := .next (issueRow [.rind] 0x47 q s)
def execReadout (q : Req) (s : State) : Out := .next (issueRow [.rind] 0x48 q s)

/-! ### The other blocks -/

def execTgtReset (q : Req) (s : State) : Out := .next (issueRow [.iu] 0x40 q s)
def execResync (q : Req) (s : State) : Out := .next (issueRow [.wu] 0x40 q s)
def execSynStart (q : Req) (s : State) : Out := .next (issueRow [.wu] 0x41 q s)
def execSynStop (q : Req) (s : State) : Out := .next (issueRow [.wu] 0x42 q s)
def execLrnClear (q : Req) (s : State) : Out := .next (issueRow [.wu] 0x43 q s)
def execEvCancel (q : Req) (s : State) : Out := .next (issueRow [.ang] 0x40 q s)
def execEvCancelRole (q : Req) (s : State) : Out := .next (issueRow [.ang] 0x41 q s)
def execEvFlushWheel (q : Req) (s : State) : Out := .next (issueRow [.ang] 0x42 q s)
def execCmpPush (q : Req) (s : State) : Out := .next (issueRow [.pchg] 0x40 q s)
def execCmpFlush (q : Req) (s : State) : Out := .next (issueRow [.pchg] 0x41 q s)
def execStagger (q : Req) (s : State) : Out := .next (issueRow [.pchg] 0x42 q s)
def execCapFlush (q : Req) (s : State) : Out := .next (issueRow [.pchg] 0x43 q s)
def execPwmSubstitute (q : Req) (s : State) : Out := .next (issueRow [.pwm] 0x40 q s)
def execPwmRelease (q : Req) (s : State) : Out := .next (issueRow [.pwm] 0x41 q s)
def execCalibrate (q : Req) (s : State) : Out := .next (issueRow [.adc] 0x40 q s)
def execUrgent (q : Req) (s : State) : Out := .next (issueRow [.adc] 0x41 q s)
def execSeqRestart (q : Req) (s : State) : Out := .next (issueRow [.adc] 0x42 q s)
def execAdcSubstitute (q : Req) (s : State) : Out := .next (issueRow [.adc] 0x43 q s)
def execAdcRelease (q : Req) (s : State) : Out := .next (issueRow [.adc] 0x44 q s)
def execTdCompare (q : Req) (s : State) : Out := .next (issueRow [.tdac] 0x40 q s)
def execWinClose (q : Req) (s : State) : Out := .next (issueRow [.rsmp] 0x40 q s)
def execRingReset (q : Req) (s : State) : Out := .next (issueRow [.rsmp] 0x41 q s)
def execTaskReady (q : Req) (s : State) : Out := .next (issueRow [.cl] 0x40 q s)
def execTaskCancel (q : Req) (s : State) : Out := .next (issueRow [.cl] 0x41 q s)
def execShiftAbort (q : Req) (s : State) : Out := .next (issueRow [.cl] 0x42 q s)
def execLoad (q : Req) (s : State) : Out := .next (issueRow [.press] 0x40 q s)
def execBankSwitch (q : Req) (s : State) : Out := .next (issueRow [.press] 0x41 q s)
def execMirrorCopy (q : Req) (s : State) : Out := .next (issueRow [.press] 0x42 q s)
def execReadmit (q : Req) (s : State) : Out := .next (issueRow [.idx] 0x40 q s)
def execRetrain (q : Req) (s : State) : Out := .next (issueRow [.idx] 0x41 q s)

end Sys2Proof.Machine
end

