-- ==== Sys2Proof/Machine/HostLink.lean ====
section
/-! DEFINITION. The host links: the command ring's fetch, PCIe, the BAR2 window, SPI frames and DBGACC (R48 to R51, R299 to R309,
R365). -/

namespace Sys2Proof.Machine

/-! ### The command ring (R48 to R50) -/

/-- A posted write that was accepted before the CRTAIL write that published the next entry still waits (R50). -/
def State.tailWaits (s : State) : Bool :=
  match s.ring.pubs with
  | [] => false
  | n :: _ => s.host.posted.any (fun e => decide ((n.2 + 65536 - e.seq) % 65536 < 32768))

/-- CRHEAD moves past an entry; the CRTAIL writes whose last entry it was have served. -/
def State.headOn (s : State) : State :=
  let h := (s.fld pageCMDQ Off.cmdq_CRHEAD 0 12 + 1) % s.crSize
  let s := s.setFld pageCMDQ Off.cmdq_CRHEAD 0 12 h
  { s with ring := { s.ring with pubs := s.ring.pubs.dropWhile (fun n => n.1 == h) } }

/-- CMDQ fetches its next entry. -/
def State.canFetch (s : State) : Bool :=
  s.active pageCMDQ && s.fld pageCMDQ Off.cmdq_CRHEAD 0 12 != s.fld pageCMDQ Off.cmdq_CRTAIL 0 12 && !s.tailWaits && s.slotFree &&
    s.cplWait == 0

/-- An entry completes without being executed (R38, R43, R50). -/
def rejectEntry (code : Nat) (q : Req) (part : Bool) (err : Nat) (s : State) : State :=
  let s := s.markReject q.page.toNat 0x008 err code q.tag.toNat
  if s.slotFree then s.record code q part { code := err } else s

/-- A fetched entry is executed, or completes at once with an error (R14, R38, R49, R50, R53). -/
def takeEntry (e : Entry) (s : State) : State :=
  let code := fieldOf e.w0 0 8
  let part := fieldOf e.w0 8 1 == 1
  let p := fieldOf e.w1 0 12
  let q : Req := { src := .ring, page := BitVec.ofNat 12 p, tag := BitVec.ofNat 16 (fieldOf e.w0 16 16), args := e.args }
  let odd := fieldOf e.w0 9 7 != 0 || fieldOf e.w1 12 20 != 0
  if p = pageCMDQ ∧ code = 0x40 then (if odd then rejectEntry code q part eRESERVED s else groupCommit q part s)
  else
    let c := (cmdFor p code).also (eRESERVED, odd || part)
    let err := firstErr (c.grounds code q s)
    if err = eOK then (offer code c q s).2 else rejectEntry code q part err s

/-- The next entry of the command ring is fetched. -/
def commandFetch (e : Entry) (s : State) : State :=
  if !(s.canFetch && s.host.linkUp) then s
  else takeEntry e s.headOn

def execCommandFetch (e : Entry) (s : State) : Out := .next (commandFetch e s)

/-! ### Reads of host memory (R303) -/

/-- The code of a failed read. -/
def dmaCode : DmaResult → Nat
  | .ok => eOK
  | .timeout => eTIMEOUT
  | .refused => eACCESS

/-- A command of Rind that reads host memory. -/
def rindReads (r : Running) : Bool := r.req.page.toNat == pageRIND && (r.code == 0x45 || r.code == 0x46 || r.code == 0x47)

/-- A device read of host memory ends. A failed one sets DMAERR, and its block's request ends with it; the data of a good one come
with the row that takes them. -/
def dmaReadCompletion (p : Nat) (r : DmaResult) (s : State) : State :=
  if r = .ok then s
  else
  let s := if r = .timeout ∧ s.host.linkUp then
      { s with host := { s.host with cfg := { s.host.cfg with aer := s.host.cfg.aer ||| 0x00004000 } } }
    else s
  match pageKind p with
  | some .press => if s.runs pagePRESS 0x40 then loadComplete { dma := r, bytes := [], words := [] } s else s
  | some .cmdq => if s.canFetch then retire pageCMDQ stFAULT (s.dmaFail pageCMDQ (dmaCode r)) else s
  | some .rind =>
    (match s.running.find? rindReads with
      | some x => if s.rind.level.isSome || !s.dmaReady then s else (s.dmaFail pageRIND (dmaCode r)).endRun x { code := dmaCode r }
      | none => s)
  | _ => s

def execDmaReadCompletion (page : BitVec 12) (r : DmaResult) (s : State) : Out := .next (dmaReadCompletion page.toNat r s)

/-! ### The PCIe link (R299, R300, R303) -/

/-- PERST#, a hot reset or the loss of the link: the PCIe interface and its configuration space, and nothing else. -/
def execPcieReset (s : State) : Out := .next (linkDown s)

/-- The link has trained, with the configuration space at its reset values; in DORMANT the domain is off. -/
def pcieLinkUp (speed width : Nat) (s : State) : State :=
  if s.md = mDORMANT then s
  else
    let s := { s with host := { s.host with linkUp := true } }
    putPcieCfg s.host.cfg (s.setReg pageHOSTIF Off.hostif_PCIESTAT (BitVec.ofNat 32 (1 + speed * 2 + width * 2 ^ 4)))

def execPcieLinkUp (speed : BitVec 3) (width : BitVec 4) (s : State) : Out := .next (pcieLinkUp speed.toNat width.toNat s)

/-- What a configuration-space write leaves: BAR0 spans 16 MiB, BAR2 64 MiB (R299). -/
def cfgAfter (w : CfgWrite) (c : PcieCfg) : PcieCfg :=
  match w with
  | .command m b => { c with memSpace := m, busMaster := b }
  | .bar0 b => { c with bar0 := b &&& 0xFF000000 }
  | .bar2 b => { c with bar2 := b &&& 0xFFFFFFFFFC000000 }
  | .msixControl e m => { c with msixEn := e, fmask := m }
  | .power d => { c with d3 := d }
  | .aerStatus w => { c with aer := c.aer &&& ~~~w }
  | .aerMask w => { c with aerMask := w }
  | .aerSeverity w => { c with aerSev := w }

/-- A configuration-space write, which needs a link; what waited for it goes out: the writes to host memory, then the messages
(R299, R303, R304, R309). -/
def configWrite (w : CfgWrite) (s : State) : State :=
  if s.host.linkUp then msixReleaseAll (putPcieCfg (cfgAfter w s.host.cfg) s).payHost else s

def execBusMasterEnableWrite (w : CfgWrite) (s : State) : Out := .next (configWrite w s)

/-- The negotiated link of PCIESTAT: speed and width. -/
def State.linkWord (s : State) : Nat :=
  let st := s.reg pageHOSTIF Off.hostif_PCIESTAT
  fieldOf st 1 3 + fieldOf st 4 4 * 2 ^ 4

/-- The capabilities: power management, PCI Express, MSI-X, and AER in the extended space (R299). -/
def State.capWord (s : State) (o : Nat) : Word :=
  let c := s.host.cfg
  if o = 0x40 then 0x00035001
  else if o = 0x44 then BitVec.ofNat 32 (bit c.d3 * 3 + 8)
  else if o = 0x50 then 0x00029010
  else if o = 0x54 then 0x00008001
  else if o = 0x58 then 0x00002000
  else if o = 0x5C then 0x00000023
  else if o = 0x60 then BitVec.ofNat 32 (s.linkWord * 2 ^ 16)
  else if o = 0x90 then BitVec.ofNat 32 (0x00070011 + bit c.fmask * 2 ^ 30 + bit c.msixEn * 2 ^ 31)
  else if o = 0x94 then 0x03FFF002
  else if o = 0x98 then 0x03FFF802
  else if o = 0x100 then 0x00020001
  else if o = 0x104 then c.aer
  else if o = 0x108 then c.aerMask
  else if o = 0x10C then c.aerSev
  else 0

/-- The configuration space as it reads: its type 0 header (identity, command, class, BARs) and its capabilities (R299). -/
def State.cfgWord (s : State) (o : Nat) : Word :=
  let c := s.host.cfg
  if o = 0x00 ∨ o = 0x2C then 0x51281F3C
  else if o = 0x04 then BitVec.ofNat 32 (bit c.memSpace * 2 + bit c.busMaster * 4 + 2 ^ 20)
  else if o = 0x08 then 0x11800001
  else if o = 0x10 then c.bar0
  else if o = 0x18 then c.bar2.setWidth 32 ||| 0xC
  else if o = 0x1C then (c.bar2 >>> 32).setWidth 32
  else if o = 0x34 then 0x40
  else s.capWord o

/-! ### BAR2 (R301, R302) -/

/-- A byte of a word by its address. -/
def byteOfWord (w : Word) (k : Nat) : Byte := BitVec.ofNat 8 (fieldOf w (8 * (k % 4)) 8)

/-- The MSI-X table: three words of a message, and the vector control with its mask bit. -/
def msixWord (s : State) (i : Nat) : Word :=
  if i % 4 = 3 then BitVec.ofNat 32 (bit (s.host.msix.get {} (i / 4)).masked) else s.host.msixTab.get 0 i

/-- The pending bits. -/
def pbaByte (s : State) : Nat := ((List.range 8).map (fun v => bit (s.host.msix.get {} v).pend * 2 ^ v)).sum

/-- A byte of a control-store slot: the microword, then P0 to P3. -/
def slotByte (s : State) (off : Nat) : Byte :=
  let o := off % 32
  let m := (s.cstore.get 0 (storeKey (winCluster off) (winBank off) (winWord off))).toNat
  if s.level = lvSEALED ∨ s.dst (16 + winCluster off) ≠ 0 ∨ 0x11 ≤ o then 0 else BitVec.ofNat 8 (m / 2 ^ (8 * o))

/-- A byte of BAR2. -/
def bar2Byte (s : State) (off : Nat) : Byte :=
  if off < 0x100000 then (if s.dst 85 = 0 then s.whey.buf.byte off else 0)
  else if off < 0x140000 then (if s.dst 86 = 0 then s.smem.byte (off - 0x100000) else 0)
  else if off < 0x180000 then
    match s.cal.evs.find? (fun e => e.slot == (off - 0x140000) / 16) with
    | some e => byteOfWord (e.entry.getD (off % 16 / 4) 0) off
    | none => 0
  else if 0x400000 ≤ off ∧ off < 0x800000 then slotByte s off
  else if 0x3FFF000 ≤ off ∧ off < 0x3FFF080 then byteOfWord (msixWord s ((off - 0x3FFF000) / 4)) off
  else if off = 0x3FFF800 then BitVec.ofNat 8 (pbaByte s)
  else 0

/-- A read of BAR2: its bytes, each as its own offset is served, and the count of a sealed read of a control-store window. -/
def bar2Fetch (off len : Nat) (s : State) : List Byte × State :=
  let bs := (List.range len).map (fun i => bar2Byte s (off + i))
  let window := decide (off < 0x800000) && decide (0x400000 < off + len)
  (bs, if s.level = lvSEALED ∧ window then bar2Reject s else s)

def bar2Read (off len : Nat) (s : State) : State :=
  if !s.pcieOpen then s.pcieClosed
  else if len = 0 ∨ 512 < len then s
  else
    let r := bar2Fetch off len s
    { r.2 with host := { r.2.host with bar2 := r.1 } }

def execBar2Read (off : BitVec 26) (len : Nat) (s : State) : Out := .next (bar2Read off.toNat len s)

/-- A word of the MSI-X table is written. -/
def msixPut (i : Nat) (w : Word) (s : State) : State :=
  if i % 4 = 3 then msixMask (i / 4) (fieldOf w 0 1 == 1) s
  else { s with host := { s.host with msixTab := s.host.msixTab.set 0 i (if i % 4 = 0 then w &&& 0xFFFFFFFC else w) } }

/-- A write of BAR2: the MSI-X table takes it, or a control-store window, or it is discarded. -/
def bar2Write (off : Nat) (data : List Byte) (s : State) : State :=
  if (data.length = 4 ∨ data.length = 8) ∧ off % data.length = 0 ∧ 0x3FFF000 ≤ off ∧ off < 0x3FFF080 then
    (wordsOf data).zipIdx.foldl (fun s x => msixPut ((off - 0x3FFF000) / 4 + x.2) x.1 s) s
  else bar2Take off data s

def execBar2Write (off : BitVec 26) (data : List Byte) (s : State) : Out :=
  .next (if s.pcieOpen then bar2Write off.toNat data s else s.pcieClosed)

/-! ### The SPI target (R305 to R308) -/

/-- CRC-8, polynomial 0x2F, most significant bit first. -/
def crc8Bit (c : Nat) : Nat := if 128 ≤ c then (c * 2 % 256) ^^^ 0x2F else c * 2
def crc8Byte (c b : Nat) : Nat := crc8Bit (crc8Bit (crc8Bit (crc8Bit (crc8Bit (crc8Bit (crc8Bit (crc8Bit (c ^^^ b))))))))
def crc8 (bs : List Nat) : Nat := bs.foldl crc8Byte 0xFF ^^^ 0xFF

/-- The bytes of a word in transmission order. -/
def sentBytes (w : Word) : List Nat := [fieldOf w 24 8, fieldOf w 16 8, fieldOf w 8 8, fieldOf w 0 8]

def frameCrc (w0 w1 : Word) : Nat := crc8 (sentBytes w0 ++ sentBytes w1)

/-- The words that the device sends: they report the reported frame (R306). -/
def spiRespond (s : State) : State :=
  let x := s.host.spi
  let w0 := BitVec.ofNat 32 ((if x.pend then 0 else x.code) * 2 ^ 16 + x.seq * 2 ^ 24 + bit x.pend * 2 ^ 29 + x.op * 2 ^ 30)
  let w1 := if x.pend then 0 else x.data
  { s with host := { s.host with spi := { x with out0 := w0, out1 := w1, out2 := BitVec.ofNat 32 (frameCrc w0 w1) } } }

/-- The target takes part in frames: the port answers and SPIEN is 1. -/
def State.spiOn (s : State) : Bool := s.answers && s.flag pageHOSTIF Off.hostif_HCFG 0

/-- What SDO carries in clock k of a frame, most significant bit first; high impedance while the target takes no part, and outside
frames (R305, R306, R386). -/
def State.sdoBit (s : State) (k : Nat) : Option Bool :=
  if !s.spiOn || decide (96 ≤ k) then none
  else
    let w := [s.host.spi.out0, s.host.spi.out1, s.host.spi.out2].getD (k / 32) 0
    some (bitOf w.toNat (31 - k % 32))

/-- A NOP frame collects the report. While a READ pends it stays the reported frame. -/
def spiNop (seq : Nat) (s : State) : State :=
  if !s.spiOn then s
  else
    let s := spiRespond s
    if s.host.spi.pend then s else s.report 0 seq eOK false 0

/-- A READ frame: the access is made in its acceptance clock, and its data are reported when it completes. -/
def spiRead (seq a : Nat) (s : State) : State :=
  if !s.spiOn then s
  else
    let s := spiRespond s
    if s.host.spi.pend then spiTurnAway s
    else
      let t := readReg .spi a false (s.settlePage (a / 4096))
      t.report 1 seq eOK true t.host.rdSpi

/-- A WRITE frame. -/
def spiWrite (seq a : Nat) (w : Word) (s : State) : State :=
  if !s.spiOn then s
  else spiWriteNow seq a (fun n s => writeAt .spi n a w 4 s) (spiRespond s)

/-- The READ that pends has finished. -/
def spiReadComplete (s : State) : State :=
  { s with host := { s.host with spi := { s.host.spi with pend := false } } }

/-- A reserved bit of a frame is set, or its OP is reserved. -/
def spiOdd (w0 w2 : Word) : Bool :=
  fieldOf w0 30 2 == 3 || fieldOf w0 28 2 != 0 || fieldOf w0 0 2 != 0 || fieldOf w2 8 24 != 0

/-- A frame: its length, its CRC and its reserved bits are checked, then it is executed (R305, R306, R308). -/
def spiFrame (clocks : Nat) (w0 w1 w2 : Word) (s : State) : State :=
  if !s.spiOn then s
  else if clocks ≠ 96 then (s.addSat pageHOSTIF Off.hostif_SPIERR 8 8 1).intSet pageHOSTIF 17
  else
    let op := fieldOf w0 30 2
    let seq := fieldOf w0 24 4
    let a := fieldOf w0 2 22 * 4
    let good := frameCrc w0 w1 == fieldOf w2 0 8
    if s.host.spi.pend && !(good && op == 0 && !spiOdd w0 w2) then spiTurnAway (spiRespond s)
    else if !good then
      (((spiRespond s).report op seq ePARITY false 0).addSat pageHOSTIF Off.hostif_SPIERR 0 8 1).intSet pageHOSTIF 17
    else if spiOdd w0 w2 then (spiRespond s).report op seq eRESERVED false 0
    else if op = 0 then spiNop seq s
    else if op = 1 then spiRead seq a s
    else spiWrite seq a w1 s

def execSpiFrame (clocks : Nat) (w0 w1 w2 : Word) (s : State) : Out := .next (spiFrame clocks w0 w1 w2 s)
def execSpiNop (seq : BitVec 4) (s : State) : Out := .next (spiNop seq.toNat s)
def execSpiRead (seq : BitVec 4) (addr : BitVec 24) (s : State) : Out := .next (spiRead seq.toNat (addr.toNat / 4 * 4) s)
def execSpiWrite (seq : BitVec 4) (addr : BitVec 24) (data : Word) (s : State) : Out :=
  .next (spiWrite seq.toNat (addr.toNat / 4 * 4) data s)
def execSpiReadComplete (s : State) : Out := .next (spiReadComplete s)

/-! ### DBGACC (R365) -/

/-- A read through the TAP of one word of BAR0 or BAR2. -/
def dbgRead (bar2 : Bool) (a : Nat) (s : State) : State :=
  if !bar2 then hostRead .tap a false s
  else if !s.tapAnswers then s
  else
    let s := s.tapSelect
    if 1 ≤ s.granted then
      let r := bar2Fetch a 4 s
      let w := (wordsOf r.1).headD 0
      (r.2.putRead .tap w).tapDone 1 true a eOK w
    else tapDenyRead true a s

def execDbgaccRead (bar2 : Bool) (addr : BitVec 28) (s : State) : Out := .next (dbgRead bar2 (addr.toNat / 4 * 4) s)

/-- A write through the TAP of one word of BAR0 or BAR2. -/
def dbgWrite (bar2 : Bool) (a : Nat) (w : Word) (s : State) : State :=
  if !bar2 then hostWrite .tap a w 4 s
  else if !s.tapAnswers then s
  else
    let s := s.tapSelect
    if s.granted = 2 then (bar2Write a (wordBytes w) s).tapDone 2 true a eOK w else tapDenied 2 true a w s

def execDbgaccWrite (bar2 : Bool) (addr : BitVec 28) (data : Word) (s : State) : Out :=
  .next (dbgWrite bar2 (addr.toNat / 4 * 4) data s)

end Sys2Proof.Machine
end

