-- ==== Sys2Proof/Machine/Dispatch.lean ====
section
/-! DEFINITION. One arm per command of the block, each a direct call of its meaning. -/

namespace Sys2Proof.Machine

/-- The effect of a command on everything but the queue. -/
def exec (i : Instr) (s : State) : Host.Outcome State Fault Refusal :=
  match i with
  | .tickBoundary => Sys2Proof.Machine.execTickBoundary s
  | .mapPublish => Sys2Proof.Machine.execMapPublish s
  | .drain => Sys2Proof.Machine.execDrain s
  | .drainCutoff => Sys2Proof.Machine.execDrainCutoff s
  | .tickGuard => Sys2Proof.Machine.execTickGuard s
  | .comparatorSelftest failed => Sys2Proof.Machine.execComparatorSelftest failed s
  | .readyPoint => Sys2Proof.Machine.execReadyPoint s
  | .postedWriteAccept addr data len => Sys2Proof.Machine.execPostedWriteAccept addr data len s
  | .registerWrite w => Sys2Proof.Machine.execRegisterWrite w s
  | .rcRead port addr meets => Sys2Proof.Machine.execRcRead port addr meets s
  | .pwelpop port data => Sys2Proof.Machine.execPwelpop port data s
  | .nop q => Sys2Proof.Machine.execNop q s
  | .resetBlock q => Sys2Proof.Machine.execResetBlock q s
  | .enable q => Sys2Proof.Machine.execEnable q s
  | .disable q => Sys2Proof.Machine.execDisable q s
  | .commit q => Sys2Proof.Machine.execCommit q s
  | .abort q => Sys2Proof.Machine.execAbort q s
  | .selftest q => Sys2Proof.Machine.execSelftest q s
  | .selftestDone page pass => Sys2Proof.Machine.execSelftestDone page pass s
  | .crtailWrite port data => Sys2Proof.Machine.execCrtailWrite port data s
  | .cptailWrite port data => Sys2Proof.Machine.execCptailWrite port data s
  | .commandFetch e => Sys2Proof.Machine.execCommandFetch e s
  | .groupCommit tag part args => Sys2Proof.Machine.execGroupCommit tag part args s
  | .groupCommitPrepared => Sys2Proof.Machine.execGroupCommitPrepared s
  | .tbNowLoRead port => Sys2Proof.Machine.execTbNowLoRead port s
  | .matchArm port n data => Sys2Proof.Machine.execMatchArm port n data s
  | .matchReached n => Sys2Proof.Machine.execMatchReached n s
  | .tbWrap => Sys2Proof.Machine.execTbWrap s
  | .tbPreset q => Sys2Proof.Machine.execTbPreset q s
  | .slowRatioWindow count => Sys2Proof.Machine.execSlowRatioWindow count s
  | .tbCatchup ticks => Sys2Proof.Machine.execTbCatchup ticks s
  | .compareFire c => Sys2Proof.Machine.execCompareFire c s
  | .pulseEnd c => Sys2Proof.Machine.execPulseEnd c s
  | .cmpPush q => Sys2Proof.Machine.execCmpPush q s
  | .cmpFlush q => Sys2Proof.Machine.execCmpFlush q s
  | .stagger q => Sys2Proof.Machine.execStagger q s
  | .capFlush q => Sys2Proof.Machine.execCapFlush q s
  | .capture c tb pol => Sys2Proof.Machine.execCapture c tb pol s
  | .cappopRead port c => Sys2Proof.Machine.execCappopRead port c s
  | .periodCounterStep c => Sys2Proof.Machine.execPeriodCounterStep c s
  | .primaryEdge p tb amp => Sys2Proof.Machine.execPrimaryEdge p tb amp s
  | .camEdge src tb pol => Sys2Proof.Machine.execCamEdge src tb pol s
  | .stall u => Sys2Proof.Machine.execStall u s
  | .camlost u => Sys2Proof.Machine.execCamlost u s
  | .camTimeout u => Sys2Proof.Machine.execCamTimeout u s
  | .resync q => Sys2Proof.Machine.execResync q s
  | .synStart q => Sys2Proof.Machine.execSynStart q s
  | .synStop q => Sys2Proof.Machine.execSynStop q s
  | .lrnClear q => Sys2Proof.Machine.execLrnClear q s
  | .synEdge u => Sys2Proof.Machine.execSynEdge u s
  | .synSegmentEnd u => Sys2Proof.Machine.execSynSegmentEnd u s
  | .quadratureChange u a b => Sys2Proof.Machine.execQuadratureChange u a b s
  | .quadratureIndex u => Sys2Proof.Machine.execQuadratureIndex u s
  | .qpossetWrite port u data => Sys2Proof.Machine.execQpossetWrite port u data s
  | .wcfgWrite port u data => Sys2Proof.Machine.execWcfgWrite port u data s
  | .evw3Write port data => Sys2Proof.Machine.execEvw3Write port data s
  | .evCancel q => Sys2Proof.Machine.execEvCancel q s
  | .evCancelRole q => Sys2Proof.Machine.execEvCancelRole q s
  | .evFlushWheel q => Sys2Proof.Machine.execEvFlushWheel q s
  | .hostEventCompletion => Sys2Proof.Machine.execHostEventCompletion s
  | .engineEventCompletion role => Sys2Proof.Machine.execEngineEventCompletion role s
  | .dispatch e => Sys2Proof.Machine.execDispatch e s
  | .mov e f => Sys2Proof.Machine.execMov e f s
  | .add e f => Sys2Proof.Machine.execAdd e f s
  | .adc e f => Sys2Proof.Machine.execAdc e f s
  | .sub e f => Sys2Proof.Machine.execSub e f s
  | .sbc e f => Sys2Proof.Machine.execSbc e f s
  | .and e f => Sys2Proof.Machine.execAnd e f s
  | .or e f => Sys2Proof.Machine.execOr e f s
  | .xor e f => Sys2Proof.Machine.execXor e f s
  | .not e f => Sys2Proof.Machine.execNot e f s
  | .shl e f => Sys2Proof.Machine.execShl e f s
  | .shr e f => Sys2Proof.Machine.execShr e f s
  | .sar e f => Sys2Proof.Machine.execSar e f s
  | .ror e f => Sys2Proof.Machine.execRor e f s
  | .cmp e f => Sys2Proof.Machine.execCmp e f s
  | .tst e f => Sys2Proof.Machine.execTst e f s
  | .mulu e f => Sys2Proof.Machine.execMulu e f s
  | .muls e f => Sys2Proof.Machine.execMuls e f s
  | .mull e f => Sys2Proof.Machine.execMull e f s
  | .min e f => Sys2Proof.Machine.execMin e f s
  | .max e f => Sys2Proof.Machine.execMax e f s
  | .minu e f => Sys2Proof.Machine.execMinu e f s
  | .maxu e f => Sys2Proof.Machine.execMaxu e f s
  | .clz e f => Sys2Proof.Machine.execClz e f s
  | .bfx e f => Sys2Proof.Machine.execBfx e f s
  | .bfi e f => Sys2Proof.Machine.execBfi e f s
  | .inc e n hw => Sys2Proof.Machine.execInc e n hw s
  | .br e n hw => Sys2Proof.Machine.execBr e n hw s
  | .brc e n hw => Sys2Proof.Machine.execBrc e n hw s
  | .call e n hw => Sys2Proof.Machine.execCall e n hw s
  | .callc e n hw => Sys2Proof.Machine.execCallc e n hw s
  | .ret e n hw => Sys2Proof.Machine.execRet e n hw s
  | .retc e n hw => Sys2Proof.Machine.execRetc e n hw s
  | .ldl e x hw => Sys2Proof.Machine.execLdl e x hw s
  | .stl e x => Sys2Proof.Machine.execStl e x s
  | .lds e x hw => Sys2Proof.Machine.execLds e x hw s
  | .sts e x hw => Sys2Proof.Machine.execSts e x hw s
  | .aadds e x hw => Sys2Proof.Machine.execAadds e x hw s
  | .ldq e x hw => Sys2Proof.Machine.execLdq e x hw s
  | .stq e x => Sys2Proof.Machine.execStq e x s
  | .fence e x => Sys2Proof.Machine.execFence e x s
  | .tbrd e x => Sys2Proof.Machine.execTbrd e x s
  | .idrd e x => Sys2Proof.Machine.execIdrd e x s
  | .post e x hw => Sys2Proof.Machine.execPost e x hw s
  | .cancel e x hw => Sys2Proof.Machine.execCancel e x hw s
  | .msgsend e x hw => Sys2Proof.Machine.execMsgsend e x hw s
  | .msgrecv e x hw => Sys2Proof.Machine.execMsgrecv e x hw s
  | .ecrd e x hw => Sys2Proof.Machine.execEcrd e x hw s
  | .ring e x hw => Sys2Proof.Machine.execRing e x hw s
  | .logw e x hw => Sys2Proof.Machine.execLogw e x hw s
  | .cfg e x hw => Sys2Proof.Machine.execCfg e x hw s
  | .tx e x hw => Sys2Proof.Machine.execTx e x hw s
  | .rx e x hw => Sys2Proof.Machine.execRx e x hw s
  | .st e x hw => Sys2Proof.Machine.execSt e x hw s
  | .smprd e x hw => Sys2Proof.Machine.execSmprd e x hw s
  | .caprd e x hw => Sys2Proof.Machine.execCaprd e x hw s
  | .done e x n hw => Sys2Proof.Machine.execDone e x n hw s
  | .yield e x n hw => Sys2Proof.Machine.execYield e x n hw s
  | .waitev e x n hw => Sys2Proof.Machine.execWaitev e x n hw s
  | .mcWdog e => Sys2Proof.Machine.execMcWdog e s
  | .mcRunlen e => Sys2Proof.Machine.execMcRunlen e s
  | .mirrorFetch e => Sys2Proof.Machine.execMirrorFetch e s
  | .shiftRxFrame c f => Sys2Proof.Machine.execShiftRxFrame c f s
  | .shiftTxBit c => Sys2Proof.Machine.execShiftTxBit c s
  | .shiftTimeout e => Sys2Proof.Machine.execShiftTimeout e s
  | .taskReady q => Sys2Proof.Machine.execTaskReady q s
  | .taskCancel q => Sys2Proof.Machine.execTaskCancel q s
  | .shiftAbort q => Sys2Proof.Machine.execShiftAbort q s
  | .messageDelivery => Sys2Proof.Machine.execMessageDelivery s
  | .migrationCopyEnd c zeroed => Sys2Proof.Machine.execMigrationCopyEnd c zeroed s
  | .mclogpop port c data => Sys2Proof.Machine.execMclogpop port c data s
  | .load q => Sys2Proof.Machine.execLoad q s
  | .loadComplete img => Sys2Proof.Machine.execLoadComplete img s
  | .bankSwitch q => Sys2Proof.Machine.execBankSwitch q s
  | .mirrorCopy q => Sys2Proof.Machine.execMirrorCopy q s
  | .mirrorCopyComplete => Sys2Proof.Machine.execMirrorCopyComplete s
  | .controlStoreWindowWrite off data => Sys2Proof.Machine.execControlStoreWindowWrite off data s
  | .pressRepair readBackOk => Sys2Proof.Machine.execPressRepair readBackOk s
  | .trigger n k => Sys2Proof.Machine.execTrigger n k s
  | .seqEntryStart n => Sys2Proof.Machine.execSeqEntryStart n s
  | .sampleStore n => Sys2Proof.Machine.execSampleStore n s
  | .calibrate q => Sys2Proof.Machine.execCalibrate q s
  | .calibrateComplete n r => Sys2Proof.Machine.execCalibrateComplete n r s
  | .urgent q => Sys2Proof.Machine.execUrgent q s
  | .seqRestart q => Sys2Proof.Machine.execSeqRestart q s
  | .adcSubstitute q => Sys2Proof.Machine.execAdcSubstitute q s
  | .adcRelease q => Sys2Proof.Machine.execAdcRelease q s
  | .refcfgWrite port n data => Sys2Proof.Machine.execRefcfgWrite port n data s
  | .referenceReady n => Sys2Proof.Machine.execReferenceReady n s
  | .referenceFault n => Sys2Proof.Machine.execReferenceFault n s
  | .tdacSettled => Sys2Proof.Machine.execTdacSettled s
  | .tdCompare q => Sys2Proof.Machine.execTdCompare q s
  | .tdCompareDone => Sys2Proof.Machine.execTdCompareDone s
  | .tdCompareTimeout => Sys2Proof.Machine.execTdCompareTimeout s
  | .winClose q => Sys2Proof.Machine.execWinClose q s
  | .ringReset q => Sys2Proof.Machine.execRingReset q s
  | .periodBoundary m => Sys2Proof.Machine.execPeriodBoundary m s
  | .midPeriodPoint m => Sys2Proof.Machine.execMidPeriodPoint m s
  | .referenceFall m c => Sys2Proof.Machine.execReferenceFall m c s
  | .deadTimeExpiry m p => Sys2Proof.Machine.execDeadTimeExpiry m p s
  | .syncLoad m => Sys2Proof.Machine.execSyncLoad m s
  | .tripAssert k pin clocks => Sys2Proof.Machine.execTripAssert k pin clocks s
  | .pwmSubstitute q => Sys2Proof.Machine.execPwmSubstitute q s
  | .pwmRelease q => Sys2Proof.Machine.execPwmRelease q s
  | .engineClockLoss => Sys2Proof.Machine.execEngineClockLoss s
  | .doorbell src => Sys2Proof.Machine.execDoorbell src s
  | .presentation n => Sys2Proof.Machine.execPresentation n s
  | .queueRecordWrite n => Sys2Proof.Machine.execQueueRecordWrite n s
  | .eoiWrite port n data => Sys2Proof.Machine.execEoiWrite port n data s
  | .tidleWrite port n data => Sys2Proof.Machine.execTidleWrite port n data s
  | .hidleAssert n held => Sys2Proof.Machine.execHidleAssert n held s
  | .holdOffExpiry n => Sys2Proof.Machine.execHoldOffExpiry n s
  | .groupHoldOffExpiry g => Sys2Proof.Machine.execGroupHoldOffExpiry g s
  | .raise port data => Sys2Proof.Machine.execRaise port data s
  | .cntdec port data => Sys2Proof.Machine.execCntdec port data s
  | .qheadWrite port n data => Sys2Proof.Machine.execQheadWrite port n data s
  | .routeWrite port page w data => Sys2Proof.Machine.execRouteWrite port page w data s
  | .tgtReset q => Sys2Proof.Machine.execTgtReset q s
  | .wakeInput w rising => Sys2Proof.Machine.execWakeInput w rising s
  | .wheyRecordIngest => Sys2Proof.Machine.execWheyRecordIngest s
  | .wheyReadIndexWrite port ring data => Sys2Proof.Machine.execWheyReadIndexWrite port ring data s
  | .ethFrameSend n => Sys2Proof.Machine.execEthFrameSend n s
  | .flushTimeout n => Sys2Proof.Machine.execFlushTimeout n s
  | .ptpMessage n m => Sys2Proof.Machine.execPtpMessage n m s
  | .pauseFrame n quanta => Sys2Proof.Machine.execPauseFrame n quanta s
  | .syncTimeout n => Sys2Proof.Machine.execSyncTimeout n s
  | .linkup n => Sys2Proof.Machine.execLinkup n s
  | .linkdown n => Sys2Proof.Machine.execLinkdown n s
  | .pcieReset => Sys2Proof.Machine.execPcieReset s
  | .bar2Write off data => Sys2Proof.Machine.execBar2Write off data s
  | .dmaReadCompletion page r => Sys2Proof.Machine.execDmaReadCompletion page r s
  | .msixUnmask t => Sys2Proof.Machine.execMsixUnmask t s
  | .spiFrame clocks w0 w1 w2 => Sys2Proof.Machine.execSpiFrame clocks w0 w1 w2 s
  | .spiNop seq => Sys2Proof.Machine.execSpiNop seq s
  | .spiRead seq addr => Sys2Proof.Machine.execSpiRead seq addr s
  | .spiWrite seq addr data => Sys2Proof.Machine.execSpiWrite seq addr data s
  | .spiReadComplete => Sys2Proof.Machine.execSpiReadComplete s
  | .hello p h f => Sys2Proof.Machine.execHello p h f s
  | .authFrame p h v => Sys2Proof.Machine.execAuthFrame p h v s
  | .time p h f rx => Sys2Proof.Machine.execTime p h f rx s
  | .timeExchange p t1 => Sys2Proof.Machine.execTimeExchange p t1 s
  | .map p h f => Sys2Proof.Machine.execMap p h f s
  | .state p h f => Sys2Proof.Machine.execState p h f s
  | .msg p h addr sender body => Sys2Proof.Machine.execMsg p h addr sender body s
  | .bounceFrame p h ws role => Sys2Proof.Machine.execBounceFrame p h ws role s
  | .credit p h f => Sys2Proof.Machine.execCredit p h f s
  | .signalDetected p => Sys2Proof.Machine.execSignalDetected p s
  | .signalLost p => Sys2Proof.Machine.execSignalLost p s
  | .authTimeout p => Sys2Proof.Machine.execAuthTimeout p s
  | .creditTimeout p => Sys2Proof.Machine.execCreditTimeout p s
  | .deadTimeout p lockLost => Sys2Proof.Machine.execDeadTimeout p lockLost s
  | .importMapDeadline u => Sys2Proof.Machine.execImportMapDeadline u s
  | .readmit q => Sys2Proof.Machine.execReadmit q s
  | .retrain q => Sys2Proof.Machine.execRetrain q s
  | .arm q => Sys2Proof.Machine.execArm q s
  | .armChecksEnd => Sys2Proof.Machine.execArmChecksEnd s
  | .disarm q => Sys2Proof.Machine.execDisarm q s
  | .enterLimp q => Sys2Proof.Machine.execEnterLimp q s
  | .resume q => Sys2Proof.Machine.execResume q s
  | .halt q => Sys2Proof.Machine.execHalt q s
  | .haltReq q => Sys2Proof.Machine.execHaltReq q s
  | .sleep q => Sys2Proof.Machine.execSleep q s
  | .reboot q => Sys2Proof.Machine.execReboot q s
  | .forceSafe q => Sys2Proof.Machine.execForceSafe q s
  | .wdkick port data => Sys2Proof.Machine.execWdkick port data s
  | .hostWatchdogExpiry => Sys2Proof.Machine.execHostWatchdogExpiry s
  | .powerOnReset => Sys2Proof.Machine.execPowerOnReset s
  | .resetPin ns taken => Sys2Proof.Machine.execResetPin ns taken s
  | .bootDone r => Sys2Proof.Machine.execBootDone r s
  | .wakeTimer => Sys2Proof.Machine.execWakeTimer s
  | .spiWake => Sys2Proof.Machine.execSpiWake s
  | .brownOut mv => Sys2Proof.Machine.execBrownOut mv s
  | .supplyExcursion mv => Sys2Proof.Machine.execSupplyExcursion mv s
  | .undervoltageTimeout => Sys2Proof.Machine.execUndervoltageTimeout s
  | .overvoltageTimeout => Sys2Proof.Machine.execOvervoltageTimeout s
  | .tempwarn t => Sys2Proof.Machine.execTempwarn t s
  | .junctionOvertemp t => Sys2Proof.Machine.execJunctionOvertemp t s
  | .hottimeMinute => Sys2Proof.Machine.execHottimeMinute s
  | .domOff q => Sys2Proof.Machine.execDomOff q s
  | .domOn q => Sys2Proof.Machine.execDomOn q s
  | .domIsolate q => Sys2Proof.Machine.execDomIsolate q s
  | .domReset q => Sys2Proof.Machine.execDomReset q s
  | .domainPowerOff d => Sys2Proof.Machine.execDomainPowerOff d s
  | .rejoinWorkEnd d testOk => Sys2Proof.Machine.execRejoinWorkEnd d testOk s
  | .domainRailFault d => Sys2Proof.Machine.execDomainRailFault d s
  | .wheelDecoderMismatch u => Sys2Proof.Machine.execWheelDecoderMismatch u s
  | .newNonce q => Sys2Proof.Machine.execNewNonce q s
  | .auth q => Sys2Proof.Machine.execAuth q s
  | .authLockoutExpiry slot => Sys2Proof.Machine.execAuthLockoutExpiry slot s
  | .deauth q => Sys2Proof.Machine.execDeauth q s
  | .goTeam q => Sys2Proof.Machine.execGoTeam q s
  | .goOpen q => Sys2Proof.Machine.execGoOpen q s
  | .seal q => Sys2Proof.Machine.execSeal q s
  | .unseal q => Sys2Proof.Machine.execUnseal q s
  | .chgAuth q => Sys2Proof.Machine.execChgAuth q s
  | .readout q => Sys2Proof.Machine.execReadout q s
  | .bypass => Sys2Proof.Machine.execBypass s
  | .idcode => Sys2Proof.Machine.execIdcode s
  | .samplePreload => Sys2Proof.Machine.execSamplePreload s
  | .extest pins => Sys2Proof.Machine.execExtest pins s
  | .clamp => Sys2Proof.Machine.execClamp s
  | .highz => Sys2Proof.Machine.execHighz s
  | .dbgaccRead bar2 addr => Sys2Proof.Machine.execDbgaccRead bar2 addr s
  | .dbgaccWrite bar2 addr data => Sys2Proof.Machine.execDbgaccWrite bar2 addr data s
  | .non32BitRead port addr len => Sys2Proof.Machine.execNon32BitRead port addr len s
  | .bar2Read off len => Sys2Proof.Machine.execBar2Read off len s
  | .engineClockReturn => Sys2Proof.Machine.execEngineClockReturn s
  | .tbStop => Sys2Proof.Machine.execTbStop s
  | .sampleHold n ch raw => Sys2Proof.Machine.execSampleHold n ch raw s
  | .tripDeassert k pin clocks => Sys2Proof.Machine.execTripDeassert k pin clocks s
  | .primaryInactiveEdge p tb => Sys2Proof.Machine.execPrimaryInactiveEdge p tb s
  | .delayRegisterParityError c p => Sys2Proof.Machine.execDelayRegisterParityError c p s
  | .pwmCopyMismatch m => Sys2Proof.Machine.execPwmCopyMismatch m s
  | .supplyReturn mv => Sys2Proof.Machine.execSupplyReturn mv s
  | .crcErrorFrame p => Sys2Proof.Machine.execCrcErrorFrame p s
  | .malformedFrame p => Sys2Proof.Machine.execMalformedFrame p s
  | .receivedFrameDiscard n => Sys2Proof.Machine.execReceivedFrameDiscard n s
  | .pcieLinkUp speed width => Sys2Proof.Machine.execPcieLinkUp speed width s
  | .busMasterEnableWrite w => Sys2Proof.Machine.execBusMasterEnableWrite w s
  | .sealVerifyEnd pkg => Sys2Proof.Machine.execSealVerifyEnd pkg s
  | .tokenVerifyEnd tok => Sys2Proof.Machine.execTokenVerifyEnd tok s
  | .readoutComplete => Sys2Proof.Machine.execReadoutComplete s
  | .tbSlew => Sys2Proof.Machine.execTbSlew s
  | .slowokChange ok => Sys2Proof.Machine.execSlowokChange ok s

end Sys2Proof.Machine
end

