-- ==== Sys2Proof/Safety.lean ====
section
/-! DEFINITION. What claims about runs are stated in: the canonical form of the block's memories, the bounds of its queues, states that a
step leads to, and the states in which nothing of the block has failed. -/

namespace Sys2Proof.Machine

/-- Every byte memory of the block is in canonical form: host memory as written, sample memory, the Whey buffer, the local memory of
every engine and the shared memory of every cluster. -/
def State.memOk (s : State) : Bool :=
  s.hostMem.wf && s.smem.wf && s.whey.buf.wf && s.engs.all (fun e => e.2.mem.wf) && s.clus.all (fun e => e.2.shared.wf)

/-- Every queue holds what it has room for: the compare and capture queues of a pin channel (R4), the call stack of an engine (R134,
R140), the message queue (R176), the event-completion queue (R174) and the machine-check log (R190) of a cluster, its outbound buffer
(R176). -/
def State.queuesOk (s : State) : Bool :=
  s.chans.all (fun e => decide (e.2.cq.length ≤ 4) && decide (e.2.capq.length ≤ 4)) &&
    s.engs.all (fun e => decide (e.2.stack.length ≤ 4)) &&
    s.clus.all (fun e => decide (e.2.msgq.length ≤ 32) && decide (e.2.ecq.length ≤ 256) && decide (e.2.mclog.length ≤ 8)) &&
    (List.range 16).all (fun c => decide ((s.msgs.filter (fun m => m.1 == c)).length ≤ 8))

/-- One step leads from a state to another. -/
def Steps (s t : State) : Prop := step s = .next t

/-- Nothing has failed: the mode is neither SAFE nor LIMP, and no block is in FAULT or QUARANTINE (R5, R37). -/
def State.healthy (s : State) : Bool :=
  s.md != mSAFE && s.md != mLIMP && s.pages.all (fun p => p.2.st != stFAULT && p.2.st != stQUARANTINE)

end Sys2Proof.Machine
end

