-- ==== Sys2Proof/WellFormed.lean ====
section
/-! DEFINITION. Well-formed commands: operands that the rule of a row can have. `exec` has a meaning for every term of `Instr`; a term
that is not well-formed is one that no host, pin or step of the device brings about. -/

namespace Sys2Proof

open Sys2Proof.Machine (pageKind basePage isSecondary Kind)

/-- The widths of a host write (R6, R44). -/
def widthOk (len : Nat) : Bool := len == 1 || len == 2 || len == 4 || len == 8

/-- A request fits its row (R31, R38, R371): its page exists and its block has the command; `dev`: the device issues it too. -/
def reqOk (kinds : List Kind) (dev : Bool) (q : Req) : Bool :=
  (pageKind q.page.toNat).isSome && (kinds.isEmpty || kinds.any (fun k => pageKind (basePage q.page.toNat) == some k)) &&
    (dev || q.src != .device) && (q.src == .ring || q.args == {})

/-- A DBGACC address (R365): a word of BAR0 or of BAR2. -/
def dbgAddrOk (bar2 : Bool) (a : BitVec 28) : Bool :=
  a.toNat % 4 == 0 && decide (a.toNat < if bar2 then 2 ^ 26 else 2 ^ 24)

/-- A calibration measures four ranges and ten stages (R209). -/
def CalResult.wf (r : CalResult) : Bool := r.ofs.length == 4 && r.gain.length == 4 && r.stg.length == 10

/-- The five cores are calibrated at BOOT (R329). -/
def BootResult.wf (r : BootResult) : Bool := (r.cal.isEmpty || r.cal.length == 5) && r.cal.all CalResult.wf

/-- An image that was not read holds nothing. -/
def Image.wf (i : Image) : Bool := i.dma == .ok || (i.bytes.isEmpty && i.words.isEmpty)

/-- A frame on a line has something on it. -/
def RxFrame.wf : RxFrame → Bool
  | .intervals is => !is.isEmpty
  | .line l => !l.isEmpty

/-- DONE, YIELD and WAITEV stand in a word with END = 1 (R144). -/
def CtlNext.wf (n : CtlNext) : Bool := n.n.last

/-- A command is well-formed. -/
def Instr.wf : Instr → Bool
  | .postedWriteAccept _ _ len => widthOk len
  | .registerWrite w => widthOk w.len
  | .rcRead _ addr _ => addr.toNat % 4 == 0
  | .nop q => reqOk [] true q
  | .resetBlock q => reqOk [] false q
  | .enable q => reqOk [] false q
  | .disable q => reqOk [] false q
  | .commit q => reqOk [] false q
  | .abort q => reqOk [] false q
  | .selftest q => reqOk [] false q
  | .selftestDone page _ => (pageKind page.toNat).isSome && !isSecondary page.toNat
  | .tbPreset q => reqOk [.dbg] false q
  | .cmpPush q => reqOk [.pchg] false q
  | .cmpFlush q => reqOk [.pchg] false q
  | .stagger q => reqOk [.pchg] false q
  | .capFlush q => reqOk [.pchg] false q
  | .resync q => reqOk [.wu] false q
  | .synStart q => reqOk [.wu] false q
  | .synStop q => reqOk [.wu] false q
  | .lrnClear q => reqOk [.wu] false q
  | .evCancel q => reqOk [.ang] false q
  | .evCancelRole q => reqOk [.ang] false q
  | .evFlushWheel q => reqOk [.ang] false q
  | .done _ _ n _ => n.wf
  | .yield _ _ n _ => n.wf
  | .waitev _ _ n _ => n.wf
  | .shiftRxFrame _ f => f.wf
  | .taskReady q => reqOk [.cl] false q
  | .taskCancel q => reqOk [.cl] false q
  | .shiftAbort q => reqOk [.cl] false q
  | .load q => reqOk [.press] false q
  | .loadComplete img => img.wf
  | .bankSwitch q => reqOk [.press] false q
  | .mirrorCopy q => reqOk [.press] false q
  | .controlStoreWindowWrite off data => decide (0x400000 ≤ off.toNat) && decide (off.toNat < 0x800000) && !data.isEmpty
  | .calibrate q => reqOk [.adc] false q
  | .calibrateComplete _ r => r.wf
  | .urgent q => reqOk [.adc] false q
  | .seqRestart q => reqOk [.adc] false q
  | .adcSubstitute q => reqOk [.adc] true q && q.page.toNat == 0x054
  | .adcRelease q => reqOk [.adc] false q && q.page.toNat == 0x054
  | .tdCompare q => reqOk [.tdac] false q
  | .winClose q => reqOk [.rsmp] false q
  | .ringReset q => reqOk [.rsmp] false q
  | .pwmSubstitute q => reqOk [.pwm] true q
  | .pwmRelease q => reqOk [.pwm] false q
  | .doorbell src => src.toNat != 0
  | .tgtReset q => reqOk [.iu] false q
  | .bar2Write off data => !data.isEmpty && decide (off.toNat + data.length ≤ 2 ^ 26)
  | .dmaReadCompletion page _ => (pageKind page.toNat).isSome
  | .spiRead _ addr => addr.toNat % 4 == 0
  | .spiWrite _ addr _ => addr.toNat % 4 == 0
  | .time _ _ f _ => f.reply || (f.t2 == 0 && f.t3 == 0 && f.resid == 0 && !f.aligned && !f.degraded)
  | .map _ _ f => f.th.length == 9
  | .msg _ _ _ _ body => body.length == 2
  | .bounceFrame _ _ ws _ => ws.length == 4
  | .readmit q => reqOk [.idx] false q
  | .retrain q => reqOk [.idx] false q
  | .arm q => reqOk [.sys] true q
  | .disarm q => reqOk [.sys] false q
  | .enterLimp q => reqOk [.sys] false q
  | .resume q => reqOk [.sys] false q
  | .halt q => reqOk [.sys] false q
  | .haltReq q => reqOk [.dbg] false q
  | .sleep q => reqOk [.sys] false q
  | .reboot q => reqOk [.sys] false q
  | .forceSafe q => reqOk [.sys] false q
  | .bootDone r => r.wf
  | .domOff q => reqOk [.pwr] false q
  | .domOn q => reqOk [.pwr] false q
  | .domIsolate q => reqOk [.pwr] true q
  | .domReset q => reqOk [.pwr] true q
  | .newNonce q => reqOk [.rind, .dbg] false q
  | .auth q => reqOk [.rind, .dbg] false q
  | .deauth q => reqOk [.rind, .dbg] false q
  | .goTeam q => reqOk [.rind] false q
  | .goOpen q => reqOk [.rind] false q
  | .seal q => reqOk [.rind] false q
  | .unseal q => reqOk [.rind] false q
  | .chgAuth q => reqOk [.rind] false q
  | .readout q => reqOk [.rind] false q
  | .extest pins => pins.length == scanCells
  | .dbgaccRead bar2 addr => dbgAddrOk bar2 addr
  | .dbgaccWrite bar2 addr _ => dbgAddrOk bar2 addr
  | .non32BitRead _ addr len => decide (1 ≤ len) && decide (len ≤ 8) && !(len == 4 && addr.toNat % 4 == 0)
  | .bar2Read off len => decide (1 ≤ len) && decide (off.toNat + len ≤ 2 ^ 26)
  | .tickBoundary | .mapPublish | .drain | .drainCutoff | .tickGuard | .comparatorSelftest _ | .readyPoint | .pwelpop _ _ |
    .crtailWrite _ _ | .cptailWrite _ _ | .commandFetch _ | .groupCommit _ _ _ | .groupCommitPrepared | .tbNowLoRead _ |
    .matchArm _ _ _ | .matchReached _ | .tbWrap | .slowRatioWindow _ | .tbCatchup _ | .compareFire _ | .pulseEnd _ |
    .capture _ _ _ | .cappopRead _ _ | .periodCounterStep _ | .primaryEdge _ _ _ | .camEdge _ _ _ | .stall _ | .camlost _ |
    .camTimeout _ | .synEdge _ | .synSegmentEnd _ | .quadratureChange _ _ _ | .quadratureIndex _ | .qpossetWrite _ _ _ |
    .wcfgWrite _ _ _ | .evw3Write _ _ | .hostEventCompletion | .engineEventCompletion _ | .dispatch _ | .mov _ _ | .add _ _ |
    .adc _ _ | .sub _ _ | .sbc _ _ | .and _ _ | .or _ _ | .xor _ _ | .not _ _ | .shl _ _ | .shr _ _ | .sar _ _ | .ror _ _ |
    .cmp _ _ | .tst _ _ | .mulu _ _ | .muls _ _ | .mull _ _ | .min _ _ | .max _ _ | .minu _ _ | .maxu _ _ | .clz _ _ |
    .bfx _ _ | .bfi _ _ | .inc _ _ _ | .br _ _ _ | .brc _ _ _ | .call _ _ _ | .callc _ _ _ | .ret _ _ _ | .retc _ _ _ |
    .ldl _ _ _ | .stl _ _ | .lds _ _ _ | .sts _ _ _ | .aadds _ _ _ | .ldq _ _ _ | .stq _ _ | .fence _ _ | .tbrd _ _ |
    .idrd _ _ | .post _ _ _ | .cancel _ _ _ | .msgsend _ _ _ | .msgrecv _ _ _ | .ecrd _ _ _ | .ring _ _ _ | .logw _ _ _ |
    .cfg _ _ _ | .tx _ _ _ | .rx _ _ _ | .st _ _ _ | .smprd _ _ _ | .caprd _ _ _ | .mcWdog _ | .mcRunlen _ | .mirrorFetch _ |
    .shiftTxBit _ | .shiftTimeout _ | .messageDelivery | .migrationCopyEnd _ _ | .mclogpop _ _ _ | .mirrorCopyComplete |
    .pressRepair _ | .trigger _ _ | .seqEntryStart _ | .sampleStore _ | .refcfgWrite _ _ _ | .referenceReady _ |
    .referenceFault _ | .tdacSettled | .tdCompareDone | .tdCompareTimeout | .periodBoundary _ | .midPeriodPoint _ |
    .referenceFall _ _ | .deadTimeExpiry _ _ | .syncLoad _ | .tripAssert _ _ _ | .engineClockLoss | .presentation _ |
    .queueRecordWrite _ | .eoiWrite _ _ _ | .tidleWrite _ _ _ | .hidleAssert _ _ | .holdOffExpiry _ | .groupHoldOffExpiry _ |
    .raise _ _ | .cntdec _ _ | .qheadWrite _ _ _ | .routeWrite _ _ _ _ | .wakeInput _ _ | .wheyRecordIngest |
    .wheyReadIndexWrite _ _ _ | .ethFrameSend _ | .flushTimeout _ | .ptpMessage _ _ | .pauseFrame _ _ | .syncTimeout _ |
    .linkup _ | .linkdown _ | .pcieReset | .msixUnmask _ | .spiFrame _ _ _ _ | .spiNop _ | .spiReadComplete | .hello _ _ _ |
    .authFrame _ _ _ | .timeExchange _ _ | .state _ _ _ | .credit _ _ _ | .signalDetected _ | .signalLost _ |
    .authTimeout _ | .creditTimeout _ | .deadTimeout _ _ | .importMapDeadline _ | .armChecksEnd | .wdkick _ _ |
    .hostWatchdogExpiry | .powerOnReset | .resetPin _ _ | .wakeTimer | .spiWake | .brownOut _ | .supplyExcursion _ |
    .undervoltageTimeout | .overvoltageTimeout | .tempwarn _ | .junctionOvertemp _ | .hottimeMinute | .domainPowerOff _ |
    .rejoinWorkEnd _ _ | .domainRailFault _ | .wheelDecoderMismatch _ | .authLockoutExpiry _ | .bypass | .idcode |
    .samplePreload | .clamp | .highz | .engineClockReturn | .tbStop | .sampleHold _ _ _ | .tripDeassert _ _ _ |
    .primaryInactiveEdge _ _ | .delayRegisterParityError _ _ | .pwmCopyMismatch _ | .supplyReturn _ | .crcErrorFrame _ |
    .malformedFrame _ | .receivedFrameDiscard _ | .pcieLinkUp _ _ | .busMasterEnableWrite _ | .sealVerifyEnd _ |
    .tokenVerifyEnd _ | .readoutComplete | .tbSlew | .slowokChange _ => true

end Sys2Proof
end

