-- ==== Sys2Proof/Certificates/Slice0/Obligations.lean ====
section
/-! DEFINITION. The statements about the block. `Sys2Proof.Claims` holds the words that they are written in: what must hold for a
command to have its own effect, and what may differ afterwards. -/

open Sys2Proof Sys2Proof.Machine

namespace Sys2Proof.Claims

/-- The command answers this next state. -/
def Gives (c : Instr) (s t : State) : Prop := exec c s = .next t

/-- The clock `f` comes before the TB next passes zero: the TB's clock runs (R59, R65, R399). -/
def Comes (f : Nat) (s : State) : Prop := s.mode.clockLost = false ∧ f < (s.era + 1) * 2 ^ 64

/-- `s` with the TB as it stands in `t`: a clock has come, and what State keeps of the events of a clock is that of the new one. -/
def clocked (s t : State) : State :=
  { s with tb := t.tb, atClock := t.atClock, fresh := t.fresh, idx0 := { s.idx0 with hold := t.idx0.hold },
           iu := { s.iu with clk := t.iu.clk } }

/-! ### Microengines -/

/-- Engine `e` issues words, and `w` is the word that it issues: nothing makes that word a machine check (R139, R140, R142), its A slot
has not acted, and it has the operation `code` with the fields `f` in it (R137). -/
structure TakesA (e : Fin 128) (code : Nat) (f : AFields) (w : WordSt) (s : State) : Prop where
  issues : s.issues e = true
  word : s.opened e = some w
  sound : wordFault (s.eng e) w = none
  slot : w.a = false
  holds : w.holdsA code f = true

/-- As `TakesA`, for the X slot. -/
structure TakesX (e : Fin 128) (code : Nat) (x : XFields) (w : WordSt) (s : State) : Prop where
  issues : s.issues e = true
  word : s.opened e = some w
  sound : wordFault (s.eng e) w = none
  slot : w.x = false
  holds : w.holdsX code x = true

/-- The word in progress with its A slot, or its X slot, taken. -/
def wordA (w : WordSt) : WordSt := { w with a := true }
def wordX (w : WordSt) : WordSt := { w with x := true }

/-- The engine that trails `e` in a checked pair, of which `e` is the leader (R179). -/
def Trailer (s : State) (e : Fin 128) (e' : Nat) : Prop := e' = e.val + 1 ∧ e.val % 2 = 0 ∧ s.checked e = true

/-- Engine `e` becomes `x`, the trailer of a checked pair does what its leader does (R179), and every other engine stands as it was. -/
structure EngineIs (e : Fin 128) (x : Eng) (s t : State) : Prop where
  own : t.eng e = x
  trail : ∀ e', Trailer s e e' → t.eng e' = { x with task := none, wait := none, held := none, bank := (s.eng e').bank }
  others : ∀ e', e' ≠ e.val → ¬ Trailer s e e' → t.eng e' = s.eng e'

/-- Nothing but the engines has changed. -/
def OnlyEngines (s t : State) : Prop := t = { s with engs := t.engs }

/-- g[AS1] and op2 as they stood at the start of the cycle (R145, R146). -/
def srcA (w : WordSt) (f : AFields) : Word := w.g.get 0 f.as1.toNat
def srcB (w : WordSt) (f : AFields) : Word := if f.aimm then f.imm else w.g.get 0 f.as2.toNat

/-- The flags after an A operation with result `r`: with AFLG = 1, Z and N follow it, C and V are as given; S is not touched (R148). -/
def flagsAfter (x : Eng) (aflg : Bool) (r : Word) (cv : Bool × Bool) : Flags :=
  if aflg then { z := r == 0, n := r.msb, c := cv.1, v := cv.2, s := x.fl.s } else x.fl

/-- The engine has written `r` to g[AD], set the flags, and taken the A slot. -/
def engA (x : Eng) (w : WordSt) (f : AFields) (r : Word) (cv : Bool × Bool) : Eng :=
  { x with g := x.g.set 0 f.ad.toNat r, fl := flagsAfter x f.aflg r cv, word := some (wordA w) }

/-- The A operation `mk` writes to g[AD] a value `r` that is `val` of its two sources and of C, with the carry and overflow `cv`. -/
def WritesA (mk : Fin 128 → AFields → Instr) (code : Nat) (val : Word → Word → Bool → Word → Prop)
    (cv : Word → Word → Flags → Bool × Bool) : Prop :=
  ∀ (e : Fin 128) (f : AFields) (w : WordSt) (s : State), TakesA e code f w s →
    ∃ t r, Gives (mk e f) s t ∧ val (srcA w f) (srcB w f) w.fl.c r ∧ OnlyEngines s t ∧
      EngineIs e (engA (s.eng e) w f r (cv (srcA w f) (srcB w f) w.fl)) s t

/-- C and V stay as they were at the start of the cycle. -/
def keepCV (_a _b : Word) (fl : Flags) : Bool × Bool := (fl.c, fl.v)

/-- A value of the two sources. -/
def isVal (f : Word → Word → Word) (a b : Word) (_c : Bool) (r : Word) : Prop := r = f a b

end Sys2Proof.Claims

open Sys2Proof.Claims

/-- R147, R148: MOV, the logical operations, the low product and the four extrema write g[AD]; C and V stay. -/
def Obligations.AluValues : Prop :=
  WritesA .mov 0x01 (isVal fun _ b => b) keepCV ∧ WritesA .and 0x06 (isVal fun a b => a &&& b) keepCV ∧
  WritesA .or 0x07 (isVal fun a b => a ||| b) keepCV ∧ WritesA .xor 0x08 (isVal fun a b => a ^^^ b) keepCV ∧
  WritesA .not 0x09 (isVal fun _ b => ~~~b) keepCV ∧
  WritesA .mull 0x12 (isVal fun a b => BitVec.ofNat 32 (a.toNat * b.toNat)) keepCV ∧
  WritesA .min 0x13 (fun a b _ r => r.toInt = min a.toInt b.toInt) keepCV ∧
  WritesA .max 0x14 (fun a b _ r => r.toInt = max a.toInt b.toInt) keepCV ∧
  WritesA .minu 0x15 (fun a b _ r => r.toNat = min a.toNat b.toNat) keepCV ∧
  WritesA .maxu 0x16 (fun a b _ r => r.toNat = max a.toNat b.toNat) keepCV

/-- R147, R148: CLZ counts leading zeros, BFX extracts a field, bits past bit 31 reading 0, and BFI replaces one, which IMM names; C
and V stay. -/
def Obligations.AluFields : Prop :=
  WritesA .clz 0x17 (fun _ b _ r => r.toNat ≤ 32 ∧ (∀ i, 32 - r.toNat ≤ i → b.getLsbD i = false) ∧
    (r.toNat < 32 → b.getLsbD (31 - r.toNat) = true)) keepCV ∧
  WritesA .bfx 0x18 (fun a b _ r => ∀ i, r.getLsbD i = (decide (i ≤ b.toNat / 32 % 32) && a.getLsbD (b.toNat % 32 + i))) keepCV ∧
  (∀ (e : Fin 128) (f : AFields) (w : WordSt) (s : State), TakesA e 0x19 f w s →
    ∃ t r, Gives (.bfi e f) s t ∧
      (∀ i, i < 32 → r.getLsbD i = if f.imm.toNat % 32 ≤ i ∧ i ≤ f.imm.toNat % 32 + f.imm.toNat / 32 % 32
        then (srcA w f).getLsbD (i - f.imm.toNat % 32) else (w.g.get 0 f.ad.toNat).getLsbD i) ∧
      OnlyEngines s t ∧ EngineIs e (engA (s.eng e) w f r (w.fl.c, w.fl.v)) s t)

/-- R141, R147, R148: sums and differences, with C the carry or the absence of a borrow and V the signed overflow. -/
def Obligations.AluArithmetic : Prop :=
  WritesA .add 0x02 (fun a b _ r => r = a + b)
    (fun a b _ => (decide (2 ^ 32 ≤ a.toNat + b.toNat), decide ((a + b).toInt ≠ a.toInt + b.toInt))) ∧
  WritesA .adc 0x03 (fun a b c r => r = a + b + (if c then 1 else 0))
    (fun a b fl => (decide (2 ^ 32 ≤ a.toNat + b.toNat + (if fl.c then 1 else 0)),
      decide ((a + b + (if fl.c then 1 else 0)).toInt ≠ a.toInt + b.toInt + (if fl.c then 1 else 0)))) ∧
  WritesA .sub 0x04 (fun a b _ r => r = a - b) (fun a b _ => (decide (b.toNat ≤ a.toNat), decide ((a - b).toInt ≠ a.toInt - b.toInt))) ∧
  WritesA .sbc 0x05 (fun a b c r => r = a - b - (if c then 0 else 1))
    (fun a b fl => (decide (b.toNat + (if fl.c then 0 else 1) ≤ a.toNat),
      decide ((a - b - (if fl.c then 0 else 1)).toInt ≠ a.toInt - b.toInt - (if fl.c then 0 else 1)))) ∧
  (∀ (e : Fin 128) (f : AFields) (w : WordSt) (s : State), TakesA e 0x0E f w s →
    ∃ t, Gives (.cmp e f) s t ∧ OnlyEngines s t ∧
      EngineIs e { s.eng e with
        fl := flagsAfter (s.eng e) f.aflg (srcA w f - srcB w f) (decide ((srcB w f).toNat ≤ (srcA w f).toNat),
          decide ((srcA w f - srcB w f).toInt ≠ (srcA w f).toInt - (srcB w f).toInt))
        word := some (wordA w) } s t) ∧
  (∀ (e : Fin 128) (f : AFields) (w : WordSt) (s : State), TakesA e 0x0F f w s →
    ∃ t, Gives (.tst e f) s t ∧ OnlyEngines s t ∧
      EngineIs e { s.eng e with
        fl := flagsAfter (s.eng e) f.aflg (srcA w f &&& srcB w f) (w.fl.c, w.fl.v)
        word := some (wordA w) } s t)

/-- R146, R147, R148: the count is op2[4:0]; with a nonzero count C is the last bit shifted out; V stays. -/
def Obligations.AluShifts : Prop :=
  WritesA .shl 0x0A (fun a b _ r => r.toNat = a.toNat * 2 ^ (b.toNat % 32) % 2 ^ 32)
    (fun a b fl => (if b.toNat % 32 = 0 then fl.c else a.getLsbD (32 - b.toNat % 32), fl.v)) ∧
  WritesA .shr 0x0B (fun a b _ r => r.toNat = a.toNat / 2 ^ (b.toNat % 32))
    (fun a b fl => (if b.toNat % 32 = 0 then fl.c else a.getLsbD (b.toNat % 32 - 1), fl.v)) ∧
  WritesA .sar 0x0C (fun a b _ r => r.toInt = a.toInt / 2 ^ (b.toNat % 32))
    (fun a b fl => (if b.toNat % 32 = 0 then fl.c else a.getLsbD (b.toNat % 32 - 1), fl.v)) ∧
  WritesA .ror 0x0D (fun a b _ r => ∀ i, i < 32 → r.getLsbD i = a.getLsbD ((i + b.toNat % 32) % 32))
    (fun a b fl => (if b.toNat % 32 = 0 then fl.c else a.getLsbD (b.toNat % 32 - 1), fl.v))

/-- R145, R147, R148: MULU and MULS write the 64-bit product to g[AHD]:g[AD]; Z and N follow g[AD]; C and V stay. -/
def Obligations.AluProducts : Prop :=
  ∀ (e : Fin 128) (f : AFields) (w : WordSt) (s : State),
    let product (lo hi : Word) : Eng := { s.eng e with
      g := ((s.eng e).g.set 0 f.ad.toNat lo).set 0 f.ahd.toNat hi
      fl := flagsAfter (s.eng e) f.aflg lo (w.fl.c, w.fl.v)
      word := some (wordA w) }
    (TakesA e 0x10 f w s → ∃ t lo hi, Gives (.mulu e f) s t ∧
      lo.toNat + hi.toNat * 2 ^ 32 = (srcA w f).toNat * (srcB w f).toNat ∧ OnlyEngines s t ∧ EngineIs e (product lo hi) s t) ∧
    (TakesA e 0x11 f w s → ∃ t lo hi, Gives (.muls e f) s t ∧
      (lo.toNat : Int) + hi.toInt * 2 ^ 32 = (srcA w f).toInt * (srcB w f).toInt ∧ OnlyEngines s t ∧ EngineIs e (product lo hi) s t)

namespace Sys2Proof.Claims

/-- Engine `e` ends its word at the next address `pc` with this call stack: the run counts one word more, and none after END = 1
(R140, R142). -/
def WordEnds (e : Fin 128) (n : NFields) (pc : Nat) (stack : List Nat) (s t : State) : Prop :=
  OnlyEngines s t ∧
  EngineIs e { s.eng e with pc := pc, stack := stack, word := none, run := if n.last then 0 else (s.eng e).run + 1 } s t

/-- At the boundary of the instruction that ends, the engine's cluster is in service, and neither a stop for overrun nor a cancellation
waits for it (R143). -/
def Calm (e : Fin 128) (s : State) : Prop :=
  (s.eng e).overrun = false ∧ s.inService e = true ∧ ∀ k, (s.eng e).task = some k → (s.task (e.val / 8) k).cancel = false

/-- Engine `e` issues the word `w`, which has this next-address operation, is no machine check and does not give up the engine; its
slots have acted. -/
structure EndsWord (e : Fin 128) (nxt : Nat) (n : NFields) (w : WordSt) (s : State) : Prop where
  issues : s.issues e = true
  word : s.opened e = some w
  sound : wordFault (s.eng e) w = none
  slots : w.aDone = true ∧ w.xDone = true
  holds : w.holdsN nxt n = true
  stays : givesUp (xopOf w.m) = false

/-- As `EndsWord`; where the word ends the instruction nothing stops or cancels there. -/
structure TakesN (e : Fin 128) (nxt : Nat) (n : NFields) (w : WordSt) (s : State) : Prop where
  ends : EndsWord e nxt n w s
  calm : n.last = true → Calm e s

/-- The engine runs no task any more and stands at `pc` (R144). -/
def engFree (x : Eng) (pc : Nat) : Eng :=
  { x with pc := pc, stack := [], word := none, run := 0, task := none, wait := none, held := none }

/-- The sequencer operations by their NXT code (R140). -/
def nRows (e : Fin 128) (n : NFields) (hw : HwFault) : List (Nat × Instr) :=
  [(0, .inc e n hw), (1, .br e n hw), (2, .brc e n hw), (3, .call e n hw), (4, .callc e n hw), (5, .ret e n hw), (6, .retc e n hw)]

/-- The condition of a word holds on the flags as they stood at the start of its cycle (R141). -/
def Holds (w : WordSt) (n : NFields) : Prop := condHolds w.fl n.cond = true

/-- The bytes of a load: size 0 a byte, 1 a half-word, 2 a word, the lowest address least significant, with zeros or the sign above. -/
def loadVal (m : Memory) (a size : Nat) (sext : Bool) : Word :=
  match size with
  | 0 => if sext then (m.byte a).signExtend 32 else (m.byte a).setWidth 32
  | 1 => if sext then (m.byte (a + 1) ++ m.byte a).signExtend 32 else (m.byte (a + 1) ++ m.byte a).setWidth 32
  | _ => m.byte (a + 3) ++ m.byte (a + 2) ++ m.byte (a + 1) ++ m.byte a

/-- XARG[1:0] and XARG[2] of a load or a store (R149). -/
def accSize (x : XFields) : Nat := x.xarg.toNat % 4
def accSigned (x : XFields) : Bool := x.xarg.toNat / 4 % 2 == 1

/-- A register as it stood at the start of the cycle (R145). -/
def regX (w : WordSt) (i : Nat) : Word := w.g.get 0 i

/-- The address of an X operation: g[XS1] + IMM with XIMM = 1, g[XS1] otherwise (R149). -/
def addrX (w : WordSt) (f : XFields) : Nat :=
  ((if f.ximm then regX w f.xs1.toNat + f.imm else regX w f.xs1.toNat) : Word).toNat

/-- The engine has written these registers with an X operation, and S is as given; the X slot is taken (R149). -/
def engX (x : Eng) (w : WordSt) (regs : List Nat) (vals : List Word) (sflag : Bool) : Eng :=
  { x with
    g := (regs.zip vals).foldl (fun g p => g.set 0 p.1 p.2) x.g
    fl := { x.fl with s := sflag }
    word := some (wordX w) }

/-- The X operation of engine `e` writes these registers and touches nothing else, no flag either (R149). -/
def WritesRegs (e : Fin 128) (w : WordSt) (regs : List Nat) (vals : List Word) (s t : State) : Prop :=
  OnlyEngines s t ∧ EngineIs e (engX (s.eng e) w regs vals (s.eng e).fl.s) s t

/-- Between two states the tasks of the clusters stand, but that some that were STALLED are READY (R144, R169). -/
def Woken (s t : State) : Prop :=
  ∀ c k, t.task c k = s.task c k ∨ ((s.task c k).st = tSTALLED ∧ t.task c k = { s.task c k with st := tREADY })

/-- The quad of registers at XD (R145). -/
def quad (f : XFields) : List Nat := [f.xd.toNat, f.xd.toNat + 1, f.xd.toNat + 2, f.xd.toNat + 3]

/-- Four words of a memory. -/
def fourWords (m : Memory) (a : Nat) : List Word := (List.range 4).map (fun i => loadVal m (a + 4 * i) 2 false)

end Sys2Proof.Claims

/-- R140, R143: the seven sequencer operations form the next address and the call stack; a CALL or CALLC at 0xFFF pushes 0, which is the
model's reading: log entry 44. At an END word a stop for overrun comes first, a cluster out of service holds the engine there, and a
cancellation ends the task. A word that forms no legal address is a machine check: `MachineChecks`. -/
def Obligations.SequencerNext : Prop :=
  (∀ (e : Fin 128) (n : NFields) (w : WordSt) (k pc : Nat) (stack : List Nat) (s : State), n.last = true → (s.eng e).task = some k →
    ∀ r ∈ nRows e n .none, EndsWord e r.1 n w s → nextAddr (s.eng e) r.1 n (condHolds w.fl n.cond) = .go pc stack →
      ((s.eng e).overrun = true → ∃ t, Gives r.2 s t ∧ OnlyEngines s t ∧
        EngineIs e { s.eng e with pc := pc, stack := stack, word := none, run := 0, halted := true } s t) ∧
      ((s.eng e).overrun = false → s.inService e = false → ∃ t, Gives r.2 s t ∧ OnlyEngines s t ∧
        EngineIs e { s.eng e with pc := pc, stack := stack, word := none, run := 0, held := some (.none, pc) } s t) ∧
      ((s.eng e).overrun = false → s.inService e = true → (s.task (e.val / 8) k).cancel = true → ∃ t, Gives r.2 s t ∧
        t = { s with engs := t.engs, clus := t.clus } ∧ EngineIs e (engFree (s.eng e) pc) s t ∧
        (t.task (e.val / 8) k).st = tCANCELLED ∧ (t.task (e.val / 8) k).rdy = 0 ∧
        ∀ k', k' ≠ k → t.task (e.val / 8) k' = s.task (e.val / 8) k')) ∧
  ∀ (e : Fin 128) (n : NFields) (w : WordSt) (s : State),
    let x := s.eng e
    (TakesN e 0 n w s → ∃ t, Gives (.inc e n .none) s t ∧ WordEnds e n (x.pc + 1) x.stack s t) ∧
    (TakesN e 1 n w s → ∃ t, Gives (.br e n .none) s t ∧ WordEnds e n n.target.toNat x.stack s t) ∧
    (TakesN e 2 n w s →
      (Holds w n → ∃ t, Gives (.brc e n .none) s t ∧ WordEnds e n n.target.toNat x.stack s t) ∧
      (¬ Holds w n → ∃ t, Gives (.brc e n .none) s t ∧ WordEnds e n (x.pc + 1) x.stack s t)) ∧
    (TakesN e 3 n w s →
      ∃ t, Gives (.call e n .none) s t ∧ WordEnds e n n.target.toNat ((x.pc + 1) % 4096 :: x.stack) s t) ∧
    (TakesN e 4 n w s →
      (Holds w n → ∃ t, Gives (.callc e n .none) s t ∧ WordEnds e n n.target.toNat ((x.pc + 1) % 4096 :: x.stack) s t) ∧
      (¬ Holds w n → ∃ t, Gives (.callc e n .none) s t ∧ WordEnds e n (x.pc + 1) x.stack s t)) ∧
    (TakesN e 5 n w s → ∃ t a k, x.stack = a :: k ∧ Gives (.ret e n .none) s t ∧ WordEnds e n a k s t) ∧
    (TakesN e 6 n w s →
      (Holds w n → ∃ t a k, x.stack = a :: k ∧ Gives (.retc e n .none) s t ∧ WordEnds e n a k s t) ∧
      (¬ Holds w n → ∃ t, Gives (.retc e n .none) s t ∧ WordEnds e n (x.pc + 1) x.stack s t))

/-- R135, R149, R150, R151, R156: the loads, SMPRD, TBRD, IDRD and FENCE write their registers and nothing else; no flag changes. That
SMPRD reads 0 while domain 86 is not ON, and that IDRD names task 0 where none runs, are the model's choices: log entries 46 and 45. -/
def Obligations.EngineReads : Prop :=
  ∀ (e : Fin 128) (f : XFields) (w : WordSt) (s : State),
    let c := e.val / 8
    (TakesX e 0x01 f w s → ∃ t, Gives (.ldl e f .none) s t ∧
      WritesRegs e w [f.xd.toNat] [loadVal (s.eng e).mem (addrX w f) (accSize f) (accSigned f)] s t) ∧
    (TakesX e 0x03 f w s → ∃ t, Gives (.lds e f .none) s t ∧
      WritesRegs e w [f.xd.toNat] [loadVal (s.clu c).shared (addrX w f) (accSize f) (accSigned f)] s t) ∧
    (TakesX e 0x06 f w s → ∃ t, Gives (.ldq e f .none) s t ∧
      WritesRegs e w (quad f) (fourWords (s.eng e).mem (addrX w f)) s t) ∧
    (TakesX e 0x1A f w s → ∃ t, Gives (.smprd e f .none) s t ∧
      (f.xarg.toNat % 2 = 0 → WritesRegs e w [f.xd.toNat] [if s.dst 86 = 0 then loadVal s.smem (addrX w f) 2 false else 0] s t) ∧
      (f.xarg.toNat % 2 = 1 →
        WritesRegs e w (quad f) (if s.dst 86 = 0 then fourWords s.smem (addrX w f) else [0, 0, 0, 0]) s t)) ∧
    (TakesX e 0x10 f w s → ∃ t, Gives (.tbrd e f) s t ∧ WritesRegs e w [f.xd.toNat]
      [if f.xarg.toNat % 8 = 0 then lo32 s.tb else if f.xarg.toNat % 8 = 1 then hi32 s.tb
       else if f.xarg.toNat % 8 = 2 then s.reg pageTB Off.tb_TICKNUM else BitVec.ofNat 32 ((s.now - s.tick.bnd) / 2)] s t) ∧
    (TakesX e 0x11 f w s → ∃ t v, Gives (.idrd e f) s t ∧ WritesRegs e w [f.xd.toNat] [v] s t ∧
      (f.xarg.toNat % 8 = 0 → v = BitVec.ofNat 32 (e.val % 8 + c * 2 ^ 4 + s.role c * 2 ^ 8 + s.epoch (s.role c) * 2 ^ 16 +
        (s.eng e).task.getD 0 * 2 ^ 24)) ∧
      (f.xarg.toNat % 8 = 1 → v.toNat < 16 ∧ v.getLsbD 0 = (s.eng e).bank ∧ v.getLsbD 1 = s.mirrorOn c ∧
        v.getLsbD 2 = s.checked e ∧ v.getLsbD 3 = (s.checked e && e.val % 2 == 0))) ∧
    (TakesX e 0x08 f w s → ∃ t, Gives (.fence e f) s t ∧ WritesRegs e w [] [] s t)

/-- R135, R149, R150: the stores put the low bytes of their data at the address, AADDS adds to a shared word and returns the old one;
every other byte of the memory stands. -/
def Obligations.EngineStores : Prop :=
  ∀ (e : Fin 128) (f : XFields) (w : WordSt) (s : State),
    let a := addrX w f
    let own := (s.clu (e.val / 8)).shared
    let d := regX w f.xs2.toNat
    let taken : Eng := { s.eng e with word := some (wordX w) }
    let sharedOnly (t : State) : Prop := t = { s with engs := t.engs, clus := t.clus } ∧ Woken s t ∧
      (∀ c, t.clu c = { s.clu c with shared := (t.clu c).shared, tasks := (t.clu c).tasks }) ∧
      ∀ c b, c ≠ e.val / 8 → (t.clu c).shared.byte b = (s.clu c).shared.byte b
    (TakesX e 0x02 f w s → ∃ t, Gives (.stl e f) s t ∧ OnlyEngines s t ∧ EngineIs e { taken with mem := (t.eng e).mem } s t ∧
      ∀ b, (t.eng e).mem.byte b = if a ≤ b ∧ b < a + 2 ^ accSize f then (d >>> (8 * (b - a))).setWidth 8 else (s.eng e).mem.byte b) ∧
    (TakesX e 0x04 f w s → ∃ t, Gives (.sts e f .none) s t ∧ sharedOnly t ∧ EngineIs e taken s t ∧
      ∀ b, (t.clu (e.val / 8)).shared.byte b =
        if a ≤ b ∧ b < a + 2 ^ accSize f then (d >>> (8 * (b - a))).setWidth 8 else own.byte b) ∧
    (TakesX e 0x07 f w s → ∃ t, Gives (.stq e f) s t ∧ OnlyEngines s t ∧ EngineIs e { taken with mem := (t.eng e).mem } s t ∧
      ∀ b, (t.eng e).mem.byte b = if a ≤ b ∧ b < a + 16
        then (regX w (f.xs2.toNat + (b - a) / 4) >>> (8 * (b % 4))).setWidth 8 else (s.eng e).mem.byte b) ∧
    (TakesX e 0x05 f w s → ∃ t, Gives (.aadds e f .none) s t ∧ sharedOnly t ∧
      EngineIs e { taken with g := (s.eng e).g.set 0 f.xd.toNat (loadVal own a 2 false) } s t ∧
      loadVal (t.clu (e.val / 8)).shared a 2 false = loadVal own a 2 false + d ∧
      ∀ b, b / 4 ≠ a / 4 → (t.clu (e.val / 8)).shared.byte b = own.byte b)

namespace Sys2Proof.Claims

/-- Cluster `c` becomes `x` and every other cluster stands. -/
def CluIs (c : Nat) (x : Clu) (s t : State) : Prop := t.clu c = x ∧ ∀ c', c' ≠ c → t.clu c' = s.clu c'

/-- Task `k` of cluster `c` becomes `x`; every other task and all else of the clusters stand. -/
def TaskIs (c k : Nat) (x : TaskSt) (s t : State) : Prop :=
  t.task c k = x ∧ (∀ k', k' ≠ k → t.task c k' = s.task c k') ∧ CluIs c { s.clu c with tasks := (t.clu c).tasks } s t

/-- The 64-bit target of 48 stored bits: the value within 2^47 of the TB of acceptance (R122). -/
def NearTarget (t48 tb x : Nat) : Prop := ∃ d : Int, -(2 ^ 47) ≤ d ∧ d ≤ 2 ^ 47 ∧ (x : Int) = ((tb : Int) + d) % 2 ^ 64 ∧ x % 2 ^ 48 = t48

/-- A code in [31:24], as POST and the other operations that can fail return it (R152). -/
def codeWord (code : Nat) : Word := BitVec.ofNat 32 (code * 2 ^ 24)

/-- The chan operand: IMM[7:0] with XIMM = 1, g[XS2][7:0] otherwise (R149). -/
def chanX (w : WordSt) (f : XFields) : Nat := (if f.ximm then f.imm else regX w f.xs2.toNat).toNat % 256

/-- The shift unit of channel `c` becomes `u`; all else of the channels stands. -/
def UnitIs (c : Nat) (u : ShiftSt) (s t : State) : Prop :=
  t.chan c = { s.chan c with shift := u } ∧ ∀ c', c' ≠ c → t.chan c' = s.chan c'

/-- Engine `e` issues a word that gives it up, the operation `code` of its X slot, and its A slot has acted; `k` is the task that it
runs, and nothing stops or cancels at the boundary (R143, R144). -/
structure GivesUp (e : Fin 128) (code : Nat) (f : XFields) (n : CtlNext) (w : WordSt) (k : Nat) (s : State) : Prop where
  takes : TakesX e code f w s
  slotA : w.aDone = true
  next : w.holdsN n.nxt.toNat n.n = true
  task : (s.eng e).task = some k
  calm : Calm e s

/-- The address that NXT forms: TARGET for BR, else PC + 1 (R140, R144). -/
def nextPc (x : Eng) (n : CtlNext) : Nat := if n.nxt = 1 then n.n.target.toNat else x.pc + 1

/-- What YIELD and WAITEV save: g12 to g15, the flags and the resume address (R144). -/
def saved (x : Eng) (pc : Nat) (k : TaskSt) : TaskSt :=
  { k with save := [x.g.get 0 12, x.g.get 0 13, x.g.get 0 14, x.g.get 0 15], fl := x.fl, resume := pc }

/-- The A operations, and the X operations that the checkers compare (R147, R149, R179). -/
def aRows (e : Fin 128) (f : AFields) : List (Nat × Instr) :=
  [(0x01, .mov e f), (0x02, .add e f), (0x03, .adc e f), (0x04, .sub e f), (0x05, .sbc e f), (0x06, .and e f), (0x07, .or e f),
   (0x08, .xor e f), (0x09, .not e f), (0x0A, .shl e f), (0x0B, .shr e f), (0x0C, .sar e f), (0x0D, .ror e f), (0x0E, .cmp e f),
   (0x0F, .tst e f), (0x10, .mulu e f), (0x11, .muls e f), (0x12, .mull e f), (0x13, .min e f), (0x14, .max e f), (0x15, .minu e f),
   (0x16, .maxu e f), (0x17, .clz e f), (0x18, .bfx e f), (0x19, .bfi e f)]
def xRows (e : Fin 128) (f : XFields) (hw : HwFault) : List (Nat × Instr) :=
  [(0x01, .ldl e f hw), (0x02, .stl e f), (0x03, .lds e f hw), (0x04, .sts e f hw), (0x05, .aadds e f hw), (0x06, .ldq e f hw),
   (0x07, .stq e f), (0x08, .fence e f), (0x10, .tbrd e f), (0x11, .idrd e f), (0x12, .post e f hw), (0x13, .cancel e f hw),
   (0x14, .msgsend e f hw), (0x15, .msgrecv e f hw), (0x16, .ecrd e f hw), (0x17, .ring e f hw), (0x18, .logw e f hw),
   (0x1A, .smprd e f hw), (0x1B, .caprd e f hw)]

/-- The X operations that read a memory, each with whether that memory is the engine's own. -/
def memRows (e : Fin 128) (f : XFields) (hw : HwFault) : List (Nat × Bool × Instr) :=
  [(0x01, true, .ldl e f hw), (0x03, false, .lds e f hw), (0x05, false, .aadds e f hw), (0x06, true, .ldq e f hw),
   (0x12, true, .post e f hw)]

/-- The cluster's log, which holds 8, has this check too; past that the check is counted in MCLOST (R164, R190). -/
structure CheckLogged (e : Fin 128) (k cls : Nat) (s t : State) : Prop where
  room : (s.clu (e.val / 8)).mclog.length < 8 → (t.clu (e.val / 8)).mclog =
    (s.clu (e.val / 8)).mclog ++ [(cls + (s.eng e).pc * 2 ^ 8 + e.val % 8 * 2 ^ 20 + k * 2 ^ 24, s.now)]
  full : 8 ≤ (s.clu (e.val / 8)).mclog.length → (t.clu (e.val / 8)).mclog = (s.clu (e.val / 8)).mclog ∧
    t.fld (pageCL (e.val / 8)) Off.cl_MCLOST 0 8 = min 255 (s.fld (pageCL (e.val / 8)) Off.cl_MCLOST 0 8 + 1)

/-- A machine check of class `cls` has been taken by engine `e`, which ran task `k` (R164): the task is cancelled, the engine stands
stopped, the check is logged, rung and alarmed; and no result of the word is left in a register. -/
structure Checked (e : Fin 128) (k cls : Nat) (s t : State) : Prop where
  task : (t.task (e.val / 8) k).st = tCANCELLED
  engine : (t.eng e).task = none ∧ (t.eng e).halted = true ∧ (t.eng e).word = none ∧ (t.eng e).stack = []
  regs : ((s.eng e).word = none → (t.eng e).g = (s.eng e).g) ∧ ∀ w, (s.eng e).word = some w → (t.eng e).g = w.g ∧ (t.eng e).fl = w.fl
  log : CheckLogged e k cls s t
  bell : (0x010 + e.val / 8) ∈ t.iu.flight
  int : t.flag (pageCL (e.val / 8)) 0x018 17 = true
  alarm : ∃ a ∈ t.whey.alarms, a.origin = 0x800 + e.val ∧ a.kind = 0x002
  hard : cls = 1 ∨ cls = 2 → (t.clu (e.val / 8)).faultDue = true

/-- A core fault of the checked pair of engine `e` (R180): both engines stand stopped, the pair is in PAIRFAULT, and the cluster is due
to go to FAULT. -/
structure PairFails (e : Fin 128) (k : Nat) (s t : State) : Prop where
  task : (t.task (e.val / 8) k).st = tCANCELLED
  engines : (t.eng e).task = none ∧ (t.eng e).halted = true ∧ (t.eng (e.val + 1)).halted = true
  pair : t.pairState (e.val / 8) (e.val % 8 / 2) = 3
  bell : (0x030 + e.val / 8) ∈ t.iu.flight
  int : t.flag (pageCL (e.val / 8)) 0x018 18 = true
  fault : (t.clu (e.val / 8)).faultDue = true

end Sys2Proof.Claims

/-- R153, R154, R175, R176: MSGSEND puts an accepted message into the cluster's outbound buffer, or refuses it with a code and S = 1;
MSGRECV and ECRD pop their queues, or find them empty with S = 1 and write nothing. -/
def Obligations.EngineQueues : Prop :=
  ∀ (e : Fin 128) (f : XFields) (w : WordSt) (s : State),
    let c := e.val / 8
    let dst := (regX w f.xs1.toNat).toNat
    let free : Prop := (s.msgs.filter (·.1 == c)).length < 8
    (TakesX e 0x14 f w s →
      (dst / 2 ^ 14 = 0 → dst % 256 ≠ 0 → free → ∃ t, Gives (.msgsend e f .none) s t ∧ t = { s with engs := t.engs, msgs := t.msgs } ∧
        t.msgs = s.msgs ++ [(c,
          { addr := regX w f.xs1.toNat
            sender := BitVec.ofNat 32 (s.epoch (s.role c) + s.role c * 2 ^ 8 + s.devnum * 2 ^ 12)
            lo := regX w f.xs2.toNat
            hi := regX w (f.xs2.toNat + 1) })] ∧
        EngineIs e (engX (s.eng e) w [f.xd.toNat] [0] false) s t) ∧
      (dst / 2 ^ 14 ≠ 0 ∨ dst % 256 = 0 ∨ ¬ free → ∃ t, Gives (.msgsend e f .none) s t ∧ OnlyEngines s t ∧
        EngineIs e (engX (s.eng e) w [f.xd.toNat]
          [codeWord (if dst / 2 ^ 14 ≠ 0 then 0x06 else if dst % 256 = 0 then 0x01 else 0x0C)] true) s t)) ∧
    (TakesX e 0x15 f w s →
      (∀ m q, (s.clu c).msgq = m :: q → ∃ t, Gives (.msgrecv e f .none) s t ∧ t = { s with engs := t.engs, clus := t.clus } ∧
        CluIs c { s.clu c with msgq := q } s t ∧ EngineIs e (engX (s.eng e) w (quad f) [m.lo, m.hi, m.sender, 0] false) s t) ∧
      ((s.clu c).msgq = [] → ∃ t, Gives (.msgrecv e f .none) s t ∧ OnlyEngines s t ∧
        EngineIs e (engX (s.eng e) w [] [] true) s t)) ∧
    (TakesX e 0x16 f w s →
      (∀ r q, (s.clu c).ecq = r :: q → ∃ t, Gives (.ecrd e f .none) s t ∧ t = { s with engs := t.engs, clus := t.clus } ∧
        CluIs c { s.clu c with ecq := q } s t ∧ EngineIs e (engX (s.eng e) w (quad f) r false) s t) ∧
      ((s.clu c).ecq = [] → ∃ t, Gives (.ecrd e f .none) s t ∧ OnlyEngines s t ∧
        EngineIs e (engX (s.eng e) w [] [] true) s t))

/-- R123, R126, R152, R155, R156: POST enters an acceptable entry and returns its handle with code OK, and another returns its code;
CANCEL ends an event of the engine's role; RING rings its doorbell; LOGW hands its record to Whey, with the role of its cluster;
CAPRD pops a capture. Where the chapter leaves a reading open, it follows the model's: log entry 40. -/
def Obligations.EngineDevices : Prop :=
  ∀ (e : Fin 128) (f : XFields) (w : WordSt) (s : State),
    let c := e.val / 8
    let r := s.role c
    (TakesX e 0x12 f w s →
      (let ws := fourWords (s.eng e).mem (addrX w f)
       let y := entryFields (ws.getD 0 0) (ws.getD 1 0) (ws.getD 2 0) (ws.getD 3 0)
       let code := firstErr (entryErrs y false s ++ [(0x0C, s.calFull r)])
       (∀ slot, code = 0 → s.freeSlot = some slot → ∃ t, Gives (.post e f .none) s t ∧
         t = { s with engs := t.engs, cal := t.cal, regs := t.regs, fresh := t.fresh, iu := t.iu } ∧
         (∃ x, t.cal.evs = s.cal.evs ++ [x] ∧ x.slot = slot ∧ x.owner = r ∧ x.epoch = s.epoch r ∧ x.cpl = true ∧ x.pch = y.pch ∧
           x.kind = y.kind ∧ x.dur = y.dur ∧ x.tag = y.tag ∧ x.st = 0 ∧ x.angle = y.angle ∧ x.wheel = y.wheel ∧ x.drop = y.drop ∧
           x.nextcyc = y.nextcyc ∧
           (y.angle = false → NearTarget y.target s.tb.toNat x.target) ∧
           (y.angle = true → y.nextcyc = false → x.target = y.target) ∧
           (y.angle = true → y.nextcyc = true → ∀ a, s.refAngle y.wheel = some a → x.unres = false ∧
             x.target % 2 ^ 24 = y.target % 2 ^ 24 ∧ (x.target / 2 ^ 24 = a / 2 ^ 24 % 2 ^ 8 ∨
               x.target / 2 ^ 24 = (a / 2 ^ 24 + 1) % 2 ^ 8)) ∧
           EngineIs e (engX (s.eng e) w [f.xd.toNat] [BitVec.ofNat 32 (x.slot + x.gen * 2 ^ 14)] (s.eng e).fl.s) s t)) ∧
       (code ≠ 0 → ∃ t, Gives (.post e f .none) s t ∧ WritesRegs e w [f.xd.toNat] [codeWord code] s t))) ∧
    (TakesX e 0x13 f w s →
      (∀ x, s.byHandle ((regX w f.xs1.toNat).toNat % 2 ^ 22) = some x →
        (x.owner = r → x.st ≠ 2 → ∃ t, Gives (.cancel e f .none) s t ∧
          (∀ y ∈ t.cal.evs, y.slot = x.slot → y.st = 2 ∧ y.status = 3) ∧
          EngineIs e (engX (s.eng e) w [f.xd.toNat] [0] (s.eng e).fl.s) s t) ∧
        (x.owner ≠ r → ∃ t, Gives (.cancel e f .none) s t ∧ WritesRegs e w [f.xd.toNat] [codeWord 0x0D] s t) ∧
        (x.owner = r → x.st = 2 → ∃ t, Gives (.cancel e f .none) s t ∧ WritesRegs e w [f.xd.toNat] [codeWord 0x02] s t)) ∧
      (s.byHandle ((regX w f.xs1.toNat).toNat % 2 ^ 22) = none →
        ∃ t, Gives (.cancel e f .none) s t ∧ WritesRegs e w [f.xd.toNat] [codeWord 0x02] s t)) ∧
    (TakesX e 0x17 f w s → ∃ t, Gives (.ring e f .none) s t ∧ t = { s with engs := t.engs, iu := t.iu } ∧
      t.iu = { s.iu with flight := s.iu.flight ++
        [0x800 + if f.xarg.toNat / 2 ^ 12 % 2 = 1 then (regX w f.xs1.toNat).toNat % 2 ^ 11 else f.xarg.toNat % 2 ^ 11] } ∧
      EngineIs e (engX (s.eng e) w [] [] (s.eng e).fl.s) s t) ∧
    (TakesX e 0x18 f w s →
      ((s.whey.queued.filter (·.1 == pageCL c)).length < 8 → ∃ t, Gives (.logw e f .none) s t ∧
        t = { s with engs := t.engs, whey := { s.whey with queued := t.whey.queued } } ∧
        (∃ x, t.whey.queued = s.whey.queued ++ [(pageCL c, x)] ∧ x.cls = 1 ∧ x.origin = 0x800 + e.val ∧ x.role = some r ∧
          x.kind = f.xarg.toNat % 2 ^ 12 ∧ x.tb = s.now ∧
          x.body = (List.range 4).map (fun i => regX w (f.xs1.toNat + i))) ∧
        EngineIs e (engX (s.eng e) w [] [] false) s t) ∧
      (8 ≤ (s.whey.queued.filter (·.1 == pageCL c)).length → ∃ t, Gives (.logw e f .none) s t ∧ t.whey.queued = s.whey.queued ∧
        EngineIs e (engX (s.eng e) w [] [] true) s t)) ∧
    (TakesX e 0x1B f w s →
      (let ch := chanX w f
       (∀ (k : CapEntry) (q : List CapEntry), s.pageOn (chPage ch) = true → (s.chan ch).capq = k :: q →
         ∃ t, Gives (.caprd e f .none) s t ∧ t = { s with engs := t.engs, chans := t.chans } ∧
           t.chan ch = { s.chan ch with capq := q } ∧ (∀ c', c' ≠ ch → t.chan c' = s.chan c') ∧
           EngineIs e (engX (s.eng e) w (quad f) [BitVec.ofNat 32 k.tb, BitVec.ofNat 32 (k.tb / 2 ^ 32), k.ang.getD 0,
             BitVec.ofNat 32 (1 + (if k.pol then 1 else 0) * 2 + (if k.ang.isSome then 1 else 0) * 4 + q.length * 8)] false) s t) ∧
       (s.pageOn (chPage ch) = false ∨ (s.chan ch).capq = [] → ∃ t a b, Gives (.caprd e f .none) s t ∧
         t = { s with engs := t.engs, free := t.free } ∧
         EngineIs e (engX (s.eng e) w (quad f) [a, b, 0, if s.pageOn (chPage ch) then 0 else codeWord 0x05] true) s t)))

/-- R157 to R159: SHIFT CFG puts an acceptable descriptor in force with an empty buffer, TX adds bits while there is room and RX takes
bits that are there, in line order, or the engine stalls; a unit of the other direction refuses; ST reads the unit and clears its sticky
flags, and a SHIFT stalled on a unit that takes a new descriptor ends with S = 1 (R162). That CFG keeps the count of frames is the model's
reading: log entry 47. -/
def Obligations.ShiftOperations : Prop :=
  ∀ (e : Fin 128) (f : XFields) (w : WordSt) (s : State), TakesX e 0x19 f w s →
    (let c := chanX w f
     let u := s.unit c
     let n := f.xarg.toNat % 32 + 1
     let op := f.xarg.toNat / 2 ^ 11
     let stall (tx : Bool) (d : Word) : Eng := { s.eng e with
       word := some (wordX w), wait := some { chan := c, tx := tx, n := n, xd := f.xd.toNat, data := d, since := s.now } }
     let stalls (tx : Bool) (d : Word) (t : State) : Prop := t = { s with engs := t.engs, clus := t.clus } ∧
       EngineIs e (stall tx d) s t ∧ ∀ k, (s.eng e).task = some k →
         TaskIs (e.val / 8) k { s.task (e.val / 8) k with st := tSTALLED, shiftWait := true } s t
     (op = 1 →
       (u.transmits = true → u.buf.length + n ≤ 32 → ∃ t, Gives (.tx e f .none) s t ∧ t = { s with engs := t.engs, chans := t.chans } ∧
         UnitIs c { u with buf := u.buf ++ wordBits u.lsbf (regX w f.xs1.toNat) n } s t ∧
         EngineIs e (engX (s.eng e) w [f.xd.toNat] [0] false) s t) ∧
       (u.transmits = true → 32 < u.buf.length + n → ∃ t, Gives (.tx e f .none) s t ∧ stalls true (regX w f.xs1.toNat) t) ∧
       (u.transmits = false → ∃ t, Gives (.tx e f .none) s t ∧ OnlyEngines s t ∧
         EngineIs e (engX (s.eng e) w [f.xd.toNat] [codeWord 0x02] true) s t)) ∧
     (op = 2 →
       (u.receives = true → n ≤ u.buf.length → ∃ t, Gives (.rx e f .none) s t ∧ t = { s with engs := t.engs, chans := t.chans } ∧
         UnitIs c { u with buf := u.buf.drop n } s t ∧
         EngineIs e (engX (s.eng e) w [f.xd.toNat] [BitVec.ofNat 32 (bitsVal u.lsbf (u.buf.take n))] false) s t) ∧
       (u.receives = true → u.buf.length < n → ∃ t, Gives (.rx e f .none) s t ∧ stalls false 0 t) ∧
       (u.receives = false → ∃ t, Gives (.rx e f .none) s t ∧ OnlyEngines s t ∧
         EngineIs e (engX (s.eng e) w [f.xd.toNat] [0] true) s t)) ∧
     (op = 3 → ∃ t v, Gives (.st e f .none) s t ∧ t = { s with engs := t.engs, chans := t.chans } ∧
       UnitIs c { u with frmErr := false, ovr := false, tmo := false } s t ∧
       EngineIs e (engX (s.eng e) w [f.xd.toNat] [v] false) s t ∧ (u.buf.length < 256 → v.toNat % 256 = u.buf.length) ∧
       (u.buf.length < 256 → v.getLsbD 8 = u.busy ∧ v.getLsbD 9 = u.tick.isSome ∧ v.getLsbD 10 = u.frmErr ∧ v.getLsbD 11 = u.ovr ∧
         v.getLsbD 12 = u.tmo ∧ v.toNat / 2 ^ 13 % 2 ^ 3 = u.w0.toNat % 2 ^ 3 ∧ v.toNat / 2 ^ 16 = u.frames % 2 ^ 16)) ∧
     (op = 0 →
       (let errs := descErrs c { w0 := regX w f.xs1.toNat, w1 := regX w (f.xs1.toNat + 1), frames := u.frames } s
        (firstErr errs = 0 → s.stalledOn c = [] →
          ∃ t, Gives (.cfg e f .none) s t ∧ t = { s with engs := t.engs, chans := t.chans, clus := t.clus } ∧ Woken s t ∧
            (∀ c', t.clu c' = { s.clu c' with tasks := (t.clu c').tasks }) ∧ (∀ c', c' ≠ c → t.chan c' = s.chan c') ∧
            (t.unit c).w0 = regX w f.xs1.toNat ∧ (t.unit c).w1 = regX w (f.xs1.toNat + 1) ∧ (t.unit c).buf = [] ∧
            (t.unit c).frmErr = false ∧ (t.unit c).ovr = false ∧ (t.unit c).tmo = false ∧ (t.unit c).frames = u.frames ∧
            EngineIs e (engX (s.eng e) w [f.xd.toNat] [0] false) s t) ∧
        (firstErr errs = 0 → ∀ (e' : Nat) (v : ShiftWait), e' ≠ e.val → ¬ Trailer s e e' → s.checked e' = false →
          (s.eng e').wait = some v → v.chan = c → s.stalledOn c = [e'] → ∃ t, Gives (.cfg e f .none) s t ∧
            (t.unit c).w0 = regX w f.xs1.toNat ∧ (t.unit c).w1 = regX w (f.xs1.toNat + 1) ∧ (t.unit c).buf = [] ∧
            t.eng e' = { s.eng e' with
              g := (s.eng e').g.set 0 v.xd (if v.tx then codeWord 0x02 else 0), fl := { (s.eng e').fl with s := true }, wait := none } ∧
            (∀ k, (s.eng e').task = some k → (t.task (e' / 8) k).st = tRUNNING) ∧
            EngineIs e (engX (s.eng e) w [f.xd.toNat] [0] false) { s with engs := s.engs.set {} e' (t.eng e') } t) ∧
        (firstErr errs ≠ 0 → ∃ t, Gives (.cfg e f .none) s t ∧ OnlyEngines s t ∧
          EngineIs e (engX (s.eng e) w [f.xd.toNat] [codeWord (firstErr errs)] true) s t))))

/-- R143, R144, R169, R171: DONE, YIELD and WAITEV give up the engine and leave the task DONE, READY or STALLED with what R144 saves; a
stop for overrun and a cancellation come before them, and the one that does not act there is the model's reading: log entry 17; dispatch
loads g12 to g15 and the flags and starts at the resume address with an empty call stack: log entry 44. -/
def Obligations.TaskControl : Prop :=
  (∀ (e : Fin 128) (f : XFields) (n : CtlNext) (w : WordSt) (k : Nat) (s : State),
    let c := e.val / 8
    let own := s.task c k
    let pc := nextPc (s.eng e) n
    (GivesUp e 0x1C f n w k s → ∃ t, Gives (.done e f n .none) s t ∧ t = { s with engs := t.engs, clus := t.clus } ∧
      TaskIs c k (if own.rdy = 0 then { own with st := tDONE }
        else { own with st := tREADY, rdy := own.rdy - 1, resume := s.taskEntry c k }) s t ∧
      EngineIs e (engFree (s.eng e) pc) s t) ∧
    (GivesUp e 0x1D f n w k s → ∃ t, Gives (.yield e f n .none) s t ∧ t = { s with engs := t.engs, clus := t.clus } ∧
      TaskIs c k { saved (s.eng e) pc own with st := tREADY } s t ∧ EngineIs e (engFree (s.eng e) pc) s t) ∧
    (GivesUp e 0x1E f n w k s →
      (let m := (if f.ximm then f.imm else regX w f.xs1.toNat).toNat % 2 ^ 16
       ∃ t, Gives (.waitev e f n .none) s t ∧ t = { s with engs := t.engs, clus := t.clus } ∧
        t.task c k = { saved (s.eng e) pc own with
          st := if s.levelTrue c m || s.latched c m then tREADY else tSTALLED, mask := m } ∧
        (∀ k', k' ≠ k → t.task c k' = s.task c k') ∧
        CluIs c { s.clu c with tasks := (t.clu c).tasks, latch := (t.clu c).latch } s t ∧
        (∀ i, i < 12 → (t.clu c).latch.getLsbD i = ((s.clu c).latch.getLsbD i && !(decide (m / 2 ^ (4 + i) % 2 = 1)))) ∧
        EngineIs e (engFree (s.eng e) pc) s t)) ∧
    (∀ x, x ∈ [(0x1C, Instr.done e f n .none), (0x1D, .yield e f n .none), (0x1E, .waitev e f n .none)] →
      TakesX e x.1 f w s → w.aDone = true → w.holdsN n.nxt.toNat n.n = true → (s.eng e).task = some k →
      ((s.eng e).overrun = true → ∃ t, Gives x.2 s t ∧ OnlyEngines s t ∧
        EngineIs e { s.eng e with pc := pc, stack := [], word := none, run := 0, halted := true } s t) ∧
      ((s.eng e).overrun = false → s.inService e = true → own.cancel = true → ∃ t, Gives x.2 s t ∧
        t = { s with engs := t.engs, clus := t.clus } ∧ EngineIs e (engFree (s.eng e) pc) s t ∧
        (t.task c k).st = tCANCELLED ∧ (t.task c k).rdy = 0 ∧ ∀ k', k' ≠ k → t.task c k' = s.task c k'))) ∧
  (∀ (e : Fin 128) (k : Nat) (s : State), s.mayDispatch e = true → s.nextTask e = some k →
    ∃ t, Gives (.dispatch e) s t ∧ t = { s with engs := t.engs, clus := t.clus } ∧
      TaskIs (e.val / 8) k { s.task (e.val / 8) k with
        st := tRUNNING, runs := ((s.task (e.val / 8) k).runs + 1) % 2 ^ 16, disAt := (t.task (e.val / 8) k).disAt } s t ∧
      EngineIs e { s.eng e with
        g := (s.task (e.val / 8) k).save.zipIdx.foldl (fun g p => g.set 0 (12 + p.2) p.1) (s.eng e).g
        fl := (s.task (e.val / 8) k).fl, pc := (s.task (e.val / 8) k).resume, stack := [], task := some k, word := none, run := 0 } s t) ∧
  (∀ (e : Fin 128) (s : State), s.mayDispatch e = false ∨ s.nextTask e = none → Gives (.dispatch e) s s)

namespace Sys2Proof.Claims

/-- R142, R163, R165: the watchdog stops an engine at a word that has not begun, with class MC_WDOG, and a 65th word of a run is not
executed, with class MC_RUNLEN; a word that fails parity is MC_PARITY, but that in mirror mode a mirror word that passes is issued in its
place, logged, and left to Press to repair. Where nothing of that holds, the three rows change nothing. -/
def WatchdogRunAndMirror : Prop :=
  ∀ (e : Fin 128) (s : State),
    (∀ k, s.issues e = true → (s.eng e).task = some k →
      ((s.eng e).fresh = true → ∃ t, Gives (.mcWdog e) s t ∧ Checked e k 5 s t) ∧
      ((s.eng e).fresh = true → (s.eng e).run = 64 → ∃ t, Gives (.mcRunlen e) s t ∧ Checked e k 4 s t) ∧
      ((s.eng e).word = none → (s.eng e).run ≠ 64 → parityOk (s.activeWord e) = false →
        s.mirrorOn (e.val / 8) = false ∨ parityOk (s.mirrorWord e) = false →
        ∃ t, Gives (.mirrorFetch e) s t ∧ Checked e k 1 s t)) ∧
    (s.issues e = true → (s.eng e).word = none → (s.eng e).run ≠ 64 → parityOk (s.activeWord e) = false →
      s.mirrorOn (e.val / 8) = true → parityOk (s.mirrorWord e) = true →
      ∃ t, Gives (.mirrorFetch e) s t ∧ t.clus = s.clus ∧ t.cstore = s.cstore ∧
        EngineIs e { s.eng e with word := some { m := s.mirrorWord e, g := (s.eng e).g, fl := (s.eng e).fl } } s t ∧
        (s.press.repair.length < 16 →
          t.press = { s.press with repair := s.press.repair ++ [(e.val / 8, (s.eng e).bank, (s.eng e).pc)] }) ∧
        (16 ≤ s.press.repair.length → t.press = s.press ∧
          t.fld pagePRESS Off.press_REPSTAT 24 8 = min 255 (s.fld pagePRESS Off.press_REPSTAT 24 8 + 1)) ∧
        ((s.whey.queued.filter (·.1 == pageCL (e.val / 8))).length < 8 →
          ∃ r, t.whey.queued = s.whey.queued ++ [(pageCL (e.val / 8), r)] ∧ r.cls = 1 ∧ r.kind = 0x002)) ∧
    (s.issues e = false ∨ (s.eng e).fresh = false → Gives (.mcWdog e) s s) ∧
    (s.issues e = false ∨ (s.eng e).fresh = false ∨ (s.eng e).run ≠ 64 → Gives (.mcRunlen e) s s) ∧
    (s.issues e = false ∨ (s.eng e).word.isSome = true ∨ (s.eng e).run = 64 ∨ parityOk (s.activeWord e) = true →
      Gives (.mirrorFetch e) s s)

end Sys2Proof.Claims

/-- R135, R139, R140, R142, R145, R163 to R165, R179, R180, R182: a word that is a machine check is not executed, whichever of its rows
comes first, and one with reserved codes alone is one by the row that ends it; a parity error of a memory is one too, and counts for the
row that the address names; a comparator mismatch faults the pair, or, where a delay register failed parity, loses its checker, and the
word goes on; the watchdog and the limit of a run stop an engine, and in mirror mode a mirror word stands in for one that fails parity.
Where the chapters leave a reading open, it follows the model's: log entries 8, 43, 44, 45 and 51. -/
def Obligations.MachineChecks : Prop :=
  WatchdogRunAndMirror ∧
  (∀ (e : Fin 128) (k : Nat) (s : State), s.issues e = true → (s.eng e).task = some k →
    (∀ (w : WordSt) (cls : Nat), s.opened e = some w → wordFault (s.eng e) w = some cls →
      (w.a = false → ∀ r ∈ aRows e (aFieldsOf w.m), aopOf w.m = r.1 → ∃ t, Gives r.2 s t ∧ Checked e k cls s t) ∧
      (w.x = false → ∀ r ∈ xRows e (xFieldsOf w.m) .none, xopOf w.m = r.1 → ∃ t, Gives r.2 s t ∧ Checked e k cls s t) ∧
      (w.aDone = true → w.xDone = true → givesUp (xopOf w.m) = false → ∀ r ∈ nRows e (nFieldsOf w.m) .none,
        nxtOf w.m = r.1 ∨ (nxtOf w.m = 7 ∧ r.1 = 0) → ∃ t, Gives r.2 s t ∧ Checked e k cls s t)) ∧
    (∀ (w : WordSt) (f : XFields) (n : NFields),
      (∀ r ∈ memRows e f .memPar, TakesX e r.1 f w s → r.2.1 = false ∨ s.checked e = false →
        ∃ t, Gives r.2.2 s t ∧ (t.task (e.val / 8) k).st = tCANCELLED ∧ (t.clu (e.val / 8)).faultDue = true ∧
          t.press.errs = s.press.errs.set 0 (memRow e r.2.1 (addrX w f)) (s.press.errs.get 0 (memRow e r.2.1 (addrX w f)) + 1) ∧
          CheckLogged e k 2 s t) ∧
      (∀ r ∈ memRows e f .memPar, TakesX e r.1 f w s → r.2.1 = true → s.checked e = true →
        ∃ t, Gives r.2.2 s t ∧ PairFails e k s t) ∧
      (s.checked e = true → ∀ r ∈ xRows e f .mismatch, r.1 ∉ [0x02, 0x07, 0x08, 0x10, 0x11] → TakesX e r.1 f w s →
        ∃ t, Gives r.2 s t ∧ PairFails e k s t) ∧
      (s.checked e = true → ∀ r ∈ nRows e n .mismatch, EndsWord e r.1 n w s → ∃ t, Gives r.2 s t ∧ PairFails e k s t) ∧
      (s.pairState (e.val / 8) (e.val % 8 / 2) = 1 → ∀ r ∈ nRows e n .mismatchParity, TakesN e r.1 n w s →
        ∃ t, Gives r.2 s t ∧ t.pairState (e.val / 8) (e.val % 8 / 2) = 2 ∧ (t.eng e).task = some k ∧ (t.eng e).halted = false ∧
          (t.eng e).word = none ∧ (t.clu (e.val / 8)).faultDue = (s.clu (e.val / 8)).faultDue))) ∧
  (∀ (x : Eng) (w : WordSt),
    let n := nFieldsOf w.m
    (x.run = 64 → wordFault x w = some 4) ∧
    (x.run ≠ 64 →
      (bitsOf w.m.toNat 96 12 ≠ 0 ∨ bitsOf w.m.toNat 32 8 ≠ 0 ∨ bitsOf w.m.toNat 124 3 = 7 ∨ 0x19 < bitsOf w.m.toNat 58 6 ∨
        0x1E < bitsOf w.m.toNat 26 6 ∨ (0x09 ≤ bitsOf w.m.toNat 26 6 ∧ bitsOf w.m.toNat 26 6 ≤ 0x0F) → wordFault x w = some 3) ∧
      (w.legal = true → givesUp (xopOf w.m) = false →
        (nxtOf w.m = 0 → x.pc = 0xFFF → wordFault x w = some 3) ∧
        (nxtOf w.m = 3 ∨ (nxtOf w.m = 4 ∧ Holds w n) → 4 ≤ x.stack.length → wordFault x w = some 6) ∧
        (nxtOf w.m = 5 ∨ (nxtOf w.m = 6 ∧ Holds w n) → x.stack = [] → wordFault x w = some 6) ∧
        (nxtOf w.m = 1 → (xopOf w.m = 0x01 ∨ xopOf w.m = 0x02) →
          (0x1000 < addrX w (xFieldsOf w.m) + 2 ^ accSize (xFieldsOf w.m) ∨
            addrX w (xFieldsOf w.m) % 2 ^ accSize (xFieldsOf w.m) ≠ 0) → wordFault x w = some 7)))) ∧
  (∀ (e : Fin 128) (f : AFields) (x : XFields) (n : NFields) (hw : HwFault) (s : State), s.issues e = false →
    (∀ r ∈ aRows e f, Gives r.2 s s) ∧ (∀ r ∈ xRows e x hw, Gives r.2 s s) ∧ (∀ r ∈ nRows e n hw, Gives r.2 s s))

namespace Sys2Proof.Claims

/-! ### Accesses through the host ports -/

/-- A port takes an access now, and no write or NOP that came before it waits (R44, R45, R299, R305, R308, R365). -/
structure Open (port : Port) (s : State) : Prop where
  takes : match port with
    | .pcie => s.pcieOpen = true
    | .spi => s.answers = true ∧ s.spiTakes = true
    | .tap => s.tapAnswers = true ∧ s.granted = 2
  posted : s.host.posted = []
  nops : ∀ r ∈ s.running, r.code ≠ 1

/-- What the port itself does before an access reaches its page: PCIe numbers the write (R44), the TAP selects DBGACC (R365). -/
def enter (port : Port) (s : State) : State :=
  match port with
  | .pcie => { s with host := { s.host with acc := (s.host.acc + 1) % 65536 } }
  | .spi => s
  | .tap => s.tapSelect

/-- What the port itself does after a write has committed: WSEQ.DONE (R46), the reported SPI frame (R306, R308), or the DBGACC access
`d`, whose scan has shifted out the access before it (R365). -/
def leave (port : Port) (d : BitVec 72) (s : State) : State :=
  match port with
  | .pcie => { s with host := { s.host with dn := s.host.acc } }
  | .spi => s.report 2 s.host.spi.seq 0 false 0
  | .tap => { s with rind := { s.rind with dr := s.rind.acc, acc := d } }

/-- A DBGACC access has this OP and CODE (R365). -/
def accIs (op code : Nat) (d : BitVec 72) : Prop := d.toNat % 4 = op ∧ d.toNat / 2 ^ 61 = code

/-- The command is a write through `port` that does `E` at its page, and all else is the port's own bookkeeping. -/
def Lands (c : Instr) (port : Port) (E : State → State) (s : State) : Prop :=
  ∃ t, Gives c s t ∧ t = leave port t.rind.acc (E (enter port s)) ∧ (port = .tap → accIs 2 0 t.rind.acc)

/-- No ground of R14 bars the write of `w` to the register at offset `o` of page `p`. -/
def Unbarred (port : Port) (p o : Nat) (w : Word) (s : State) : Prop := ∀ x ∈ writeErrs port (adr p o) w 4 s, x.2 = false

/-- A write of the bits `m` of a register (R9). -/
def merge (old w m : Word) : Word := (old &&& ~~~m) ||| (w &&& m)

/-- The pages whose registers have no effect beyond their values. -/
def Plain (p : Nat) : Prop := pageKind p = some .pwr ∨ pageKind p = some .pchg ∨ pageKind p = some .clt ∨ pageKind p = some .press ∨
  pageKind p = some .rsmp ∨ pageKind p = some .rsml ∨ pageKind p = some .idx ∨ pageKind p = some .wux ∨ pageKind p = some .wus

end Sys2Proof.Claims

/-- R9, R34, R36, R43, R52: a write that nothing bars commits: PAGE_CFGCRC, PAGE_INTSTAT (writing 1 clears) and PAGE_INTEN of every page;
a shadowed register takes the value into its shadow and its live value stands; a plain register takes the bits that it can hold; a bit
that hardware sets in the clock in which a write clears it stays set (R10). Where the chapter leaves a reading open, it follows the
model's: log entries 15, 20 and 21. -/
def Obligations.RegisterWriteCommits : Prop :=
  ∀ (port : Port) (p : Fin 4096) (o : Fin 4096) (w : Word) (s : State), Open port s → Unbarred port p.val o.val w s →
    (let c : Instr := .registerWrite ⟨port, BitVec.ofNat 24 (adr p.val o.val), w, 4, false⟩
     (o.val = 0x014 → Lands c port (fun u => u.setReg p.val 0x014 w) s) ∧
     (o.val = 0x018 → Lands c port (fun u => u.ringRise p.val (u.setReg p.val 0x018 (u.reg p.val 0x018 &&& ~~~w))) s) ∧
     (o.val = 0x01C → Lands c port (fun u => u.ringRise p.val (u.setReg p.val 0x01C w)) s) ∧
     (0x040 ≤ o.val → isShadowed (adr p.val o.val) = true →
       Lands c port (fun u => { u with
         shadow := u.shadow.filter (fun (e : Nat × Word) => e.1 != adr p.val o.val) ++ [(adr p.val o.val, w)] }) s) ∧
     (∀ r, 0x040 ≤ o.val → isShadowed (adr p.val o.val) = false → Plain p.val → regRow (adr p.val o.val) = some r →
       (r.access = .rw ∨ r.access = .rwl) →
       Lands c port (fun u => u.setReg p.val o.val (merge (u.reg p.val o.val) w (BitVec.ofNat 32 r.writable))) s) ∧
     (accessAt (adr p.val o.val) = some .w1c → ∃ t, Gives c s t ∧
       Gives (.registerWrite ⟨port, BitVec.ofNat 24 (adr p.val o.val), w, 4, true⟩) s (t.setReg p.val o.val
         (t.reg p.val o.val ||| Store.get 0 s.fresh (adr p.val o.val)))))

/-- R14, R43, R44, R47: a write that something bars leaves its register alone; the first code of R14's order, the offset and the write
number stand in PAGE_RESULT and PAGE_ERRADDR, and a PCIe write is logged with source 0x003. -/
def Obligations.RegisterWriteRejected : Prop :=
  ∀ (p o : Fin 4096) (w : Word) (s : State), s.pcieOpen = true → s.host.posted = [] → (∀ r ∈ s.running, r.code ≠ 1) →
    p.val ≠ pageRIND → (pageKind p.val).isSome → s.pageOn p.val = true → o.val ≠ 0x008 → s.host.pwel.length < 64 →
    firstErr (writeErrs .pcie (adr p.val o.val) w 4 s) ≠ 0 →
    (let e := firstErr (writeErrs .pcie (adr p.val o.val) w 4 s)
     let n := (s.host.acc + 1) % 65536
     let u := ((s.setReg p.val 0x00C (BitVec.ofNat 32 (e + n * 2 ^ 16))).setReg p.val 0x010 (BitVec.ofNat 32 o.val)).intSet p.val 0
     Gives (.registerWrite ⟨.pcie, BitVec.ofNat 24 (adr p.val o.val), w, 4, false⟩) s
       ({ u with host := { s.host with
            acc := n, dn := n, pwel := s.host.pwel ++ [(⟨n, e, adr p.val o.val, 4, w, s.now⟩ : PwelEntry)] } }.bell 0x003))

/-- R47, R48, R51, R64, R104, R115, R190, R208, R286, R336: the registers whose writes do more than hold a value. What the Whey read
index frees while records wait is the model's reading: log entry 59. -/
def Obligations.SpecialRegisterWrites : Prop :=
  (∀ (port : Port) (w : Word) (s : State), Open port s →
    (Unbarred port pageHOSTIF Off.hostif_PWELPOP w s → w.toNat % 2 = 1 →
      Lands (.pwelpop port w) port (fun u => { u with host := { u.host with pwel := u.host.pwel.drop 1 } }) s) ∧
    (Unbarred port pageCMDQ Off.cmdq_CRTAIL w s →
      (s.reg pageCMDQ Off.cmdq_CRTAIL ≠ w → Lands (.crtailWrite port w) port (fun u =>
        { u.setReg pageCMDQ Off.cmdq_CRTAIL (merge (u.reg pageCMDQ Off.cmdq_CRTAIL) w 0xFFF) with
          ring := { u.ring with pubs := u.ring.pubs ++ [(w.toNat % 4096, u.host.acc)] } }) s) ∧
      (s.reg pageCMDQ Off.cmdq_CRTAIL = w → Lands (.crtailWrite port w) port (fun u => u.setReg pageCMDQ Off.cmdq_CRTAIL w) s)) ∧
    (Unbarred port pageCMDQ Off.cmdq_CPTAIL w s → Lands (.cptailWrite port w) port (fun u =>
      u.setReg pageCMDQ Off.cmdq_CPTAIL (merge (u.reg pageCMDQ Off.cmdq_CPTAIL) w 0xFFF)) s) ∧
    (Unbarred port pageSYS Off.sys_WDKICK w s → w.toNat % 2 = 1 →
      Lands (.wdkick port w) port (fun u => { u with mode := { u.mode with wd := 0 } }) s)) ∧
  (∀ (port : Port) (n : Fin 4) (w : Word) (s : State), Open port s → Unbarred port pageTB (Off.tb_MATCH_HI n.val) w s →
    Lands (.matchArm port n w) port (fun u =>
      ({ u.setReg pageTB (Off.tb_MATCH_HI n.val) w with
         matchVal := u.matchVal.set 0 n.val ((u.reg pageTB (Off.tb_MATCH_LO n.val)).toNat + w.toNat * 2 ^ 32)
         matchTb := u.matchTb.set 0 n.val (u.now + 1) }).setFld pageTB
        Off.tb_MATCHARM n.val 1 1) s) ∧
  (∀ (port : Port) (n : Fin 8) (w : Word) (s : State), Open port s →
    (Unbarred port (pageWU n.val) Off.wu_QPOSSET w s → Lands (.qpossetWrite port n w) port (fun u =>
      u.setWheel n.val { u.wheel n.val with qpos := w.toNat }) s) ∧
    (Unbarred port (pageWU n.val) Off.wu_WCFG w s →
      (let v (u : State) : State := u.setReg (pageWU n.val) Off.wu_WCFG (merge (u.reg (pageWU n.val) Off.wu_WCFG) w 0x73FF1F)
       (fieldOf (s.reg (pageWU n.val) Off.wu_WCFG) 8 10 = fieldOf w 8 10 → Lands (.wcfgWrite port n w) port v s) ∧
       (fieldOf (s.reg (pageWU n.val) Off.wu_WCFG) 8 10 ≠ fieldOf w 8 10 →
         Lands (.wcfgWrite port n w) port (fun u => (v u).clearTerr n.val) s)))) ∧
  (∀ (port : Port) (c : Fin 16) (w : Word) (s : State), Open port s → Unbarred port (pageCL c.val) Off.cl_MCLOGPOP w s →
    w.toNat % 2 = 1 →
    Lands (.mclogpop port c w) port (fun u => u.setClu c.val { u.clu c.val with mclog := (u.clu c.val).mclog.drop 1 }) s) ∧
  (∀ (port : Port) (n : Fin 5) (w : Word) (s : State), Open port s → Unbarred port (pageADC n.val) Off.adc_REFCFG w s →
    (w.toNat % 2 = 1 → s.flag (pageADC n.val) Off.adc_REFCFG 0 = false → Lands (.refcfgWrite port n w) port (fun u =>
      (u.setReg (pageADC n.val) Off.adc_REFCFG (w &&& 1)).setAdc n.val { u.adc n.val with refDue := some (u.now + 320000) }) s) ∧
    (w.toNat % 2 = 0 → Lands (.refcfgWrite port n w) port (fun u =>
      ((u.setReg (pageADC n.val) Off.adc_REFCFG (w &&& 1)).setFld (pageADC n.val) Off.adc_CORESTAT 8 1 0).setAdc n.val
        { u.adc n.val with refDue := none }) s)) ∧
  (∀ (port : Port) (r : WheyRing) (w : Word) (s : State), Open port s → Unbarred port pageWHEY (readIndexOff r) w s →
    Lands (.wheyReadIndexWrite port r w) port (fun u =>
      let m := u.markWaiting
      let v := (m.setWring r { m.wring r with host := (m.wring r).host + m.indexStep r w.toNat }).freeAll r
      v.drainCoal v.whey.coal.length) s)

/-- R122 to R124: EVW3 enters the staged entry as an event of the host, or counts it in OVFCNT where the calendar or the quota is
full, with a completion record that will say REFUSED where one is wanted. Where the chapter leaves a reading open, it follows the
model's: log entry 40. -/
def Obligations.HostEventPost : Prop :=
  ∀ (port : Port) (w : Word) (s : State), Open port s → Unbarred port pageANG Off.ang_EVW3 w s →
    (let e := s.evwEntry (portNum port) w
     (∀ slot, s.freeSlot = some slot → s.ownCount hostOwner < s.quota hostOwner → ∃ t x, Gives (.evw3Write port w) s t ∧
       t.cal.evs = s.cal.evs ++ [x] ∧ x.slot = slot ∧ x.gen = s.cal.uses.get 0 slot % 256 ∧ x.owner = 0x1F ∧ x.epoch = 0 ∧
       x.tag = e.tag ∧ x.pch = e.pch ∧ x.kind = e.kind ∧ x.dur = e.dur ∧ x.cpl = e.cpl ∧ x.st = 0 ∧
       x.angle = e.angle ∧ x.wheel = e.wheel ∧ x.drop = e.drop ∧ (e.angle = false → NearTarget e.target s.tb.toNat x.target) ∧
       (e.angle = true → e.nextcyc = false → x.target = e.target) ∧
       t = { s with cal := t.cal, host := t.host, rind := t.rind, regs := t.regs, fresh := t.fresh, iu := t.iu }) ∧
     (s.calFull hostOwner = true → e.cpl = false → Lands (.evw3Write port w) port (fun u =>
       (u.addSat pageANG Off.ang_OVFCNT 0 16 1).intSet pageANG 18) s) ∧
     (s.calFull hostOwner = true → e.cpl = true → ∃ t, Gives (.evw3Write port w) s t ∧ t.cal.evs = s.cal.evs ∧
       t.cal.refused = s.cal.refused ++ [[e.tag, e.kind, e.pch, e.target, s.now]] ∧ t.flag pageANG 0x018 18 = true))

/-- R264 to R274, R278: the writes that drive the interrupt unit. RAISE and CNTDEC of one clock count together, with C as it stood before
the clock; what a TIDLE of the clock of a presentation or of an EOI does. Where the chapter leaves a reading open, it follows the model's:
log entry 57. -/
def Obligations.InterruptRegisterWrites : Prop :=
  (∀ (port : Port) (w : Word) (s : State), Open port s →
    (Unbarred port pageIU Off.iu_RAISE w s →
      (let n := w.toNat % 4096
       let k := s.iu.clk
       let c := s.cntBase n
       let d := k.bells.get 0 n
       (c + d - k.decs.get 0 n < 255 → Lands (.raise port w) port (fun u =>
         ((u.setClk { k with base := k.base.set 0 n (c + 1), bells := k.bells.set 0 n (d + 1) }).setIsrc n { u.isrc n with
           cnt := c + d + 1 - k.decs.get 0 n, pend := u.pendBit n true }).settleSrc n) s) ∧
       (255 ≤ c + d - k.decs.get 0 n → ∃ t, Gives (.raise port w) s t ∧ (t.isrc n).cnt = 255 ∧ (t.isrc n).pend = s.pendBit n true ∧
         t.fld pageIU Off.iu_SATLOST 0 16 = min 65535 (s.fld pageIU Off.iu_SATLOST 0 16 + 1) ∧
         t.fld pageIU Off.iu_SATLOST 16 12 = n ∧ t.flag pageIU 0x018 16 = true ∧
         ∀ n', n' ≠ n → t.isrc n' = s.isrc n'))) ∧
    (Unbarred port pageIU Off.iu_CNTDEC w s →
      (let n := w.toNat % 4096
       let k := s.iu.clk
       let m := k.decs.get 0 n + w.toNat / 2 ^ 16 % 2 ^ 8
       let count := min 255 (s.cntBase n + k.bells.get 0 n - m)
       (∃ t, Gives (.cntdec port w) s t ∧ (∀ n', n' ≠ n → t.isrc n' = s.isrc n') ∧ t.isrc n = { s.isrc n with cnt := count }) ∧
       (n ∉ k.lost → Lands (.cntdec port w) port (fun u =>
         (u.setClk { k with base := k.base.set 0 n (s.cntBase n + 1), decs := k.decs.set 0 n m }).setIsrc n
           { u.isrc n with cnt := count }) s)))) ∧
  (∀ (port : Port) (n : Fin 4) (w : Word) (s : State), Open port s →
    (Unbarred port pageIU (Off.iu_EOI n.val) w s → Lands (.eoiWrite port n w) port (fun u =>
      ((u.setItgt n.val { u.itgt n.val with
        active := none, notif := false,
        hold := if (u.itgt n.val).busy && !u.tcfg n.val 2
          then some (u.now + u.fld pageIU (Off.iu_HOLD n.val) 0 24) else none }).setClk
        { u.iu.clk with ended := (n.val, (u.itgt n.val).active) :: u.iu.clk.ended }).settle) s) ∧
    (Unbarred port pageIU (Off.iu_TIDLE n.val) w s → w.toNat % 2 = 1 → s.tcfg n.val 2 = false →
      (n.val ∈ s.iu.clk.shown → Lands (.tidleWrite port n w) port (fun u => u) s) ∧
      (n.val ∉ s.iu.clk.shown → (∀ e ∈ s.iu.clk.ended, e.1 ≠ n.val) →
        Lands (.tidleWrite port n w) port (fun u => u.setItgt n.val { u.itgt n.val with busy := false }) s) ∧
      (n.val ∉ s.iu.clk.shown → (∃ e ∈ s.iu.clk.ended, e.1 = n.val) →
        Lands (.tidleWrite port n w) port (fun u => u.setItgt n.val { u.itgt n.val with busy := false, hold := none }) s)) ∧
    (Unbarred port pageIU (Off.iu_QHEAD n.val) w s → Lands (.qheadWrite port n w) port (fun u =>
      (u.setFld pageIU (Off.iu_QHEAD n.val) 0 12 (w.toNat % 4096)).setItgt n.val { u.itgt n.val with
        waitHead := (u.itgt n.val).waitHead && w.toNat % 4096 != 0 }) s)) ∧
  (∀ (port : Port) (page : Fin 8) (n : Fin 64) (w : Word) (s : State), Open port s →
    Unbarred port (pageIU + page.val) (Off.iu_ROUTE n.val) w s →
    Lands (.routeWrite port page n w) port (fun u => (u.setReg (pageIU + page.val) (Off.iu_ROUTE n.val) w).settle) s)

namespace Sys2Proof.Claims

/-- A port takes a read now (R45, R299, R305, R365). -/
structure OpenRead (port : Port) (s : State) : Prop where
  takes : match port with
    | .pcie => s.pcieOpen = true
    | .spi => s.answers = true ∧ s.spiTakes = true
    | .tap => s.tapAnswers = true ∧ 1 ≤ s.granted
  posted : s.host.posted = []

def enterRead (port : Port) (s : State) : State := match port with | .tap => s.tapSelect | _ => s

/-- A read has returned `w` through a port; through the TAP it is the DBGACC access `d`. -/
def leaveRead (port : Port) (w : Word) (d : BitVec 72) (s : State) : State :=
  match port with
  | .pcie => { s with host := { s.host with rdPcie := w } }
  | .spi => ({ s with host := { s.host with rdSpi := w } } : State).report 1 s.host.spi.seq 0 false w
  | .tap => { s with host := { s.host with rdTap := w }, rind := { s.rind with dr := s.rind.acc, acc := d } }

/-- The command is a read through `port` that returns `w` and does `E` at its page. -/
def Returns (c : Instr) (port : Port) (w : State → Word) (E : State → State) (s : State) : Prop :=
  ∃ t, Gives c s t ∧ t = leaveRead port (w (enterRead port s)) t.rind.acc (E (enterRead port s)) ∧
    (port = .tap → accIs 1 0 t.rind.acc ∧ t.rind.acc.toNat / 2 ^ 29 % 2 ^ 32 = (w (enterRead port s)).toNat)

end Sys2Proof.Claims

/-- R6, R9, R10, R35, R62, R78, R264: a read returns the register's value; RC registers read clear, but for what the clock of the read
adds; a doorbell counter that a doorbell meets reads as before it; TB.NOW_LO latches the high word, CAPPOP pops into the hold set, and a
read of another width than 32 bits returns zeros and shows E_ACCESS. Where the chapter leaves a reading open, it follows the model's: log
entry 22. -/
def Obligations.RegisterReads : Prop :=
  (∀ (port : Port) (p o : Fin 4096) (r : RegRow) (s : State), OpenRead port s → (pageKind p.val).isSome → s.pageOn p.val = true →
    ¬ (pageKind p.val = some .pchg ∧ hits o.val (Off.pchg_CAPPOP 0) 128 16 = true) → adr p.val o.val ≠ adr pageTB Off.tb_NOW_LO →
    regRow (adr p.val o.val) = some r →
    (let c (meets : Bool) : Instr := .rcRead port (BitVec.ofNat 24 (adr p.val o.val)) meets
     let before (u : State) : Word := Store.get (regReset (adr p.val o.val)) u.atClock (adr p.val o.val)
     (r.access = .rc → Returns (c false) port (readWord port (adr p.val o.val)) (fun u => u.setReg p.val o.val 0) s ∧
       Returns (c true) port before (fun u => u.setReg p.val o.val (Store.get 0 u.fresh (adr p.val o.val))) s) ∧
     (r.access ≠ .rc → ∀ meets, meets = false ∨ pageKind p.val ≠ some .iu ∨ hits o.val (Off.iu_CNT 0) 4 128 = false →
       Returns (c meets) port (readWord port (adr p.val o.val)) (fun u => u) s))) ∧
  (∀ (port : Port) (page : Fin 8) (n : Fin 128) (s : State), OpenRead port s → s.pageOn (pageIU + page.val) = true →
    Returns (.rcRead port (BitVec.ofNat 24 (adr (pageIU + page.val) (Off.iu_CNT n.val))) true) port
      (fun u => BitVec.ofNat 32 (((List.range 4).map (fun i =>
        let k := 512 * page.val + 4 * n.val + i
        min 255 (u.cntBase k - u.iu.clk.decs.get 0 k) * 2 ^ (8 * i))).sum)) (fun u => u) s) ∧
  (∀ (port : Port) (s : State), OpenRead port s → s.pageOn pageTB = true →
    Returns (.tbNowLoRead port) port (fun u => lo32 u.tb) (fun u => match port with
      | .pcie => u.setReg pageHOSTIF Off.hostif_TBLATP (hi32 u.tb)
      | .spi => u.setReg pageHOSTIF Off.hostif_TBLATS (hi32 u.tb)
      | .tap => u) s) ∧
  (∀ (port : Port) (c : Fin 160) (k : CapEntry) (q : List CapEntry) (s : State), OpenRead port s → s.pageOn (chPage c.val) = true →
    (s.chan c.val).capq = k :: q →
    Returns (.cappopRead port c) port
      (fun _ => BitVec.ofNat 32 (1 + (if k.pol then 1 else 0) * 2 + (if k.ang.isSome then 1 else 0) * 4 + q.length * 8))
      (fun u => ((u.setChan c.val { u.chan c.val with capq := q }).setReg64 (chPage c.val) (Off.pchg_CAPH_TB_LO (c.val % 16))
        (Off.pchg_CAPH_TB_HI (c.val % 16)) k.tb).setReg (chPage c.val) (Off.pchg_CAPH_ANG (c.val % 16)) (k.ang.getD 0)) s) ∧
  (∀ (p o : Fin 4096) (len : Nat) (s : State), OpenRead .pcie s → len ≠ 4 → (pageKind p.val).isSome → s.pageOn p.val = true →
    Gives (.non32BitRead .pcie (BitVec.ofNat 24 (adr p.val o.val)) len) s
      ({ s with host := { s.host with rdPcie := 0 } }.setReg p.val 0x00C 0x0D))

/-- R44, R46: a posted write is accepted and numbered in order; WSEQ.DONE stands before the oldest that waits. Where the chapter
leaves a reading open, it follows the model's: log entry 15. -/
def Obligations.PostedWriteAccepted : Prop :=
  ∀ (a : BitVec 24) (w : Word) (len : Nat) (s : State), s.pcieOpen = true → s.host.posted.length < 256 →
    (let n := (s.host.acc + 1) % 65536
     let l := s.host.posted ++ [⟨n, a.toNat, w, len⟩]
     Gives (.postedWriteAccept a w len) s
       { s with host := { s.host with acc := n, posted := l, dn := (((l.head?.map (·.seq)).getD 0) + 65535) % 65536 } })

/-- R299, R301, R302: a BAR2 read returns the bytes of the Whey buffer and of sample memory as they stand; a write outside the writable
windows is discarded and counted; the MSI-X table takes words; while memory space is off or the function sleeps, an access is an
unsupported request, which AER shows. Where the chapter leaves a reading open, it follows the model's: log entries 58 and 66. -/
def Obligations.Bar2Accesses : Prop :=
  (∀ (off : BitVec 26) (len : Nat) (data : List Byte) (a : BitVec 24) (w : Word) (s : State), s.answers = true → s.host.linkUp = true →
    s.host.cfg.memSpace = false ∨ s.host.cfg.d3 = true →
    (let t : State := { s with host := { s.host with cfg := { s.host.cfg with aer := s.host.cfg.aer ||| 0x00100000 } } }
     Gives (.bar2Read off len) s t ∧ Gives (.bar2Write off data) s t ∧ Gives (.postedWriteAccept a w len) s t)) ∧
  (∀ (off : BitVec 26) (len : Nat) (s : State), s.pcieOpen = true → 0 < len → len ≤ 512 →
    (off.toNat + len ≤ 0x100000 → s.dst 85 = 0 → Gives (.bar2Read off len) s
      { s with host := { s.host with bar2 := (List.range len).map (fun i => s.whey.buf.byte (off.toNat + i)) } }) ∧
    (0x100000 ≤ off.toNat → off.toNat + len ≤ 0x140000 → s.dst 86 = 0 → Gives (.bar2Read off len) s
      { s with host := { s.host with bar2 := (List.range len).map (fun i => s.smem.byte (off.toNat - 0x100000 + i)) } })) ∧
  (∀ (off : BitVec 26) (data : List Byte) (s : State), s.pcieOpen = true →
    (off.toNat < 0x400000 ∨ (0x800000 ≤ off.toNat ∧ off.toNat < 0x3FFF000) →
      Gives (.bar2Write off data) s ((s.addSat pageHOSTIF Off.hostif_BAR2REJ 0 16 1).intSet pageHOSTIF 19)) ∧
    (∀ a b c d, data = [a, b, c, d] → off.toNat % 4 = 0 → 0x3FFF000 ≤ off.toNat → off.toNat < 0x3FFF080 →
      off.toNat / 4 % 4 ≠ 3 → off.toNat / 4 % 4 ≠ 0 → Gives (.bar2Write off data) s
        { s with host := { s.host with msixTab := s.host.msixTab.set 0 ((off.toNat - 0x3FFF000) / 4) (d ++ c ++ b ++ a) } }))

/-- R305 to R308: each SPI frame answers with the report of the frame before, and becomes the reported frame in turn: NOP, READ,
WRITE, a wrong length, a failed CRC and a reserved bit. Where the chapter leaves a reading open, it follows the model's: log
entry 63. -/
def Obligations.SpiFrames : Prop :=
  ∀ (seq : BitVec 4) (s : State), s.spiOn = true → s.host.spi.pend = false →
    Gives (.spiNop seq) s ((spiRespond s).report 0 seq.toNat 0 false 0) ∧
    (∀ a : BitVec 24, a.toNat % 4 = 0 → s.host.posted = [] →
      (let r := readEffect .spi a.toNat false (spiRespond s)
       Gives (.spiRead seq a) s ({ r.2 with host := { r.2.host with rdSpi := r.1 } }.report 1 seq.toNat 0 true r.1))) ∧
    (∀ (p o : Fin 4096) (w : Word) (r : RegRow), s.host.posted = [] → Unbarred .spi p.val o.val w s → 0x040 ≤ o.val →
      isShadowed (adr p.val o.val) = false → Plain p.val → regRow (adr p.val o.val) = some r → (r.access = .rw ∨ r.access = .rwl) →
      Gives (.spiWrite seq (BitVec.ofNat 24 (adr p.val o.val)) w) s
        (((spiRespond s).setReg p.val o.val (merge (s.reg p.val o.val) w (BitVec.ofNat 32 r.writable))).report 2 seq.toNat 0 false 0)) ∧
    Gives .spiReadComplete s { s with host := { s.host with spi := { s.host.spi with pend := false } } } ∧
    (∀ (clocks : Nat) (w0 w1 w2 : Word),
      (clocks ≠ 96 → Gives (.spiFrame clocks w0 w1 w2) s ((s.addSat pageHOSTIF Off.hostif_SPIERR 8 8 1).intSet pageHOSTIF 17)) ∧
      (clocks = 96 → frameCrc w0 w1 ≠ w2.toNat % 256 → Gives (.spiFrame clocks w0 w1 w2) s
        ((((spiRespond s).report (w0.toNat / 2 ^ 30) (w0.toNat / 2 ^ 24 % 16) 0x0F false 0).addSat pageHOSTIF
          Off.hostif_SPIERR 0 8 1).intSet pageHOSTIF 17)) ∧
      (clocks = 96 → frameCrc w0 w1 = w2.toNat % 256 →
        w0.toNat / 2 ^ 30 = 3 ∨ w0.toNat / 2 ^ 28 % 4 ≠ 0 ∨ w0.toNat % 4 ≠ 0 ∨ w2.toNat / 256 ≠ 0 →
        Gives (.spiFrame clocks w0 w1 w2) s ((spiRespond s).report (w0.toNat / 2 ^ 30) (w0.toNat / 2 ^ 24 % 16) 0x06 false 0)) ∧
      (clocks = 96 → frameCrc w0 w1 = w2.toNat % 256 → spiOdd w0 w2 = false → ∀ t,
        (w0.toNat / 2 ^ 30 = 0 → Gives (.spiNop (BitVec.ofNat 4 (w0.toNat / 2 ^ 24))) s t → Gives (.spiFrame clocks w0 w1 w2) s t) ∧
        (w0.toNat / 2 ^ 30 = 1 → Gives (.spiRead (BitVec.ofNat 4 (w0.toNat / 2 ^ 24)) (BitVec.ofNat 24 (w0.toNat / 4 * 4))) s t →
          Gives (.spiFrame clocks w0 w1 w2) s t) ∧
        (w0.toNat / 2 ^ 30 = 2 → Gives (.spiWrite (BitVec.ofNat 4 (w0.toNat / 2 ^ 24)) (BitVec.ofNat 24 (w0.toNat / 4 * 4)) w1) s t →
          Gives (.spiFrame clocks w0 w1 w2) s t)))

/-- R365, R366, R387: the TAP instructions load their register and take or drive the pins where debug access permits them, and are
counted in TAPREFUSE where it does not; IDCODE and the zeros of BYPASS are what the next scan shifts out; DBGACC reads and writes
registers, and shifts out the access before. Where the chapter leaves a reading open, it follows the model's: log entry 64. -/
def Obligations.TapInstructions : Prop :=
  ∀ (s : State), s.pageOn pageDBG = true →
    (let ld (ir scan : Nat) (cells : List Bool) : State := { s with rind := { s.rind with ir := ir, scan := scan, cells := cells, dr := 0 } }
     let refused : State := { s with rind := { s.rind with ir := 0xFF, scan := 0, dr := 0 } }.addSat pageDBG Off.dbg_TAPREFUSE 0 16 1
     (s.portOpen = true →
       Gives .bypass s (ld 0xFF 0 s.rind.cells) ∧
       Gives .idcode s { s with rind := { s.rind with ir := 0x02, scan := 0, dr := 0x1512856B } } ∧
       (1 ≤ s.granted → ∃ t, Gives .samplePreload s t ∧
         t = { ld 0x01 0 t.rind.cells with rind := { (ld 0x01 0 t.rind.cells).rind with sampled := t.rind.sampled }, free := t.free } ∧
         t.rind.cells.length = 203 ∧ t.rind.sampled.length = 203 ∧
         (∀ n : Fin 160, t.rind.sampled[n.val]? = some ((s.pinDrive n.val).getD (s.chan n.val).inLvl)) ∧
         (∀ n : Fin 4, t.rind.sampled[192 + n.val]? = some (!s.iu.idlePin.getLsbD n.val))) ∧
       (s.granted = 0 → Gives .samplePreload s refused) ∧
       (s.tapDrives = true →
         (∀ pins, ∃ t, Gives (.extest pins) s t ∧
           t = { ld 0x00 1 pins with rind := { (ld 0x00 1 pins).rind with sampled := t.rind.sampled }, free := t.free } ∧
           ∀ n : Fin 160, t.tioPad n.val = some (pins.getD n.val false)) ∧
         (∃ t, Gives .clamp s t ∧ t = ld 0x03 1 s.rind.cells ∧ ∀ n : Fin 160, t.tioPad n.val = some (s.rind.cells.getD n.val false)) ∧
         (∃ t, Gives .highz s t ∧ t = ld 0x04 2 s.rind.cells ∧ (∀ n : Fin 160, t.tioPad n.val = none) ∧
           ∀ n : Fin 4, t.hirqPad n.val = none)) ∧
       (s.tapDrives = false → (∀ pins, Gives (.extest pins) s refused) ∧ Gives .clamp s refused ∧ Gives .highz s refused)) ∧
     (∀ (p o : Fin 4096) (r : RegRow), OpenRead .tap s → o.val % 4 = 0 → (pageKind p.val).isSome → s.pageOn p.val = true →
       ¬ (pageKind p.val = some .pchg ∧ hits o.val (Off.pchg_CAPPOP 0) 128 16 = true) → adr p.val o.val ≠ adr pageTB Off.tb_NOW_LO →
       regRow (adr p.val o.val) = some r → r.access ≠ .rc →
       Returns (.dbgaccRead false (BitVec.ofNat 28 (adr p.val o.val))) .tap (readWord .tap (adr p.val o.val)) (fun u => u) s) ∧
     (∀ (p o : Fin 4096) (w : Word) (r : RegRow), Open .tap s → o.val % 4 = 0 → Unbarred .tap p.val o.val w s → 0x040 ≤ o.val →
       isShadowed (adr p.val o.val) = false → Plain p.val → regRow (adr p.val o.val) = some r → (r.access = .rw ∨ r.access = .rwl) →
       Lands (.dbgaccWrite false (BitVec.ofNat 28 (adr p.val o.val)) w) .tap
         (fun u => u.setReg p.val o.val (merge (u.reg p.val o.val) w (BitVec.ofNat 32 r.writable))) s))

namespace Sys2Proof.Claims

/-! ### Commands -/

def enterFor (x : Src) (s : State) : State := match x with | .port port => enter port s | _ => s
def leaveFor (x : Src) (d : BitVec 72) (s : State) : State := match x with | .port port => leave port d s | _ => s

/-- The command of a request with code `code` reaches its page, and `E` is all that comes of it but for the port's bookkeeping. -/
def Issues (c : Instr) (q : Req) (E : State → State) (s : State) : Prop :=
  ∃ t, Gives c s t ∧ t = leaveFor q.src t.rind.acc (E (enterFor q.src s))

/-- A request names the first page of a block of kind `k`; its port, if it has one, is open; no NOP waits; and no ground of R14 bars
the command, neither one that all commands share nor one of its own. -/
structure Goes (k : Kind) (code : Nat) (q : Req) (s : State) : Prop where
  src : ∀ port, q.src = .port port → Open port s
  nops : ∀ r ∈ s.running, r.code ≠ 1
  kind : pageKind q.page.toNat = some k
  first : isSecondary q.page.toNat = false
  common : ∀ x ∈ commonErrs code q s, x.2 = false
  own : ∀ x ∈ (cmdFor q.page.toNat code).errs q s, x.2 = false
  calm : s.calibrating q.page.toNat = true → code = 1 ∨ code = 6

/-- The conditions that every command of a block of kind `k` shares (R13, R14, R31, R41 to R43, R48, R321): the port is open, the page is
the first of its block and its domain is ON, the device is not in BOOT, no command runs on the page, and where a completion record is
wanted there is a slot for it. -/
structure Ready (k : Kind) (q : Req) (s : State) : Prop where
  src : ∀ port, q.src = .port port → Open port s
  nops : ∀ r ∈ s.running, r.code ≠ 1
  kind : pageKind q.page.toNat = some k
  first : isSecondary q.page.toNat = false
  power : s.pageOn q.page.toNat = true
  boot : s.md ≠ mBOOT
  idle : ∀ r ∈ s.running, r.req.page ≠ q.page
  room : q.src = .ring ∨ (∃ port, q.src = .port port ∧ q.tag ≠ 0) → s.slotFree = true ∧ s.outst < 512

/-- Every wheel unit but `u` stands. -/
def OtherWheels (u : Nat) (s t : State) : Prop := ∀ v, v ≠ u → t.wheel v = s.wheel v

/-- The command is accepted and runs: LASTCMD and PAGE_STATE.BUSY (R33, R41, R42), keeping `data`. -/
def running (code : Nat) (q : Req) (data : List Nat) (s : State) : State :=
  { s.setPage q.page.toNat { s.page q.page.toNat with lastCmd := code } with
    running := s.running ++ [{ code := code, req := q, slot := wantsRecord q, data := data }] }

end Sys2Proof.Claims

/-- R12 to R14, R41, R43: a common command of the ring, or of the device itself, that something bars changes nothing but PAGE_RESULT,
PAGE_ERRADDR and PAGE_INTSTAT.REJECT; one of the ring writes its record too. The code is the first in R14's order; of a converter core
that calibrates only a seal and a reserved code or bit come before E_BUSY (R209), which is the model's reading: log entry 94. -/
def Obligations.CommandRejected : Prop :=
  ∀ (q : Req) (s : State), (∀ port, q.src ≠ .port port) → (pageKind q.page.toNat).isSome → s.pageOn q.page.toNat = true →
    (∀ code mk, (code, mk) ∈ ([(1, Instr.nop), (2, .resetBlock), (3, .enable), (4, .disable), (5, .commit), (6, .abort),
        (7, .selftest)] : List (Nat × (Req → Instr))) →
      let own := if s.calibrating q.page.toNat ∧ code ≠ 1 ∧ code ≠ 6
        then ((cmdFor q.page.toNat code).errs q s).filter (fun e => e.1 == 0x03 || e.1 == 0x06) ++ [(0x07, true)]
        else (cmdFor q.page.toNat code).errs q s
      let e := firstErr (commonErrs code q s ++ own)
      let u := ((s.setReg q.page.toNat 0x00C (BitVec.ofNat 32 (e + code * 2 ^ 8 + q.tag.toNat * 2 ^ 16))).setReg
        q.page.toNat 0x010 8).intSet q.page.toNat 0
      e ≠ 0 → Gives (mk q) s (if q.src = .ring ∧ u.slotFree = true then u.record code q false { code := e } else u))

/-- R38, R39, R42, R52 to R54: the commands that every block has. Where the chapter leaves a reading open, it follows the model's:
log entries 13, 24 and 25. -/
def Obligations.CommonCommands : Prop :=
  ∀ (k : Kind) (q : Req) (s : State),
    let p := q.page.toNat
    (Goes k 1 q s →
      ((∀ e ∈ s.host.posted, q.src = .ring → e.addr / 4096 ≠ p) → Issues (.nop q) q (fun u => (u.accept 1 q).finish p 1 {}) s) ∧
      (q.src = .ring → (∃ e ∈ s.host.posted, e.addr / 4096 = p) →
        Gives (.nop q) s (running 1 q ((s.host.posted.filter (fun e => e.addr / 4096 == p)).map (·.seq)) s))) ∧
    (Goes k 2 q s → ∃ t, Gives (.resetBlock q) s t ∧ ((t.page p).st = stIDLE ∨ (t.page p).st = stSPARE) ∧
      (t.page p).enpend = false ∧ (t.page p).lastCmd = 2 ∧ ∀ e ∈ t.shadow, basePage (e.1 / 4096) ≠ p) ∧
    (Goes k 3 q s → s.md = mCONFIGURE → p ≠ pageCMDQ → Issues (.enable q) q (fun u =>
      ((u.accept 3 q).setPage p { (u.accept 3 q).page p with enpend := true }).finish p 3 {}) s) ∧
    (Goes k 3 q s → s.md ≠ mCONFIGURE ∨ p = pageCMDQ → Issues (.enable q) q (running 3 q []) s) ∧
    (Goes k 4 q s → s.st p = stCONFIGURED → Issues (.disable q) q (fun u =>
      ((u.accept 4 q).setPage p { (u.accept 4 q).page p with enpend := false }).finish p 4 {}) s) ∧
    (Goes k 4 q s → s.st p = stACTIVE →
      (k ≠ .wu → Issues (.disable q) q (running 4 q []) s) ∧
      (k = .wu → ∃ t, Gives (.disable q) s t ∧ t.running = (running 4 q [] s).running ∧ OtherWheels (pageInst p) s t ∧
        t.wheel (pageInst p) = { s.wheel (pageInst p) with toSearch := some 0x10 })) ∧
    (Goes k 5 q s → prepareCode p [p] true (s.accept 5 q) = 0 → Issues (.commit q) q (fun u =>
      { (u.accept 5 q).setPage p { (u.accept 5 q).page p with prepared := true } with
        groups := u.groups ++ [⟨q, true, false, [p], 0, true, [], false⟩] }) s) ∧
    (Goes k 5 q s → prepareCode p [p] true (s.accept 5 q) ≠ 0 → Issues (.commit q) q (fun u =>
      (u.accept 5 q).finish p 5 { code := prepareCode p [p] true (s.accept 5 q) }) s) ∧
    (Goes k 6 q s → ∃ t, Gives (.abort q) s t ∧ (t.page p).prepared = false ∧ (t.page p).lastCmd = 6 ∧
      (∀ e ∈ t.shadow, basePage (e.1 / 4096) ≠ p) ∧ (∀ r ∈ t.running, r ∉ s.abortable p) ∧
      (k = .wu → s.st p = stSYNTH → (t.page p).st = stCONFIGURED) ∧
      ((s.groups.all fun g => !g.pages.contains p) = true → t.groups = s.groups)) ∧
    (Goes k 7 q s → Issues (.selftest q) q (running 7 q []) s)

/-- R36, R39, R323, R326 to R328, R331 to R333, R336, R347: the mode commands; those that act at a boundary run until it. The checks of
an ARM let the mode change where they find no failure; else the mode stays and the failures are reported, in their order, among them
every lit page whose CRC is not that of its configuration. Where the chapter leaves a reading open, it follows the model's: log entries
69 and 73. -/
def Obligations.ModeCommands : Prop :=
  ∀ (q : Req) (s : State),
    (Goes .sys 0x40 q s → Issues (.arm q) q (fun u =>
      { clearReport (u.accept 0x40 q) with mode := { (clearReport (u.accept 0x40 q)).mode with arm := 1 } }) s) ∧
    (Goes .sys 0x41 q s → Issues (.disarm q) q (running 0x41 q []) s) ∧
    (Goes .sys 0x42 q s → Issues (.enterLimp q) q (running 0x42 q []) s) ∧
    (Goes .sys 0x43 q s → Issues (.resume q) q (running 0x43 q []) s) ∧
    (Goes .sys 0x44 q s → s.level ≠ lvTEAM → Issues (.halt q) q (running 0x44 q []) s) ∧
    (Goes .sys 0x45 q s → Issues (.sleep q) q (fun u => { running 0x45 q [] u with
      iu := { u.iu with latch := 0, armed := true }, mode := { u.mode with wake := 0 } }) s) ∧
    (Goes .sys 0x46 q s → Issues (.reboot q) q (running 0x46 q []) s) ∧
    (Goes .sys 0x47 q s → s.mode.safeDue = false → ∃ t, Gives (.forceSafe q) s t ∧ t.mode.safeDue = true ∧
      t.reg pageSYS Off.sys_SAFECAUSE = 1 ∧ 0x000 ∈ t.iu.flight ∧
      (∃ a ∈ t.whey.alarms, a.origin = originOf pageSYS ∧ a.kind = 0x007) ∧ t.running = (running 0x47 q [] s).running) ∧
    (Goes .dbg 0x43 q s → s.level ≠ lvTEAM → Issues (.haltReq q) q (running 0x43 q []) s) ∧
    (Goes .dbg 0x44 q s → Issues (.tbPreset q) q (running 0x44 q []) s) ∧
    (s.mode.arm = 1 → armFails s = [] → Gives .armChecksEnd s { s with mode := { s.mode with arm := 2 } }) ∧
    (s.mode.arm = 1 → armFails s ≠ [] → ∃ t, Gives .armChecksEnd s t ∧ t.mode.arm = 0 ∧ t.md = s.md ∧ 0x004 ∈ t.iu.flight ∧
      t.reg pageSYS Off.sys_CFGREPCNT = BitVec.ofNat 32
        (min (armFails s).length 64 + if 64 < (armFails s).length then 2 ^ 7 else 0) ∧
      (∀ i f, i < 64 → (armFails s)[i]? = some f →
        t.reg pageSYS (Off.sys_CFGREP i) = BitVec.ofNat 32 (f.page + f.reason * 2 ^ 12 + f.detail * 2 ^ 20))) ∧
    (∀ p ∈ s.livePages, s.regionCrc p ≠ s.reg p 0x014 → ∃ f ∈ armFails s, f.page = p ∧ f.reason = 1 ∧ f.detail = 0x014)

/-- R341, R342, R349: a domain command is taken for the lead domain that it selects, and comes into effect at boundaries. -/
def Obligations.DomainCommands : Prop :=
  ∀ (q : Req) (s : State),
    let d := leadDomain (s.domSel q)
    (Goes .pwr 0x40 q s → Issues (.domOff q) q (running 0x40 q [d, 0]) s) ∧
    (Goes .pwr 0x41 q s → Issues (.domOn q) q (running 0x41 q [d, 0]) s) ∧
    (Goes .pwr 0x42 q s → Issues (.domIsolate q) q (running 0x42 q [d, 0]) s) ∧
    (Goes .pwr 0x43 q s → Issues (.domReset q) q (running 0x43 q [d, 0]) s)

/-- R352 to R354, R363, R368: the commands of Rind and of the debug page. SEAL says nothing of the mask that stands for its pages while
its package is read, a free value. Where the chapter leaves a reading open, it follows the model's: log entries 10, 13, 75 and 77. -/
def Obligations.RindCommands : Prop :=
  ∀ (k : Kind) (q : Req) (s : State), (k = .rind ∨ k = .dbg) →
    let p := q.page.toNat
    (Goes k 0x40 q s → Issues (.newNonce q) q (fun u =>
      let v := (u.accept 0x40 q).setNonce (slotOf p) (Config.nonce u.rind.draws).toNat
      { v with rind := { v.rind with draws := u.rind.draws + 1 } }.finish p 0x40 {}) s) ∧
    (Goes k 0x41 q s → s.lockEnd (slotOf p) ≤ s.now → s.authOk (slotOf p) = true → Issues (.auth q) q (fun u =>
      ((((u.accept 0x41 q).setNonce (slotOf p) 0).setFails (slotOf p) 0).setSession (slotOf p) true).finish p 0x41 {}) s) ∧
    (Goes k 0x41 q s → s.now < s.lockEnd (slotOf p) → Issues (.auth q) q (fun u =>
      ((u.accept 0x41 q).setNonce (slotOf p) 0).finish p 0x41 { code := 0x0A }) s) ∧
    (Goes k 0x42 q s → Issues (.deauth q) q (fun u => ((u.accept 0x42 q).setSession (slotOf p) false).finish p 0x42 {}) s) ∧
    (k = .rind →
      (Goes k 0x43 q s → s.budget 1 ≠ 0 → s.teamLoaded = true → s.scrLoaded = true → Issues (.goTeam q) q (fun u =>
        { running 0x43 q [] u with rind := { u.rind with level := some { code := 0x43, level := lvTEAM } } }) s) ∧
      (Goes k 0x44 q s → s.rind.hostSess = true → s.budget 1 ≠ 0 → Issues (.goOpen q) q (fun u =>
        { running 0x44 q [] u with rind := { u.rind with level := some { code := 0x44, level := lvOPEN } } }) s) ∧
      (Goes k 0x45 q s → s.rind.hostSess = true → s.budget 1 ≠ 0 → ∃ t, Gives (.seal q) s t ∧
        (let u := enterFor q.src s
         t = leaveFor q.src t.rind.acc
           { running 0x45 q [] u with free := t.free, rind := { u.rind with sealMask := t.rind.sealMask } })) ∧
      (Goes k 0x46 q s → s.budget 1 ≠ 0 → Issues (.unseal q) q (running 0x46 q []) s) ∧
      (Goes k 0x47 q s → Issues (.chgAuth q) q (running 0x47 q []) s) ∧
      (Goes k 0x48 q s → Issues (.readout q) q (running 0x48 q []) s))

/-- R73, R76, R77, R83, R94, R95, R104, R107, R109, R114, R133: the commands of pin channels, wheel units and the calendar, in the block
states and modes that the tables give them. Where the chapter leaves a reading open, it follows the model's: log entries 13 and 28. -/
def Obligations.PinWheelCalendarCommands : Prop :=
  ∀ (q : Req) (s : State),
    let p := q.page.toNat
    let sel := selection q s
    let u := p - 0x020
    let on : Prop := s.st p = stACTIVE ∨ s.st p = stCONFIGURED
    let cancels (test : CalEv → Prop) (t : State) : Prop :=
      (∀ e ∈ s.cal.evs, test e → e.st ≠ 2 → ∀ y ∈ t.cal.evs, y.slot = e.slot → y.st = 2 ∧ y.status = 3) ∧
      (∀ e ∈ s.cal.evs, ¬ test e ∨ e.st = 2 → (∀ x ∈ s.cal.evs, x.slot = e.slot → x = e) → e ∈ t.cal.evs)
    (Ready .pchg q s → s.st p = stACTIVE → sel ≠ [] →
      (∀ c ∈ sel, s.chcfg c 0 2 % 2 = 1 ∧ s.chcfg c 2 1 = 1 ∧ (s.chan c).cq.length < 4 ∧
        ((s.staged c).kind = 3 → (s.staged c).dur ≠ 0)) →
      Issues (.cmpPush q) q (fun v => (sel.foldl (fun v c => v.setChan c { v.chan c with
        cq := (v.chan c).cq ++ [s.staged c], headTb := if (v.chan c).cq = [] then v.now + 1 else (v.chan c).headTb })
        (v.accept 0x40 q)).finish p 0x40 {}) s) ∧
    (Ready .pchg q s → on → (∀ c ∈ sel, s.chcfg c 2 1 = 1) → ∃ t, Gives (.cmpFlush q) s t ∧ (t.page p).lastCmd = 0x41 ∧
      (∀ c, t.chan c = if c ∈ sel then { s.chan c with cq := [] } else s.chan c) ∧
      (∀ c ∈ sel, ∀ k ∈ (s.chan c).cq, ∀ i, k.ev = some i → ∀ y ∈ t.cal.evs, y.slot = i → y.status = 6)) ∧
    (Ready .pchg q s → on → sel ≠ [] → s.fld p Off.pchg_STAGCFG 8 8 + sel.length ≤ s.fld p Off.pchg_STAGCFG 0 8 →
      (s.chan (sel.headD 0)).top ≠ 0 →
      (∀ c ∈ sel, (s.chan c).top = (s.chan (sel.headD 0)).top ∧ s.cntcfg c 1 4 = s.cntcfg (sel.headD 0) 1 4) →
      Issues (.stagger q) q
        (running 0x42 q ([s.fld p Off.pchg_STAGCFG 0 8, s.fld p Off.pchg_STAGCFG 8 8, (s.chan (sel.headD 0)).top] ++ sel)) s) ∧
    (Ready .pchg q s → on → Issues (.capFlush q) q (fun v =>
      (sel.foldl (fun v c => v.setChan c { v.chan c with capq := [] }) (v.accept 0x43 q)).finish p 0x43 {}) s) ∧
    (Ready .wu q s → s.st p = stACTIVE → ∃ t, Gives (.resync q) s t ∧ (t.page p).lastCmd = 0x40 ∧ OtherWheels u s t ∧
      t.wheel u = { s.wheel u with toSearch := some 0x0E } ∧
      ((s.wheel u).state = wFULL ∨ (s.wheel u).state = wCAM →
        ∀ e ∈ t.cal.evs, e.angle = true → s.servedBy e.wheel u = true → e.st = 2) ∧
      ((s.wheel u).state ≠ wFULL → (s.wheel u).state ≠ wCAM → t.cal = s.cal)) ∧
    (Ready .wu q s → s.st p = stCONFIGURED → s.md = mBENCH → s.pinDriven (s.fld p Off.wu_SYNCFG 0 8) = false →
      (s.flag p Off.wu_SYNCFG 24 = true → s.pinDriven (s.fld p Off.wu_SYNCFG 8 8) = false) →
      (s.flag p Off.wu_SYNCFG 25 = true → s.pinDriven (s.fld p Off.wu_SYNCFG 16 8) = false) →
      (s.flag p Off.wu_SYNCFG 26 = true → s.fld p Off.wu_SYNCFG 27 3 ≠ u) →
      (∀ i < s.fld (pageWUS u) Off.wus_PROF 0 6, s.teeth u * s.fld (pageWUS u) (Off.wus_SEG i) 0 16 ≤ 12000000) →
      Issues (.synStart q) q (running 0x41 q []) s) ∧
    (Ready .wu q s → s.st p = stSYNTH → Issues (.synStop q) q (running 0x42 q []) s) ∧
    (Ready .wu q s → on → s.level ≠ lvSEALED → Issues (.lrnClear q) q (fun v =>
      ((v.accept 0x43 q).setWheel u { v.wheel u with
        lrnOk := false, lrnClear := true, lrnT0 := none, lrnTimes := [] }).finish p 0x43 {}) s) ∧
    (Ready .ang q s → s.st p = stACTIVE →
      (∃ t, Gives (.evCancel q) s t ∧ (t.page p).lastCmd = 0x40 ∧
        cancels (fun e => e.owner = 0x1F ∧ BitVec.ofNat 16 e.tag &&& BitVec.ofNat 16 (s.fld pageANG Off.ang_CANTAG 16 16) =
          BitVec.ofNat 16 (s.fld pageANG Off.ang_CANTAG 0 16) &&& BitVec.ofNat 16 (s.fld pageANG Off.ang_CANTAG 16 16)) t) ∧
      (∃ t, Gives (.evCancelRole q) s t ∧ (t.page p).lastCmd = 0x41 ∧
        cancels (fun e => e.owner = s.fld pageANG Off.ang_CANSEL 0 4 ∧
          (s.flag pageANG Off.ang_CANSEL 8 = true → e.epoch ≠ s.epoch (s.fld pageANG Off.ang_CANSEL 0 4))) t) ∧
      (∃ t, Gives (.evFlushWheel q) s t ∧ (t.page p).lastCmd = 0x42 ∧
        cancels (fun e => e.angle = true ∧ s.fld pageANG Off.ang_CANSEL 16 8 / 2 ^ e.wheel % 2 = 1) t))

namespace Sys2Proof.Claims

/-- A request joins the urgent requests of a core: behind those that came before it, and of one clock behind the lower channels (R207). -/
def queueUp (u : Urg) (l : List Urg) : List Urg :=
  let first (v : Urg) : Bool := decide (v.tb < u.tb ∨ (v.tb = u.tb ∧ v.ch ≤ u.ch))
  l.takeWhile first ++ u :: l.dropWhile first

end Sys2Proof.Claims

/-- R204, R207, R209, R214 to R217, R221, R238, R254, R255, R276, R320: the commands of the converters, the resampler, PWM, the
interrupt unit and the Idxia ports, in the block states and modes that the tables give them. Urgent requests wait in order of arrival,
those of one clock in that of their channels. -/
def Obligations.ConverterPwmLinkCommands : Prop :=
  ∀ (q : Req) (s : State),
    let p := q.page.toNat
    let i := pageInst p
    let able (n : Nat) : Prop := s.flag (pageADC n) Off.adc_CORESTAT 8 = true ∧ s.flag (pageADC n) Off.adc_CORESTAT 9 = true
    (Ready .adc q s →
      (s.st p = stIDLE ∨ s.st p = stCONFIGURED ∨ s.st p = stSPARE → s.flag (pageADC i) Off.adc_CORESTAT 8 = true →
        ∃ t, Gives (.calibrate q) s t ∧ (t.page p).st = stCALIBRATING ∧ (∀ p', p' ≠ p → t.page p' = s.page p') ∧
          t.running.any (fun r => r.req == q && r.code == 0x40 && r.data == [s.st p, s.now]) = true) ∧
      (s.converts i = true → s.flag p Off.adc_ENMASK (s.urgCh q) = true → (s.adc i).urg.length < 4 →
        ∃ t, Gives (.urgent q) s t ∧ (∀ m, m ≠ i → t.adc m = s.adc m) ∧
          t.adc i = { s.adc i with urg := queueUp { ch := s.urgCh q, tb := s.now, cmd := true } (s.adc i).urg } ∧
          t.running = (running 0x41 q [] s).running) ∧
      (s.st p = stACTIVE → Issues (.seqRestart q) q (running 0x42 q []) s) ∧
      (p = pageADC 4 → s.st p = stSPARE → able 4 → Issues (.adcSubstitute q) q (running 0x43 q [s.subGroup q]) s) ∧
      (∀ g, p = pageADC 4 → s.st p = stACTIVE → (s.adc 4).sub = some g → s.st (pageADC g) = stCONFIGURED → able g →
        Issues (.adcRelease q) q (running 0x44 q []) s)) ∧
    (Ready .tdac q s → s.st p = stACTIVE → s.flag pageTDAC Off.tdac_TDCFG 16 = true → s.flag pageTDAC Off.tdac_TDSTAT 0 = true →
      (s.flag pageTDAC Off.tdac_TDCFG 17 = true → s.flag pageTDAC Off.tdac_TDCMP 8 = true) →
      Issues (.tdCompare q) q (fun u => { running 0x40 q [] u with td := { u.td with n := 0, sum := 0, rng := 0, beg := u.now } }) s) ∧
    (Ready .rsmp q s → s.laneSel q ≠ 0 →
      (s.st p = stACTIVE → Issues (.winClose q) q (running 0x40 q [s.laneSel q]) s) ∧
      (s.st p = stACTIVE ∨ s.st p = stCONFIGURED → Issues (.ringReset q) q (running 0x41 q [s.laneSel q]) s)) ∧
    (Ready .pwm q s →
      (s.st p = stSPARE → s.pwmSubMod q ≤ 9 → s.pwmSubMod q ≠ i → s.st (pagePWM (s.pwmSubMod q)) ≠ stSPARE →
        s.fld pagePINMUX1 (Off.pinmuxX_MODMAP (s.pwmSubMod q)) 0 4 = s.pwmSubMod q →
        Issues (.pwmSubstitute q) q (running 0x40 q [s.pwmSubMod q]) s) ∧
      (∀ l, s.st p = stACTIVE → (s.pwm i).sub = some l → s.st (pagePWM l) = stCONFIGURED →
        Issues (.pwmRelease q) q (running 0x41 q []) s)) ∧
    (Ready .iu q s → p = pageIU → s.st p = stACTIVE →
      (let n := if q.src = .ring then q.args.w2.toNat % 4 else s.fld pageIU Off.iu_TGTSEL 0 2
       ∃ t, Gives (.tgtReset q) s t ∧ t.itgt n = { waitHead := s.isCompact n } ∧ t.fld pageIU (Off.iu_QHEAD n) 0 12 = 0 ∧
         ∀ m, m ≠ n → t.itgt m = s.itgt m)) ∧
    (Ready .idx q s → s.st p = stACTIVE →
      (s.pst i = pQUARANTINED → ∃ t, Gives (.readmit q) s t ∧ t.pst i = pTRAINING ∧ ∀ j, j ≠ i → t.pst j = s.pst j) ∧
      (s.pst i ≠ pQUARANTINED → ∃ t, Gives (.retrain q) s t ∧ t.pst i = pTRAINING ∧ ∀ j, j ≠ i → t.pst j = s.pst j))

/-- R169, R170, R184 to R187, R193, R194: the commands of the clusters and of Press, in the block states and modes that the tables give
them. When LOAD and MIRROR_COPY clear the marks of their banks, and LOAD its LDSTAT, is the model's reading: log entry 49. -/
def Obligations.ClusterPressCommands : Prop :=
  ∀ (q : Req) (s : State),
    let p := q.page.toNat
    let c := pageInst p
    let k := s.taskSel p
    let own := s.task c k
    (Ready .cl q s → s.st p = stACTIVE →
      (s.taskOn c k = true →
        (own.canAt ≠ s.cycle →
          (own.st = tIDLE ∨ own.st = tDONE ∨ own.st = tCANCELLED → ∃ t, Gives (.taskReady q) s t ∧
            TaskIs c k { own with st := tREADY, resume := s.taskEntry c k, cancel := false, shiftWait := false } s t) ∧
          (own.st ≠ tIDLE → own.st ≠ tDONE → own.st ≠ tCANCELLED → ∃ t, Gives (.taskReady q) s t ∧
            TaskIs c k { own with rdy := min (own.rdy + 1) 255 } s t)) ∧
        (own.canAt = s.cycle → ∃ t, Gives (.taskReady q) s t ∧
          TaskIs c k (if own.st = tIDLE then { own with st := tCANCELLED } else own) s t)) ∧
      (own.st = tIDLE → ∃ t, Gives (.taskCancel q) s t ∧ TaskIs c k { own with canAt := s.cycle } s t) ∧
      (own.st ≠ tIDLE → own.st ≠ tRUNNING → own.shiftWait = false → ∃ t, Gives (.taskCancel q) s t ∧
        TaskIs c k { own with st := tCANCELLED, rdy := 0, cancel := false, shiftWait := false, canAt := s.cycle } s t) ∧
      (own.st = tRUNNING → (∀ e, s.engineOf c k = some e → own.disAt = s.cycle → (s.eng e).run ≠ 0 ∨ (s.eng e).word ≠ none) →
        ∃ t, Gives (.taskCancel q) s t ∧
        TaskIs c k { own with cancel := true, rdy := 0, canAt := s.cycle } s t) ∧
      (∀ e, own.st = tRUNNING → own.disAt = s.cycle → s.engineOf c k = some e → (s.eng e).run = 0 → (s.eng e).word = none →
        ∃ t, Gives (.taskCancel q) s t ∧ (t.eng e).task = none ∧ (t.task c k).st = tCANCELLED ∧
          (t.task c k).runs = (own.runs + 65535) % 2 ^ 16) ∧
      (own.st = tSTALLED → own.shiftWait = true → ∃ t, Gives (.taskCancel q) s t ∧ (t.task c k).cancel = true ∧ (t.task c k).rdy = 0 ∧
        ∀ e, s.engineOf c k = some e → (t.eng e).wait = none) ∧
      (∃ t, Gives (.shiftAbort q) s t ∧ (t.page p).lastCmd = 0x42 ∧
        ∀ i < 8, bitOf (s.fld p Off.cl_ENGSEL 0 8) i = true → (t.eng (8 * c + i)).wait = none)) ∧
    (Ready .press q s → s.md = mCONFIGURE ∨ s.serving = true → s.clMask ≠ [] →
      ((∀ c ∈ s.clMask, s.split c = false) → 64 ≤ s.fld pagePRESS Off.press_IMGLEN 0 21 → Issues (.load q) q (fun u =>
        s.clMask.foldl (fun v c => v.markWritten c {})
          ((running 0x40 q (s.fld pagePRESS Off.press_IMGLEN 0 21 :: s.clMask) u).setReg pagePRESS Off.press_LDSTAT 0)) s) ∧
      ((∀ c ∈ s.clMask, s.split c = true ∨ (s.bankSt c (!s.bankOf c)).valid = true ∨
          (s.level = lvOPEN ∧ (s.bankSt c (!s.bankOf c)).win = true)) → Issues (.bankSwitch q) q (fun u =>
        { running 0x41 q (s.fld pagePRESS Off.press_SWCFG 0 4 :: s.clMask) u with
          press := { u.press with dest := s.clMask.foldl (fun m c => m.set false c (s.switchDest c)) u.press.dest } }) s) ∧
      ((∀ c ∈ s.clMask, s.split c = false) → Issues (.mirrorCopy q) q (fun u =>
        s.clMask.foldl (fun v c => v.markWritten c {}) (running 0x42 q s.clMask u)) s))

namespace Sys2Proof.Claims

/-- Of the registers, none outside one page has changed. -/
def OnlyPage (p : Nat) (s t : State) : Prop := ∀ p' o, p' < 4096 → o < 4096 → p' ≠ p → t.reg p' o = s.reg p' o

/-- Nothing else waits for a tick boundary: no command runs, no group commits, no mode is due, nothing is to be moved, and the TB and
the engine clock run (R18, R20, R324). -/
structure Quiet (s : State) : Prop where
  runs : s.running = []
  groups : s.groups = []
  safe : s.mode.safeDue = false
  cfg : s.mode.cfgDue = false
  limp : s.mode.limpDue = false
  arm : s.mode.arm = 0
  lost : s.lost = []
  twins : s.twinDue = []
  moves : ∀ c < 16, (s.clu c).moveDue = false ∧ (s.clu c).faultDue = false
  ticks : s.tbStopped = false
  clock : s.mode.clockLost = false
  mode : s.md = mCONFIGURE ∨ s.serving = true

/-- The calendar event `e` has ended with a status and a code: its entry is free, or it waits for its record (R127, R128). -/
def Ends (e : CalEv) (status code : Nat) (t : State) : Prop :=
  if e.owner = hostOwner ∧ e.cpl = false then ∀ x ∈ t.cal.evs, x.slot ≠ e.slot
  else ∀ x ∈ t.cal.evs, x.slot = e.slot → x.st = 2 ∧ x.status = status ∧ x.code = code

end Sys2Proof.Claims

/-- R61, R64, R65, R67, R68: a match, the wrap of the TB, the end of a ratio window, the slow source, and the stop and the catch-up of
the TB around DORMANT. Where the chapter leaves a reading open, it follows the model's: log entry 90. -/
def Obligations.TimeBaseEvents : Prop :=
  (∀ (n : Fin 4) (s : State), s.flag pageTB Off.tb_MATCHARM n.val = true → s.tbStopped = false →
    Comes (max (s.clockOf (s.matchVal.get 0 n.val)) (s.matchTb.get 0 n.val)) s →
    ∃ t, Gives (.matchReached n) s t ∧ t = { s with
        tb := t.tb, atClock := t.atClock, fresh := t.fresh, idx0 := { s.idx0 with hold := t.idx0.hold }, regs := t.regs, iu := t.iu,
        clus := t.clus } ∧
      t.now = max s.now (max (s.clockOf (s.matchVal.get 0 n.val)) (s.matchTb.get 0 n.val)) ∧
      t.flag pageTB Off.tb_MATCHARM n.val = false ∧ t.flag pageTB 0x018 (16 + n.val) = true ∧
      t.iu.flight = s.iu.flight ++ (if s.flag pageTB 0x01C (16 + n.val) then [0x005] else []) ∧ OnlyPage pageTB s t) ∧
  (∀ s : State,
    (s.tb = BitVec.allOnes 64 → s.tbStopped = false → ∃ t, Gives .tbWrap s t ∧ t = { s with
        tb := 0, era := s.era + 1, atClock := s.regs, fresh := t.fresh, idx0 := { s.idx0 with hold := 0 }, regs := t.regs, iu := t.iu } ∧
      t.now = s.now + 1 ∧ t.flag pageTB 0x018 20 = true ∧ OnlyPage pageTB s t) ∧
    (s.tb ≠ BitVec.allOnes 64 ∨ s.tbStopped = true → Gives .tbWrap s s) ∧
    (∀ count : Time, s.md ≠ mBOOT → s.md ≠ mDORMANT → ∃ t, Gives (.slowRatioWindow count) s t ∧ t = { s with regs := t.regs } ∧
      t.reg pageTB Off.tb_SLOWRATIO = BitVec.ofNat 32 (2 * count.toNat) ∧ t.flag pageTB Off.tb_SLOWSTAT 0 = true ∧
      t.flag pageTB Off.tb_SLOWSTAT 1 = s.flag pageTB Off.tb_SLOWSTAT 1 ∧ OnlyPage pageTB s t) ∧
    (∀ ok, ∃ t, Gives (.slowokChange ok) s t ∧ t = { s with regs := t.regs } ∧ t.flag pageTB Off.tb_SLOWSTAT 1 = ok ∧
      t.flag pageTB Off.tb_SLOWSTAT 0 = s.flag pageTB Off.tb_SLOWSTAT 0 ∧ OnlyPage pageTB s t) ∧
    (∀ count : Time, s.md = mBOOT ∨ s.md = mDORMANT → Gives (.slowRatioWindow count) s s) ∧
    (s.md ≠ mDORMANT → Gives .tbStop s s) ∧
    (s.md = mDORMANT → s.mode.dark = true → (∀ n < 5, (s.adc n).pipe = []) → Gives .tbStop s { s with tbStopped := true }) ∧
    (s.md = mDORMANT → s.mode.dark = false → (∀ n < 5, s.pageOn (pageADC n) = true) →
      ∃ t, Gives .tbStop s t ∧ t.tbStopped = true ∧ t.mode.dark = true ∧ t.md = mDORMANT ∧ ∀ n < 5, (t.adc n).pipe = []) ∧
    (∀ d : BitVec 48, s.md = mDORMANT → s.tbStopped = true → s.mode.wake ≠ 0 →
      (let ratio := (s.reg pageTB Off.tb_SLOWRATIO).toNat
       let a := d.toNat * ratio / 65536
       let k := if s.flag pageTB Off.tb_SLOWCFG 0 then 30000 else s.fld pageTB Off.tb_SLOWCFG 16 16
       ∃ t, Gives (.tbCatchup d) s t ∧ t.tb = BitVec.ofNat 64 (s.now + a) ∧ t.tbStopped = false ∧ t.md = mBOOT ∧
         t.flag pageTB Off.tb_RESYNC 0 = true ∧
         (t.reg pageTB Off.tb_RESYNCERR).toNat = min ((ratio + 65535) / 65536 + (a * k + 999999) / 1000000) (2 ^ 32 - 1) ∧
         t.reg64 pageTB Off.tb_DORMSLOW_LO Off.tb_DORMSLOW_HI = d.toNat ∧ t.flag pageTB 0x018 21 = true)))

namespace Sys2Proof.Claims

/-! ### What a boundary does (R20) -/

/-- The tick boundary comes, and finds these commands running and these commits under way; no block has been lost. -/
structure Due (runs : List Running) (groups : List Group) (s : State) : Prop where
  now : s.now ≤ s.tick.next
  comes : Comes s.tick.next s
  runs : s.running = runs
  groups : s.groups = groups
  lost : s.lost = []
  twins : s.twinDue = []
  faults : ∀ c < 16, (s.clu c).faultDue = false
  ticks : s.tbStopped = false
  mode : s.md ≠ mBOOT ∧ s.md ≠ mDORMANT

/-- No change of mode is due, and no role is to be moved (R324, R374). -/
structure Stays (s : State) : Prop where
  safe : s.mode.safeDue = false
  cfg : s.mode.cfgDue = false
  limp : s.mode.limpDue = false
  moves : ∀ c < 16, (s.clu c).moveDue = false

/-- Page `p` is the first of a block and its domain is ON. -/
def Lit (p : Nat) (s : State) : Prop := (pageKind p).isSome = true ∧ isSecondary p = false ∧ s.pageOn p = true

/-- R20, R40, R52, R54: a page that is PREPARED commits at the boundary: every shadow becomes its register's value, and IDLE becomes
CONFIGURED; a page in FAULT keeps its values. -/
def BoundaryCommits : Prop :=
  ∀ (q : Req) (slot : Bool) (p : Nat) (s : State), Due [] [⟨q, true, false, [p], 0, true, [], slot⟩] s → Stays s → Lit p s →
    (pageKind p = some .pchg ∨ pageKind p = some .press ∨ pageKind p = some .pwr) →
    (s.st p ≠ stFAULT → s.st p ≠ stQUARANTINE → ∃ t, Gives .tickBoundary s t ∧ t.groups = [] ∧ (t.page p).prepared = false ∧
      (∀ e ∈ t.shadow, basePage (e.1 / 4096) ≠ p) ∧
      (∀ e ∈ s.shadow, basePage (e.1 / 4096) = p → (∀ x ∈ s.shadow, x.1 = e.1 → x = e) → isShadowed e.1 = true →
        t.reg (e.1 / 4096) (e.1 % 4096) = e.2) ∧
      (t.page p).st = (if (s.page p).st = stIDLE then stCONFIGURED else (s.page p).st)) ∧
    (s.st p = stFAULT → ∃ t, Gives .tickBoundary s t ∧ t.groups = [] ∧ (t.page p).prepared = false ∧ (t.page p).st = stFAULT ∧
      ∀ o, isShadowed (adr p o) = true → t.reg p o = s.reg p o)

/-- R39, R40, R166, R254: an ENABLE that runs brings a CONFIGURED block into service, or makes a spare of one that is configured as
one; a DISABLE takes an ACTIVE one out of it. -/
def BoundaryService : Prop :=
  ∀ (r : Running) (s : State), Due [r] [] s → Stays s → Lit r.req.page.toNat s →
    (let p := r.req.page.toNat
     let spare : Prop := (pageKind p = some .cl ∧ s.isReserve (pageInst p) = true) ∨
       (pageKind p = some .pwm ∧ s.flag p Off.pwm_MCFG 0 = true ∧ (s.pwm (pageInst p)).sub = none)
     (r.code = 3 → s.st p = stCONFIGURED → ∃ t, Gives .tickBoundary s t ∧ r ∉ t.running ∧
       (spare → (t.page p).st = stSPARE) ∧ (¬ spare → (t.page p).st = stACTIVE)) ∧
     (r.code = 4 → s.st p = stACTIVE → ∃ t, Gives .tickBoundary s t ∧ r ∉ t.running ∧ (t.page p).st = stCONFIGURED) ∧
     (r.code = 3 → s.st p ≠ stCONFIGURED → ∃ t, Gives .tickBoundary s t ∧ r ∉ t.running ∧ (t.page p).st = (s.page p).st))

/-- R322, R324, R334, R337, R347: of the changes of mode that are due at a boundary the first happens, in the order of R324: a REBOOT,
then SAFE, DORMANT, CONFIGURE, HALT, LIMP, the mode to which a RESUME returns, and that of an ARM whose checks have passed. -/
def BoundaryModes : Prop :=
  ∀ s : State,
    (let turns (m : Nat) : Prop := ∃ t, Gives .tickBoundary s t ∧ t.md = m ∧ t.fld pageSYS Off.sys_MODE 4 3 = s.md
     let held := s.fld pageSYS Off.sys_MODE 8 3
     (∀ r : Running, Due [r] [] s → (∀ c < 16, (s.clu c).moveDue = false) → r.req.page.toNat = pageSYS →
       (r.code = 0x46 → turns mBOOT) ∧
       (0x40 ≤ r.code → r.code ≠ 0x46 → s.mode.safeDue = true → turns mSAFE) ∧
       (s.mode.safeDue = false →
         (r.code = 0x45 → s.flag pageTB Off.tb_SLOWSTAT 0 = true → turns mDORMANT) ∧
         (r.code = 0x41 → turns mCONFIGURE) ∧
         (r.code = 0x44 → turns mHALT) ∧
         (r.code = 0x42 → turns mLIMP) ∧
         (r.code = 0x43 → s.md = mHALT → turns (if held = mRUN ∧ s.reg pageSYS Off.sys_LIMPCAUSE ≠ 0 then mLIMP else held)) ∧
         (r.code = 0x43 → s.md = mLIMP → turns mRUN) ∧
         (r.code = 0x40 → s.mode.arm = 2 → s.md = mCONFIGURE →
           turns (if s.flag pageSYS Off.sys_ARMCFG 0 then mBENCH else mRUN)))) ∧
     (∀ r : Running, Due [r] [] s → (∀ c < 16, (s.clu c).moveDue = false) → r.req.page.toNat = pageDBG → r.code = 0x43 →
       s.mode.safeDue = false → turns mHALT) ∧
     (Due [] [] s → (∀ c < 16, (s.clu c).moveDue = false) →
       (s.mode.safeDue = true → turns mSAFE) ∧ (s.mode.safeDue = false → s.md = mRUN → s.mode.limpDue = true → turns mLIMP)))

/-- R341, R342, R349: the steps of a domain command, one a boundary: DOM_ISOLATE ends with the domain ISOLATED, DOM_OFF goes on from it,
DOM_ON and DOM_RESET let it rejoin, and the domain is ON at a boundary after its work. -/
def BoundaryDomains : Prop :=
  ∀ (r : Running) (d : Nat) (s : State), Due [r] [] s → Stays s → r.req.page.toNat = pagePWR → leadDomain d = d → d < 88 →
    (let on : Prop := (s.dom.get {} d).st = 0
     let ends (x : Nat) : Prop := ∃ t, Gives .tickBoundary s t ∧ r ∉ t.running ∧ (t.dom.get {} d).st = x
     let goes (n x : Nat) : Prop := ∃ t, Gives .tickBoundary s t ∧ { r with data := [d, n] } ∈ t.running ∧ (t.dom.get {} d).st = x
     (r.data = [d, 0] → (r.code = 0x42 → on → ends 2) ∧ (r.code = 0x40 → on → goes 1 2) ∧ (r.code = 0x41 → goes 2 4) ∧
       (r.code = 0x43 → goes 1 3)) ∧
     (r.data = [d, 1] → r.code = 0x43 → goes 2 4) ∧
     (r.data = [d, 2] → 0x40 ≤ r.code → ((s.dom.get {} d).worked = true → (s.dom.get {} d).since < s.tick.next → ends 0) ∧
       ((s.dom.get {} d).worked = false → ∃ t, Gives .tickBoundary s t ∧ r ∈ t.running ∧ t.dom.get {} d = s.dom.get {} d)))

/-- R66, R83, R107, R109, R185, R204, R209: what other commands wait for: the counters of a STAGGER are placed, a SEQ_RESTART begins with
entry 0, engines at an instruction boundary change banks, synthesis starts and stops, and the TB takes its preset. -/
def BoundaryBlocks : Prop :=
  ∀ (r : Running) (s : State), Due [r] [] s → Stays s → Lit r.req.page.toNat s →
    (let p := r.req.page.toNat
     let done (E : State → Prop) : Prop := ∃ t, Gives .tickBoundary s t ∧ r ∉ t.running ∧ E t
     (∀ (n k0 top : Nat) (l : List Nat), pageKind p = some .pchg → r.code = 0x42 → r.data = n :: k0 :: top :: l → l.Nodup →
       done fun t => ∀ i c, l[i]? = some c → (let phi := (k0 + i) * 2 * top / n
         (t.chan c).cnt = (if phi < top then phi else 2 * top - phi) ∧ (t.chan c).down = decide (top ≤ phi))) ∧
     (∀ n : Nat, n < 5 → p = pageADC n → r.code = 0x42 →
       done fun t => (t.adc n).kind ≠ 0 → (t.adc n).entry = 0 ∧ (t.adc n).passes = 0 ∧ (t.adc n).last = none) ∧
     (∀ (n : Nat) (l : List Nat), p = pagePRESS → r.code = 0x41 → r.data = n :: l → (∀ c ∈ l, c < 16) →
       (∀ e : Fin 128, (s.eng e.val).overrun = false) →
       ((∀ e ∈ s.unswitched l, (s.eng (s.leads e)).atBoundary = true) → done fun t => t.flag pagePRESS 0x018 17 = true ∧
         ∀ c ∈ l, ∀ i < 8, (t.eng (8 * c + i)).bank = s.press.dest.get false c) ∧
       (∀ e ∈ s.unswitched l, (s.eng (s.leads e)).atBoundary = false → n = 0 → done fun t =>
         t.flag pagePRESS 0x018 18 = true ∧ (t.eng e).bank = (s.eng e).bank) ∧
       (∀ e ∈ s.unswitched l, (s.eng (s.leads e)).atBoundary = false → n ≠ 0 → ∃ t, Gives .tickBoundary s t ∧
         { r with data := (n - 1) :: l } ∈ t.running ∧ (t.eng e).bank = (s.eng e).bank)) ∧
     (∀ u : Nat, u < 8 → p = pageWU u →
       (r.code = 0x41 → s.md = mBENCH → done fun t => (t.page p).st = stSYNTH ∧ (t.wheel u).synRpm = 0 ∧ (t.wheel u).synSeg = 0) ∧
       (r.code = 0x42 → done fun t => (t.page p).st = stCONFIGURED)) ∧
     (p = pageDBG → r.code = 0x44 →
       (let v := s.reg64 pageDBG Off.dbg_TBPRESET_LO Off.dbg_TBPRESET_HI
        (v ≤ s.tick.next % 2 ^ 64 → done fun t => t.now = s.tick.next) ∧
        (s.tick.next % 2 ^ 64 < v → done fun t => t.tb = BitVec.ofNat 64 v))))

/-- R373, R374: a role whose pair has lost its checker moves to the lowest spare that qualifies, which holds it from the boundary on
with the next epoch; the block that had it does not. -/
def BoundaryMoves : Prop :=
  ∀ (c k : Nat) (s : State), Due [] [] s → s.mode.safeDue = false → s.mode.limpDue = false → c < 16 → k < 16 → k ≠ c →
    (∀ i < 16, (s.clu i).moveDue = decide (i = c)) → (s.clu c).holds = true → s.takesOver = true → s.st (pageCL c) = stACTIVE →
    s.qualifies c k = true → (∀ i < k, i ≠ c → s.qualifies c i = false) →
    ∃ t, Gives .tickBoundary s t ∧ t.role k = s.role c ∧ (t.page (pageCL k)).st = stACTIVE ∧ (t.clu k).holds = true ∧
      (t.clu c).holds = false ∧ (t.page (pageCL c)).st = stQUARANTINE ∧
      t.epoch (s.role c) = (if 255 ≤ s.epoch (s.role c) then 1 else s.epoch (s.role c) + 1)

end Sys2Proof.Claims

/-- R15 to R20, R24 to R26, R39, R52, R54, R66, R83, R109, R119, R125, R144, R185, R204, R226, R321, R324, R341, R374: what a tick
brings: its boundary with what waits for it, the guard, the drain and its cut-off, the maps at cycle 128 and the ready point. Where the
chapters leave a reading open, it follows the model's: log entries 16, 24, 41, 79, 80 and 90. -/
def Obligations.TickEvents : Prop :=
  BoundaryCommits ∧ BoundaryService ∧ BoundaryModes ∧ BoundaryDomains ∧ BoundaryBlocks ∧ BoundaryMoves ∧
  ∀ s : State,
    (Quiet s → s.now ≤ s.tick.next → Comes s.tick.next s → ∃ t, Gives .tickBoundary s t ∧ t.now = s.tick.next ∧ t.md = s.md ∧
      t.tick.bnd = s.tick.next ∧ t.tick.guard = false ∧ t.tick.cutoff = false ∧
      t.reg pageTB Off.tb_TICKNUM = BitVec.ofNat 32 ((s.tick.next % 2 ^ 64 - s.tick.phase) / (2 * s.tick.per))) ∧
    (s.tbStopped = true ∨ s.md = mDORMANT ∨ s.mode.clockLost = true → Gives .tickBoundary s s) ∧
    (let u := s.upTo (s.tick.bnd + 2 * (s.tick.len - 64))
     ∃ t, Gives .tickGuard s t ∧ t.now = u.now ∧ t.tick = { u.tick with guard := true } ∧
      (s.serving = true → ∀ e : Fin 128, s.running? e.val = true → (t.eng e.val).overrun = true) ∧
      (s.serving = false → t.engs = s.engs)) ∧
    (let u := s.upTo (s.tick.bnd + 256)
     let found := u.dueEvents.find? (fun y => u.canDrain y.2.1 y.2.2)
     (u.draining = false ∨ found = none → Gives .drain s u) ∧
     (∀ x : Nat × Bool × CalEv, u.draining = true → found = some x →
       (u.pageOn (chPage x.2.2.pch) = false → ∃ t, Gives .drain s t ∧ Ends x.2.2 6 ePOWER t ∧ t.chans = u.chans) ∧
       (u.pageOn (chPage x.2.2.pch) = true →
         (x.2.1 = true → x.2.2.drop = true → ∃ t, Gives .drain s t ∧ Ends x.2.2 2 eLATE t ∧ t.chans = u.chans) ∧
         (¬ (x.2.1 = true ∧ x.2.2.drop = true) →
           Gives .drain s { u with
             cal := { u.cal with
               evs := u.cal.evs.map (fun e => if e.slot = x.2.2.slot then { x.2.2 with st := 1, late := x.2.1 } else e)
               loaded := u.cal.loaded + 1 }
             chans := u.chans.set {} x.2.2.pch { u.chan x.2.2.pch with
               cq := (u.chan x.2.2.pch).cq ++ [{ tgt := x.1 % 2 ^ 64, kind := x.2.2.kind, dur := x.2.2.dur, ev := some x.2.2.slot }]
               headTb := if (u.chan x.2.2.pch).cq = [] then u.now + 1 else (u.chan x.2.2.pch).headTb } })))) ∧
    (let u := s.upTo (s.tick.bnd + 2 * (s.tick.len - 256))
     ∃ t, Gives .drainCutoff s t ∧ t = { u with cal := t.cal, regs := t.regs, tick := { u.tick with cutoff := true } } ∧
       (u.draining = true → (∀ x ∈ u.dueEvents, ∀ e ∈ t.cal.evs, e.slot = x.2.2.slot → e.spill = true) ∧
         t.reg pageANG Off.ang_DRAINSTAT = BitVec.ofNat 32 (u.cal.loaded + min u.dueEvents.length 1023 * 2 ^ 16)) ∧
       (u.draining = false → t.cal = u.cal ∧ t.regs = u.regs)) ∧
    (∃ t, Gives .mapPublish s t ∧
      (let u := s.upTo (s.tick.bnd + 256)
       let b := u.tick.next
       let e := u.boundaryAfter b
       ∀ w < 8, u.imports w = false →
         (predict u w b e = none → (t.mapOf w).nxt = none ∧ (t.wheel w).mapValid = false ∧
           t.flag pageANG1 (Off.angMap_MAPSTAT w) 0 = false) ∧
         (∀ m, predict u w b e = some m → b ≤ e → ∃ x, (t.mapOf w).nxt = some x ∧ x.tStart = b ∧ x.tStop = e ∧
           (t.wheel w).mapValid = true ∧ t.flag pageANG1 (Off.angMap_MAPSTAT w) 0 = true))) ∧
    (∃ t, Gives .readyPoint s t ∧ t.now = (s.upTo (s.tick.bnd + 2 * (s.tick.per / 4 + 100))).now ∧
      (∀ c k, (s.clus.has c) = true → (s.task c k).waits 3 = true → (t.task c k).st = tREADY) ∧
      (s.resamples = true → t.reg pageRSMP Off.rsmp_RDYTICK = s.reg pageTB Off.tb_TICKNUM))

/-- R72 to R75, R78, R79, R81, R82, R202, R341: a compare entry fires, a pulse ends, an accepted edge is captured or lost, and a period
counter takes a step; a channel whose domain is not ON waits. -/
def Obligations.PinEvents : Prop :=
  (∀ (c : Fin 160) (s : State), s.pageOn (chPage c.val) = true →
    ((s.chan c.val).cq = [] → Gives (.compareFire c) s s) ∧
    (∀ k q, (s.chan c.val).cq = k :: q → k.kind ≤ 5 → Comes (max (s.clockOf k.tgt) (s.chan c.val).headTb) s →
      (let f := max s.now (max (s.clockOf k.tgt) (s.chan c.val).headTb)
       let ends : Bool := match (s.chan c.val).pulseEnd with | some e => decide (e ≤ f) | none => false
       let lvl := if ends then s.safeLvl c.val else (s.chan c.val).lvl
       let stat (t : State) (i : Nat) : Bool := t.flag (chPage c.val) (Off.pchg_CHSTAT (c.val % 16)) i
       let late (t : State) : Nat := t.fld (chPage c.val) (Off.pchg_CMPLATECNT (c.val % 16)) 0 8
       ∃ t, Gives (.compareFire c) s t ∧ t.now = f ∧ stat t 0 = true ∧
         (q = [] → stat t 1 = true) ∧ (q ≠ [] → stat t 1 = stat s 1) ∧
         (s.clockOf k.tgt < f → stat t 2 = true ∧ late t = min 255 (late s + 1)) ∧
         (f ≤ s.clockOf k.tgt → stat t 2 = stat s 2 ∧ late t = late s) ∧
         (k.kind ≤ 3 → ends = false → (s.chan c.val).pulseEnd.isSome = true → stat t 3 = true) ∧
         (ends = true ∨ (s.chan c.val).pulseEnd = none ∨ 3 < k.kind → stat t 3 = stat s 3) ∧
         (k.kind = 4 → ∀ n < 5, ∀ i < 4, s.active (pageADC n) = true → s.fld (pageADC n) (Off.adc_TRGCFG i) 0 4 = 1 →
           s.fld (pageADC n) (Off.adc_TRGCFG i) 16 8 = c.val → (i, f + s.fld (pageADC n) (Off.adc_TRGDLY i) 0 16) ∈ (t.adc n).due) ∧
         (k.kind = 5 → stat t 4 = true ∧ (s.flag (chPage c.val) (Off.pchg_CHINTEN (c.val % 16)) 4 = true →
           0x100 + c.val ∈ t.iu.flight)) ∧
         (∀ c', c' ≠ c.val → t.chan c' = s.chan c') ∧
         t.chan c.val = if k.kind ≤ 3
           then { s.chan c.val with
             cq := q, headTb := f + 1, follow := s.mayFollow c.val
             lvl := if k.kind = 0 then true else if k.kind = 1 then false else if k.kind = 2 then !lvl else !s.safeLvl c.val
             pulseEnd := if k.kind = 3 then some (f + k.dur) else none }
           else { s.chan c.val with
             cq := q, headTb := f + 1, lvl := lvl, pulseEnd := if ends then none else (s.chan c.val).pulseEnd })) ∧
    ((s.chan c.val).pulseEnd = none → Gives (.pulseEnd c) s s) ∧
    (∀ e, (s.chan c.val).pulseEnd = some e →
      (let u := s.upTo e
       Gives (.pulseEnd c) s (u.setChan c.val { u.chan c.val with lvl := u.safeLvl c.val, pulseEnd := none }))) ∧
    (∀ (tb : Time) (pol : Bool),
      (s.chcfg c.val 0 2 < 2 → Gives (.capture c tb pol) s s) ∧
      (2 ≤ s.chcfg c.val 0 2 →
        (let e := s.clockOf tb.toNat
         let u := s.upTo (e + 8 * s.chcfg c.val 6 4)
         let x := { u.chan c.val with inLvl := pol }
         let sel := s.chcfg c.val 4 2 / (if pol then 1 else 2) % 2 = 1
         ∃ t, Gives (.capture c tb pol) s t ∧ (∀ c', c' ≠ c.val → t.chan c' = u.chan c') ∧
           (¬ sel → t.chan c.val = x) ∧
           (sel → x.capq.length < 4 →
             t.chan c.val = { x with
               capq := x.capq ++ [{ tb := e, pol := pol, ang := u.angleAt (s.chcfg c.val 10 3) e }] } ∧
             t.flag (chPage c.val) (Off.pchg_CHSTAT (c.val % 16)) 5 = true) ∧
           (sel → 4 ≤ x.capq.length → t.chan c.val = x ∧ t.flag (chPage c.val) (Off.pchg_CHSTAT (c.val % 16)) 6 = true)))) ∧
    (s.counting c.val = false → Gives (.periodCounterStep c) s s) ∧
    (s.counting c.val = true → Comes (s.chan c.val).stepTb s →
      (let x := s.chan c.val
       let down : Bool := if x.down then x.cnt != 0 else decide (x.top ≤ x.cnt)
       ∃ t, Gives (.periodCounterStep c) s t ∧ t.now = max s.now x.stepTb ∧ (t.chan c.val).down = down ∧
         (t.chan c.val).cnt = (if down then x.cnt - 1 else x.cnt + 1) ∧
         (t.chan c.val).stepTb = t.now + 2 ^ s.cntcfg c.val 1 4 ∧ (∀ c', c' ≠ c.val → t.chan c' = s.chan c') ∧
         (down = false → x.cnt + 1 = x.top → t.flag (chPage c.val) (Off.pchg_CHSTAT (c.val % 16)) 7 = true) ∧
         (down = true → x.cnt = 1 → t.flag (chPage c.val) (Off.pchg_CHSTAT (c.val % 16)) 8 = true ∧
           (t.chan c.val).top = (s.reg (chPage c.val) (Off.pchg_CNTTOP (c.val % 16))).toNat)))) ∧
  (∀ (c : Fin 160) (tb : Time) (pol : Bool) (s : State), s.pageOn (chPage c.val) = false →
    Gives (.compareFire c) s s ∧ Gives (.pulseEnd c) s s ∧ Gives (.capture c tb pol) s s)

namespace Sys2Proof.Claims

/-- The direction that the width of a primary pulse shows (R100): 0 forward, 1 reverse, 2 none. -/
def widthDir (u w : Nat) (s : State) : Nat :=
  if s.fld (pageWU u) Off.wu_DIRWIN 0 8 * 800 ≤ w ∧ w ≤ s.fld (pageWU u) Off.wu_DIRWIN 8 8 * 800 then 0
  else if s.fld (pageWU u) Off.wu_DIRWIN 16 8 * 800 ≤ w ∧ w ≤ s.fld (pageWU u) Off.wu_DIRWIN 24 8 * 800 then 1 else 2

/-- A primary edge of unit `u` at `tb` is taken as a forward tooth at once: no glitch, no tooth that waits for its width, and no width
to measure (R88, R100). -/
structure Forward (u : Nat) (tb : Nat) (s : State) : Prop where
  glitch : (s.wheel u).hist = [] ∨ (s.wheel u).lastTb + 8 * s.fld (pageWU u) Off.wu_FILTCFG 16 16 ≤ tb
  waits : (s.wheel u).open_ = none
  width : s.widthChecked u (tb - (s.wheel u).lastTb) = false

/-- The ratio of the last two periods in 1/4096 when an edge comes at `tb` (R90). -/
def ratioAt (u tb : Nat) (s : State) : Nat := (tb - (s.wheel u).lastTb) * 4096 / (s.wheel u).per

/-- The unit has seen a period, and counts forwards (R90, R101). -/
structure Turning (u : Nat) (s : State) : Prop where
  seen : (s.wheel u).seen = true
  per : (s.wheel u).per ≠ 0
  rev : (s.wheel u).rev = false

/-- Unit `u` has taken an edge stamped `e`: a VR front end shows the tooth's peak, and the fixed delay and the filter of a digital one
have passed, which the stamp does not show (R87, R397). -/
def fronted (u e : Nat) (amp : BitVec 16) (s : State) : State :=
  (if s.hall u then s else s.setReg (pageWU u) Off.wu_AMPL (BitVec.ofNat 32 amp.toNat)).upTo
    (e + if s.hall u then 16 + s.filtTb u else 120)

/-- An edge of polarity `pol` comes in at `src` and reaches one secondary input, that of unit `u`, which has a cam table (R85, R92). -/
structure CamReaches (src : SecInput) (u : Nat) (secB pol : Bool) (s : State) : Prop where
  delivers : s.delivers src pol = true
  takers : s.camTakers src = [(u, secB)]
  table : s.camTable u secB ≠ []

/-- The state in which unit `u` takes an edge of a secondary input stamped `tb`: the peak shown, the filter passed (R87). -/
def camState (src : SecInput) (u tb : Nat) (s : State) : State := (showPeak src s).upTo ((showPeak src s).camClock src u tb)

end Sys2Proof.Claims

/-- R85, R87, R88, R90, R91, R94, R100, R101, R397: an edge at a WHL pin reaches the unit that names it, if its front end is armed; it
is a glitch or a tooth; a tooth moves the count, and a gap, a mismatch or a stall moves the state. Where the chapters leave a reading open,
it follows the model's: log entries 31, 32 and 92. -/
def Obligations.PrimaryEdges : Prop :=
  (∀ (p : Fin 8) (tb : Time) (amp : BitVec 16) (s : State),
    (s.crankTakers p.val = [] → Gives (.primaryEdge p tb amp) s s ∧ Gives (.primaryInactiveEdge p tb) s s) ∧
    (∀ u : Fin 8, s.crankTakers p.val = [u.val] →
      (s.decodes u.val = false → Gives (.primaryEdge p tb amp) s s ∧ Gives (.primaryInactiveEdge p tb) s s) ∧
      (s.decodes u.val = true → s.hall u.val = false → s.arms u.val amp.toNat = false →
        Gives (.primaryEdge p tb amp) s (s.setReg (pageWU u.val) Off.wu_AMPL (BitVec.ofNat 32 amp.toNat))) ∧
      (s.hall u.val = false ∨ (s.wheel u.val).open_ = none → Gives (.primaryInactiveEdge p tb) s s) ∧
      (s.decodes u.val = true → s.hall u.val = true ∨ s.arms u.val amp.toNat = true →
        (let w := s.wheel u.val
         let e := s.clockOf tb.toNat
         let a := fronted u.val e amp s
         (w.hist ≠ [] ∨ w.open_.isSome = true → e < w.lastEdge + 8 * s.fld (pageWU u.val) Off.wu_FILTCFG 16 16 →
           Gives (.primaryEdge p tb amp) s (a.addSat (pageWU u.val) Off.wu_ERRCNT 8 8 1)) ∧
         (w.open_ = none → w.lastTb + 8 * s.fld (pageWU u.val) Off.wu_FILTCFG 16 16 ≤ e → s.widthChecked u.val (e - w.lastTb) = true →
           Gives (.primaryEdge p tb amp) s (a.setWheel u.val { a.wheel u.val with open_ := some e })) ∧
         (Forward u.val e s → ∃ t, Gives (.primaryEdge p tb amp) s t ∧ t.now = a.now ∧ OtherWheels u.val s t ∧
           (t.wheel u.val).lastTb = e ∧ (t.wheel u.val).rev = false ∧ (t.wheel u.val).open_ = none ∧
           t.reg64 (pageWU u.val) Off.wu_LASTTB_LO Off.wu_LASTTB_HI = tb.toNat ∧
           t.reg (pageWU u.val) Off.wu_AMPL = (if s.hall u.val then s.reg (pageWU u.val) Off.wu_AMPL else BitVec.ofNat 32 amp.toNat) ∧
           (Turning u.val s → w.state = wSEARCH → w.counting = false → 1 ≤ w.nper →
             s.inWindow u.val .gap (ratioAt u.val e s) = true →
             (t.wheel u.val).state = wGAP ∧ (t.wheel u.val).counting = true ∧ (t.wheel u.val).tooth = 0) ∧
           (Turning u.val s → w.state = wGAP → w.counting = true →
             (let k := (nextTooth (s.teeth u.val - s.missing u.val) w.tooth w.rv false).1
              s.inWindow u.val .gap (ratioAt u.val e s) = false →
              s.classify u.val (expectedWindow (s.teeth u.val - s.missing u.val) k false) (ratioAt u.val e s) ≠ .valid →
              (t.wheel u.val).state = wSEARCH)) ∧
           (Turning u.val s → w.state = wLOST → w.counting = false →
             s.inWindow u.val .gap (ratioAt u.val e s) = false → s.inWindow u.val .after (ratioAt u.val e s) = false →
             s.inWindow u.val .normal (ratioAt u.val e s) = false →
             (t.wheel u.val).state = wLOST ∧ t.flag (pageWU u.val) 0x018 18 = true ∧
             t.fld (pageWU u.val) Off.wu_ERRCNT 0 8 = min 255 (s.fld (pageWU u.val) Off.wu_ERRCNT 0 8 + 1)) ∧
           (Turning u.val s → w.state = wFULL →
             (let k := (nextTooth (s.teeth u.val - s.missing u.val) w.tooth w.rv false).1
              let cls := s.classify u.val (expectedWindow (s.teeth u.val - s.missing u.val) k false) (ratioAt u.val e s)
              (cls = .valid → (t.wheel u.val).state = wFULL ∧ (t.wheel u.val).tooth = k ∧ (t.wheel u.val).inv = 0) ∧
              (cls = .mismatched → s.flag (pageWU u.val) Off.wu_SYNCCFG 9 = false → (t.wheel u.val).state = wLOST) ∧
              (cls = .invalid → w.inv + 1 < s.fld (pageWU u.val) Off.wu_SYNCCFG 4 4 →
                (t.wheel u.val).state = wFULL ∧ (t.wheel u.val).inv = w.inv + 1)))))) ∧
      (∀ t0 : Nat, s.decodes u.val = true → s.hall u.val = true → (s.wheel u.val).open_ = some t0 →
        (let wide := widthDir u.val (s.clockOf tb.toNat - t0) s
         ∃ t, Gives (.primaryInactiveEdge p tb) s t ∧ OtherWheels u.val s t ∧ (t.wheel u.val).open_ = none ∧
           (t.wheel u.val).lastTb = t0 ∧
           (t.wheel u.val).rev = (if wide = 0 then false else if wide = 1 then true else (s.wheel u.val).rev))))) ∧
  (∀ (u : Fin 8) (s : State),
    (s.decodes u.val = false → Gives (.stall u) s s) ∧
    (s.decodes u.val = true → ∃ t, Gives (.stall u) s t ∧ OtherWheels u.val s t ∧ t.flag (pageWU u.val) 0x018 19 = true ∧
      t.now = (s.upTo ((s.wheel u.val).lastEdge + 8000 * s.fld (pageWU u.val) Off.wu_STALLCFG 0 20)).now ∧
      ((s.wheel u.val).state = wFULL → (t.wheel u.val).state =
        if s.flag (pageWU u.val) Off.wu_SYNCCFG 9 && s.camHeld u.val then wCAM else wLOST) ∧
      ((s.wheel u.val).state = wCRANK ∨ (s.wheel u.val).state = wGAP ∨ (s.wheel u.val).state = wREVERSE →
        (t.wheel u.val).state = wSEARCH) ∧
      ((s.wheel u.val).state = wCAM ∨ (s.wheel u.val).state = wLOST ∨ (s.wheel u.val).state = wSEARCH →
        (t.wheel u.val).state = (s.wheel u.val).state)))

/-- R85, R87, R92, R94, R98, R99, R370: a cam edge is matched, opposed or counted; a missing cam is shown, and in CAM_ONLY loses the
wheel; a decoder mismatch puts the unit into FAULT. Where the chapters leave a reading open, it follows the model's: log entries 33
and 92. -/
def Obligations.CamEvents : Prop :=
  (∀ (src : SecInput) (tb : Time) (pol : Bool) (s : State),
    (s.sees src pol = false → Gives (.camEdge src tb pol) s s) ∧
    (s.sees src pol = true → s.delivers src pol = false ∨ s.camTakers src = [] → Gives (.camEdge src tb pol) s (showPeak src s))) ∧
  (∀ (u : Fin 8) (s : State), s.active (pageWU u.val) = true →
    (∀ (src : SecInput) (secB : Bool) (tb : Time) (pol : Bool), CamReaches src u.val secB pol s →
      (let e := s.clockOf tb.toNat
       let a := camState src u.val e s
       let w := s.wheel u.val
       let pos := a.camMeasured u.val e
       let hits (x m : Int) := (a.camTable u.val secB).filter (fun e => e.2 == pol && decide (modDist x e.1 m ≤ a.camTol u.val secB))
       let at_ (x : Int) : CamEdgeRec := { tb := e, secB := secB, pol := pol, pos := x }
       let bad := if a.camSel u.val secB then some pos else w.camBad
       let most := s.fld (pageWU u.val) Off.wu_SYNCCFG 12 4
       let next := (camExpected (a.camSeq u.val) w.cams).find? (fun x => x.2.1 == secB && x.2.2 == pol)
       (w.state = wFULL →
         (hits pos (2 ^ 24) ≠ [] → ∃ (t : State) (x : Int), Gives (.camEdge src tb pol) s t ∧ OtherWheels u.val s t ∧
           (∃ h ∈ hits pos (2 ^ 24), (x - h.1) % 2 ^ 24 = 0 ∧ (x - pos).natAbs ≤ a.camTol u.val secB) ∧
           t.wheel u.val = { w with opp := 0, camLost := false, cams := (at_ x :: w.cams).take 128 } ∧
           t.reg (pageWU u.val) (if secB then Off.wu_CAMBANG else Off.wu_CAMAANG) = angWord pos) ∧
         (hits pos (2 ^ 24) = [] → hits pos (s.revAc u.val) = [] → Gives (.camEdge src tb pol) s
           (((a.setWheel u.val { w with camBad := bad }).addSat (pageWU u.val) Off.wu_ERRCNT 16 8 1).intSet (pageWU u.val) 20)) ∧
         (hits pos (2 ^ 24) = [] → hits pos (s.revAc u.val) ≠ [] →
           (most = 0 ∨ w.opp + 1 < most →
             Gives (.camEdge src tb pol) s (a.setWheel u.val { w with opp := w.opp + 1, camBad := bad })) ∧
           (most ≠ 0 → most ≤ w.opp + 1 → ∃ t, Gives (.camEdge src tb pol) s t ∧ (t.wheel u.val).state = wLOST))) ∧
       (w.state = wGAP ∨ w.state = wLOST ∨ w.state = wREVERSE → Gives (.camEdge src tb pol) s a) ∧
       (a.camSel u.val secB = false → w.state ≠ wFULL → Gives (.camEdge src tb pol) s a) ∧
       (w.state = wSEARCH → s.md ≠ mLIMP → a.camSel u.val secB = true → Gives (.camEdge src tb pol) s
         (a.setWheel u.val { w with seq := (at_ 0 :: w.seq).take 3 })) ∧
       (w.state = wCRANK → a.camSel u.val secB = true →
         (hits (pos - w.base + a.tdcofs u.val) (s.revAc u.val) = [] →
           Gives (.camEdge src tb pol) s (a.setWheel u.val { w with conf := 0, cams := (at_ pos :: w.cams).take 128 })) ∧
         (∀ e, hits (pos - w.base + a.tdcofs u.val) (s.revAc u.val) = [e] → s.fld (pageWU u.val) Off.wu_SYNCCFG 2 2 ≤ 1 →
           ∃ t, Gives (.camEdge src tb pol) s t ∧ (t.wheel u.val).state = wFULL ∧ OtherWheels u.val s t)) ∧
       (w.state = wCAM → a.camSel u.val secB = true → w.cams ≠ [] → a.camSeq u.val ≠ [] →
         (∀ x, next = some x → (a.camPos u.val e - x.1).natAbs ≤ a.camTol u.val secB →
           ∃ t, Gives (.camEdge src tb pol) s t ∧ OtherWheels u.val s t ∧
             t.wheel u.val = { w with cyc := (x.1 / 2 ^ 24 % 256).toNat, cams := (at_ x.1 :: w.cams).take 128 }) ∧
         ((∀ x, next = some x → a.camTol u.val secB < (a.camPos u.val e - x.1).natAbs) →
           ∃ t, Gives (.camEdge src tb pol) s t ∧ (t.wheel u.val).state = wLOST ∧ OtherWheels u.val s t)))) ∧
    Gives (.camlost u) s (s.setWheel u.val { s.wheel u.val with camLost := true }) ∧
    ((s.wheel u.val).state ≠ wCAM → Gives (.camTimeout u) s s) ∧
    (∀ c1 c0 q, (s.wheel u.val).state = wCAM → camSteps (s.wheel u.val).cams = c1 :: c0 :: q → Comes (c1.tb + 2 * (c1.tb - c0.tb)) s →
      ∃ t, Gives (.camTimeout u) s t ∧ (t.wheel u.val).state = wLOST ∧ (t.wheel u.val).prev = wCAM ∧ OtherWheels u.val s t ∧
        t.now = max s.now (c1.tb + 2 * (c1.tb - c0.tb)) ∧ t.flag (pageWU u.val) 0x018 17 = true ∧
        t.flag (pageWU u.val) 0x018 16 = true) ∧
    (∃ t, Gives (.wheelDecoderMismatch u) s t ∧ t.st (pageWU u.val) = stFAULT ∧ t.wheels = s.wheels ∧
      t.lost.any (fun e => e.1 == pageWU u.val) = true))

/-- R105 to R108: a synthesised edge sets the lines in the clock in which the integrated speed reaches its angle, a segment of the
profile follows the one before, and Clover counts the quadrature changes and latches at the index. Where the chapter leaves a reading
open, it follows the model's: log entry 37. -/
def Obligations.SynthesisAndClover : Prop :=
  ∀ (u : Fin 8) (s : State),
    let p := pageWU u.val
    let w := s.wheel u.val
    (s.st p ≠ stSYNTH → Gives (.synEdge u) s s ∧ Gives (.synSegmentEnd u) s s) ∧
    (s.st p = stSYNTH →
      (nextKey (synEdges s u.val) w.synKey = none → Gives (.synEdge u) s s) ∧
      (∀ key lvl, nextKey (synEdges s u.val) w.synKey = some (key, lvl) →
        (s.synReach u.val (w.countOn key / 4) = none → Gives (.synEdge u) s s) ∧
        (∀ e, s.synReach u.val (w.countOn key / 4) = some e →
          (let v := s.upTo (w.synTb + e)
           let l := if key % 4 = 0 then s.flag p Off.wu_WCFG 2 else if key % 4 = 1 then !s.flag p Off.wu_WCFG 2 else lvl
           let t := v.setWheel u.val { w with
             synKey := some key
             synCount := w.countOn key
             synCrk := if key % 4 < 2 then l else w.synCrk
             synA := if key % 4 = 2 then l else w.synA
             synB := if key % 4 = 3 then l else w.synB }
           (s.flag p Off.wu_SYNCFG 26 = false ∨ l = w.synLine key → Gives (.synEdge u) s t) ∧
           (s.flag p Off.wu_SYNCFG 26 = true → l ≠ w.synLine key →
             Gives (.synEdge u) s (synLoop (s.fld p Off.wu_SYNCFG 27 3) key l t))))) ∧
      (w.synDone = true → Gives (.synSegmentEnd u) s s) ∧
      (w.synDone = false → ∃ t, Gives (.synSegmentEnd u) s t ∧ OtherWheels u.val s t ∧
        (let d := s.segTime u.val w.synSeg * 800000
         let f := max s.now (w.synTb + d)
         let v := s.segSpeed u.val w.synSeg
         let n := s.fld (pageWUS u.val) Off.wus_PROF 0 6
         let x := { w with synArea := w.synArea + (w.synRpm + v) * d, synTb := f, synRpm := v }
         Comes (w.synTb + d) s → t.now = f ∧
           (w.synSeg + 1 < n → t.wheel u.val = { x with synSeg := w.synSeg + 1 } ∧ t.fld p Off.wu_SYNSTAT 2 5 = (w.synSeg + 1) % 32) ∧
           (n ≤ w.synSeg + 1 → s.flag (pageWUS u.val) Off.wus_PROF 8 = true →
             t.wheel u.val = { x with synSeg := 0 } ∧ t.fld p Off.wu_SYNSTAT 2 5 = 0) ∧
           (n ≤ w.synSeg + 1 → s.flag (pageWUS u.val) Off.wus_PROF 8 = false →
             t.wheel u.val = { x with synDone := true } ∧ t.flag p Off.wu_SYNSTAT 1 = true ∧ t.flag p 0x018 25 = true)))) ∧
    (s.clover u.val = false → (∀ a b, Gives (.quadratureChange u a b) s s) ∧ Gives (.quadratureIndex u) s s) ∧
    (s.clover u.val = true →
      (∀ a b : Bool,
        (let d := (quadPlace a b + 4 - quadPlace w.qa w.qb) % 4
         let m := s.qmod u.val
         (d = 0 → Gives (.quadratureChange u a b) s s) ∧
         (d = 1 → Gives (.quadratureChange u a b) s (s.setWheel u.val { w with
           qa := a, qb := b, qpos := quadStep m w.qpos 1, qdir := false, qknown := true })) ∧
         (d = 3 → Gives (.quadratureChange u a b) s (s.setWheel u.val { w with
           qa := a, qb := b, qpos := quadStep m w.qpos (-1), qdir := true, qknown := true })) ∧
         (d = 2 → ∃ t, Gives (.quadratureChange u a b) s t ∧ OtherWheels u.val s t ∧ t.flag p 0x018 22 = true ∧
           t.fld p Off.wu_ERRCNT 24 8 = min (s.fld p Off.wu_ERRCNT 24 8 + 1) 255 ∧
           (let q : Nat := if s.flag p Off.wu_QCFG 1 && w.qknown then quadStep m w.qpos (if w.qdir then -2 else 2) else w.qpos
            t.wheel u.val = { w with qa := a, qb := b, qpos := q })))) ∧
      (s.flag p Off.wu_QCFG 2 = false → Gives (.quadratureIndex u) s s) ∧
      (s.flag p Off.wu_QCFG 2 = true → ∃ t, Gives (.quadratureIndex u) s t ∧ OtherWheels u.val s t ∧
        t.reg p Off.wu_QIDXPOS = BitVec.ofNat 32 w.qpos ∧ t.flag p Off.wu_QSTAT 4 = true ∧ t.flag p 0x018 23 = true ∧
        t.wheel u.val = if s.flag p Off.wu_QCFG 7 then { w with qpos := 0 } else w))

namespace Sys2Proof.Claims

/-- The clock of a trigger point of input `i`: the earliest that a source has set, else the present clock (R202). -/
def trigPoint (n i : Nat) (s : State) : Nat :=
  match (s.adc n).due.filter (fun d => d.1 == i) with
  | [] => s.now
  | d :: r => r.foldl (fun m e => min m e.2) d.2

/-- Every converter core but `n` stands. -/
def OtherCores (n : Nat) (s t : State) : Prop := ∀ m, m ≠ n → t.adc m = s.adc m

/-- Every PWM module but `m` stands. -/
def OtherModules (m : Nat) (s t : State) : Prop := ∀ k, k ≠ m → t.pwm k = s.pwm k

end Sys2Proof.Claims

/-- R197, R199 to R202, R207, R213: a trigger starts the entry that waits for it, is latched, becomes an urgent request, or is counted
as lost; an entry's passes begin; a hold takes a sample that comes out of the pipeline at its store clock and goes to the lanes that
take its input. Where the chapter leaves a reading open, it follows the model's: log entries 52 and 53. -/
def Obligations.ConverterEvents : Prop :=
  ∀ (n : Fin 5) (s : State),
    let p := pageADC n.val
    let x := s.adc n.val
    (∀ i : Fin 4,
      let t0 := trigPoint n.val i.val s
      let u := (s.upTo t0).setAdc n.val { x with due := x.due.erase (i.val, t0) }
      let ch := s.fld p (Off.adc_TRGCFG i.val) 8 4
      let waits := x.kind = 1 ∧ x.phase = 0 ∧ x.trig = i.val + 1
      (s.converts n.val = false ∨ s.fld p (Off.adc_TRGCFG i.val) 0 2 = 0 → Gives (.trigger n i) s u) ∧
      (s.converts n.val = true → s.fld p (Off.adc_TRGCFG i.val) 0 2 ≠ 0 →
        (s.flag p (Off.adc_TRGCFG i.val) 5 = true → s.flag p Off.adc_ENMASK ch = true → x.urg.length < 4 →
          ∃ t, Gives (.trigger n i) s t ∧ t = { u with adcs := t.adcs } ∧
            t.adc n.val = { u.adc n.val with urg := queueUp { ch := ch, tb := t0, cmd := false } x.urg } ∧ OtherCores n.val s t) ∧
        (s.flag p (Off.adc_TRGCFG i.val) 5 = true → s.flag p Off.adc_ENMASK ch = false ∨ 4 ≤ x.urg.length →
          Gives (.trigger n i) s ((u.addSat p Off.adc_URGLOST 0 16 1).intSet p 20)) ∧
        (s.flag p (Off.adc_TRGCFG i.val) 5 = false → waits → Gives (.trigger n i) s (u.setAdc n.val { u.adc n.val with
          phase := 1, start := max x.beg (s.edgeFrom n.val t0 + x.delay) })) ∧
        (s.flag p (Off.adc_TRGCFG i.val) 5 = false → ¬ waits →
          (s.flag p (Off.adc_TRGCFG i.val) 4 = true ∨ x.latch.has i.val = true →
            Gives (.trigger n i) s ((u.addSat p Off.adc_TRGOVR (8 * i.val) 8 1).intSet p 19)) ∧
          (s.flag p (Off.adc_TRGCFG i.val) 4 = false → x.latch.has i.val = false → Gives (.trigger n i) s
            (u.setAdc n.val { u.adc n.val with latch := x.latch.set 0 i.val (t0 + 1) }))))) ∧
    (s.converts n.val = false ∨ x.phase ≠ 1 → Gives (.seqEntryStart n) s s) ∧
    (s.converts n.val = true → x.phase = 1 →
      (s.seqMask n.val x.entry ≠ [] → Gives (.seqEntryStart n) s ((s.upTo x.start).setAdc n.val { x with
        phase := 2, passes := 0, last := none })) ∧
      (s.seqMask n.val x.entry = [] → ∃ t, Gives (.seqEntryStart n) s t ∧ (t.adc n.val).entry =
        (if s.fld p Off.adc_SEQCTL 0 7 ≤ x.entry + 1 then 0 else x.entry + 1))) ∧
    (∀ (ch : Fin 16) (raw : Int),
      (s.nextHold n.val = none → Gives (.sampleHold n ch raw) s s) ∧
      (∀ urgent c h, s.nextHold n.val = some (urgent, c, h) →
        (c ≠ ch.val → Gives (.sampleHold n ch raw) s s) ∧
        (c = ch.val → ∃ t r, Gives (.sampleHold n ch raw) s t ∧ r ∈ (t.adc n.val).pipe ∧ r.samp.tb = h ∧ r.samp.urgent = urgent ∧
          r.due = h + 12 * s.cclk n.val ∧ r.samp.ain = 16 * s.group n.val + ch.val ∧ r.samp.rng =
            (if urgent then (s.ain n.val ch.val).rng.getD 3 else s.seqA n.val x.entry 24 2) ∧
          r.samp.value = s.sampleCode n.val r.samp.rng raw ∧ (t.adc n.val).hold = some h ∧
          t.reg p Off.adc_SEQN = s.reg p Off.adc_SEQN + 1))) ∧
    (x.pipe = [] ∨ s.pageOn p = false → Gives (.sampleStore n) s s) ∧
    (∀ h q, s.pageOn p = true → x.pipe = h :: q → Comes h.due s → s.md ≠ mDORMANT → ∃ t, Gives (.sampleStore n) s t ∧
      (t.adc n.val).pipe = q ∧ t.now = max s.now h.due ∧
      ∀ l < 16, s.laneTakes l = true → s.lcfg l 8 6 = h.samp.ain → ¬ (h.samp.urgent = true ∧ s.lcfg l 2 1 = 1) →
        (t.lane l).samps = (s.lane l).samps ++
          [⟨h.samp.tb, h.samp.value, h.samp.rng, h.samp.settle, h.samp.diag, t.now⟩])

/-- R208, R209, R216, R217, R370: a calibration ends with its factors in force, or in FAULT; the reference gets ready, or fails;
the test DAC settles, and a comparison ends. Where the chapter leaves a reading open, it follows the model's: log entry 5. -/
def Obligations.CalibrationAndReference : Prop :=
  (∀ (n : Fin 5) (s : State),
    let p := pageADC n.val
    (∀ (r : CalResult) (q : Running), s.running.find? (fun q => q.req.page.toNat == p && q.code == 0x40) = some q →
      s.pageOn p = true →
      (calOk r = true → ∃ t, Gives (.calibrateComplete n r) s t ∧ (t.page p).st = q.data.getD 0 stIDLE ∧
        t.flag p Off.adc_CORESTAT 9 = true ∧ t.flag p 0x018 16 = true ∧
        (∀ i < 4, ∀ w, r.ofs[i]? = some w → t.fld p (Off.adc_CALOFS i) 0 16 = w.toNat % 2 ^ 16) ∧
        (∀ i < 4, ∀ w, r.gain[i]? = some w → t.fld p (Off.adc_CALGAIN i) 0 18 = w.toNat % 2 ^ 18) ∧
        (∀ i < 10, ∀ w, r.stg[i]? = some w → t.fld p (Off.adc_CALSTG i) 0 12 = w.toNat % 2 ^ 12) ∧
        ∀ e ∈ t.shadow, e.1 < adr p 0x820 ∨ adr p 0x868 ≤ e.1) ∧
      (calOk r = false → ∃ t, Gives (.calibrateComplete n r) s t ∧ (t.page p).st = stFAULT ∧ t.flag p 0x018 17 = true ∧
        (∀ o, 0x820 ≤ o → o < 0x868 → t.reg p o = s.reg p o) ∧ t.shadow = s.shadow)) ∧
    (∀ r, s.running.find? (fun q => q.req.page.toNat == p && q.code == 0x40) = none → Gives (.calibrateComplete n r) s s) ∧
    ((s.adc n.val).refDue = none → Gives (.referenceReady n) s s) ∧
    (s.active p = false → Gives (.referenceFault n) s s) ∧
    (∀ due, (s.adc n.val).refDue = some due → Gives (.referenceReady n) s
      ((((s.upTo due).setAdc n.val { s.adc n.val with refDue := none }).setFld p Off.adc_CORESTAT 8 1 1).intSet p 18)) ∧
    (s.active p = true → ∃ t, Gives (.referenceFault n) s t ∧ (t.page p).st = stFAULT ∧ t.flag p Off.adc_CORESTAT 8 = false ∧
      t.lost.any (fun e => e.1 == p) = true)) ∧
  (∀ s : State,
    (s.td.settleDue = none → Gives .tdacSettled s s) ∧
    (s.running.find? (fun r => r.req.page.toNat == pageTDAC && r.code == 0x40) = none →
      Gives .tdCompareDone s s ∧ Gives .tdCompareTimeout s s) ∧
    (∀ due, s.td.settleDue = some due → Gives .tdacSettled s
      { (s.upTo due).setFld pageTDAC Off.tdac_TDSTAT 0 1 1 with td := { s.td with settleDue := none } }) ∧
    (∀ r, s.running.find? (fun r => r.req.page.toNat == pageTDAC && r.code == 0x40) = some r →
      (let m := 2 ^ s.fld pageTDAC Off.tdac_TDCMP 0 4
       let mean := s.td.sum.tdiv m
       let want := if s.flag pageTDAC Off.tdac_TDCMP 8 then signed 16 (s.fld pageTDAC Off.tdac_TDEXP 0 16)
         else dacCode s.td.rng (s.fld pageTDAC Off.tdac_TDCFG 0 10)
       (m ≤ s.td.n → ∃ t, Gives .tdCompareDone s t ∧ t.running = s.running.erase r ∧
         t.reg pageTDAC Off.tdac_TDDEV = BitVec.ofInt 32 (mean - want) ∧
         (let fits := (mean - want).natAbs ≤ s.fld pageTDAC Off.tdac_TDCMP 16 16
          t.fld pageTDAC Off.tdac_TDSTAT 2 2 = (if fits then 1 else 2) ∧
          t.flag pageTDAC 0x018 16 = (s.flag pageTDAC 0x018 16 || !decide fits)) ∧
         t.flag pageTDAC 0x018 1 = true) ∧
       (s.td.n < m → Comes (s.td.beg + 80000000) s → ∃ t, Gives .tdCompareTimeout s t ∧ t.running = s.running.erase r ∧
         t.now = max s.now (s.td.beg + 80000000) ∧ t.flag pageTDAC 0x018 1 = true))))

/-- R181, R182, R240 to R243, R245 to R249, R253: the counter of a PWM module, its references and outputs, the sync chain, trips, and
the loss of a module or of a checker. Where the chapter leaves a reading open, it follows the model's: log entry 56. -/
def Obligations.PwmEvents : Prop :=
  (∀ (m : Fin 10) (s : State), s.active (pagePWM m.val) = false →
    Gives (.periodBoundary m) s s ∧ Gives (.midPeriodPoint m) s s ∧ (∀ c, Gives (.referenceFall m c) s s) ∧
      (∀ i, Gives (.deadTimeExpiry m i) s s) ∧ Gives (.syncLoad m) s s ∧ Gives (.pwmCopyMismatch m) s s) ∧
  (∀ (m : Fin 10) (s : State), s.active (pagePWM m.val) = true →
    let p := pagePWM m.val
    let x := s.pwm m.val
    let due := (s.syncEvent m.val).any (fun t0 => decide (x.clockAfter t0 ≤ x.wrapAt))
    (due = false → ∃ t, Gives (.periodBoundary m) s t ∧ OtherModules m.val s t ∧ (t.pwm m.val).cnt = 0 ∧ (t.pwm m.val).t = x.wrapAt ∧
      (t.pwm m.val).mid = false ∧ (t.pwm m.val).per = (s.reg p Off.pwm_PER).toNat ∧
      (t.pwm m.val).cmp = (List.range 8).map (fun c => (s.reg p (Off.pwm_CMP c)).toNat) ∧
      (t.pwm m.val).dt = (List.range 4).map (fun i => s.fld p (Off.pwm_DT i) 0 16) ∧
      t.reg p Off.pwm_PERCNT = s.reg p Off.pwm_PERCNT + 1) ∧
    (due = true → ∀ t, Gives (.syncLoad m) s t → Gives (.periodBoundary m) s t) ∧
    (x.mid = false → x.cnt ≤ x.half → x.endAt = none → ∃ t, Gives (.midPeriodPoint m) s t ∧ OtherModules m.val s t ∧
      (t.pwm m.val).cnt = x.half ∧ (t.pwm m.val).t = x.t + 2 * (x.half - x.cnt) ∧ (t.pwm m.val).mid = true ∧
      (t.pwm m.val).cmp = x.cmp.zipIdx.map (fun c => if s.flag p (Off.pwm_CHCFG c.2) 0 then (s.reg p (Off.pwm_CMP c.2)).toNat else c.1)) ∧
    (x.mid = true ∨ x.half < x.cnt ∨ x.endAt.isSome = true → Gives (.midPeriodPoint m) s s) ∧
    (∀ c : Fin 8,
      (x.cmp.getD c.val 0 < x.half ∨ x.mid = true ∨ x.half < x.cnt ∨ x.endAt.isSome = true →
        (x.ref.getD c.val false = true → x.cmp.getD c.val 0 ≤ x.per → ∃ t, Gives (.referenceFall m c) s t ∧
          OtherModules m.val s t ∧ (t.pwm m.val).ref = x.ref.set c.val false ∧ (t.pwm m.val).cnt = x.cnt) ∧
        (x.ref.getD c.val false = false ∨ x.per < x.cmp.getD c.val 0 → Gives (.referenceFall m c) s s)) ∧
      (x.half ≤ x.cmp.getD c.val 0 → ∃ v, Gives (.midPeriodPoint m) s v ∧
        ∀ t, Gives (.referenceFall m c) v t → Gives (.referenceFall m c) s t)) ∧
    (∀ i : Fin 4, i.val < x.pairs.length →
      ((x.pairs.getD i.val {}).h = true ∨ (x.pairs.getD i.val {}).l = true → Gives (.deadTimeExpiry m i) s s) ∧
      ((x.pairs.getD i.val {}).h = false → (x.pairs.getD i.val {}).l = false →
        ∃ t, Gives (.deadTimeExpiry m i) s t ∧ OtherModules m.val s t ∧ (t.pwm m.val).ref = x.ref ∧
          ((t.pwm m.val).pairs.getD i.val {}).h = x.ref.getD (2 * i.val) false ∧
          ((t.pwm m.val).pairs.getD i.val {}).l = !x.ref.getD (2 * i.val) false)) ∧
    (s.syncEvent m.val = none → Gives (.syncLoad m) s s) ∧
    (∀ t0, s.syncEvent m.val = some t0 → ∃ t, Gives (.syncLoad m) s t ∧ OtherModules m.val s t ∧
      (t.pwm m.val).cnt = x.syncofs ∧ (t.pwm m.val).t = x.clockAfter t0 ∧ (t.pwm m.val).synced = t0 + 1 ∧
      (x.syncofs = 0 → t.reg p Off.pwm_PERCNT = s.reg p Off.pwm_PERCNT + 1)) ∧
    (∃ t, Gives (.pwmCopyMismatch m) s t ∧ (t.page p).st = stFAULT ∧ (t.pwm m.val).forced = true ∧ t.flag p 0x018 18 = true ∧
      t.lost.any (fun e => e.1 == p) = true)) ∧
  (∀ (i : Fin 16) (pin : Bool) (clocks : Nat) (s : State),
    (s.tripFiltered i.val true pin clocks = false ∨ s.flag pageTRIP Off.trip_TRIPLVL i.val = true →
      Gives (.tripAssert i pin clocks) s s) ∧
    (s.tripFiltered i.val true pin clocks = true → s.flag pageTRIP Off.trip_TRIPLVL i.val = false →
      ∃ t, Gives (.tripAssert i pin clocks) s t ∧ t.flag pageTRIP Off.trip_TRIPLVL i.val = true ∧
        t.flag pageTRIP Off.trip_TRIPSEEN i.val = true ∧
        t.fld pageTRIP (Off.trip_TRIPCNT i.val) 0 16 = min (s.fld pageTRIP (Off.trip_TRIPCNT i.val) 0 16 + 1) 65535 ∧
        t.flag pageTRIP 0x018 (16 + i.val) = true ∧
        ∀ m < 10, ∀ k < 4, s.active (pagePWM m) = true → s.flag (pagePWM m) (Off.pwm_TRIPSEL k) i.val = true →
          s.pwmBlank m (s.pwmEdge m) = false → k < (s.pwm m).pairs.length → ((t.pwm m).pairs.getD k {}).cut = true) ∧
    (s.tripFiltered i.val false pin clocks = true →
      Gives (.tripDeassert i pin clocks) s (s.setFld pageTRIP Off.trip_TRIPLVL i.val 1 0)) ∧
    (s.tripFiltered i.val false pin clocks = false → Gives (.tripDeassert i pin clocks) s s)) ∧
  (∀ (c : Fin 16) (k : Fin 4) (s : State), s.active (pageCL c.val) = true → s.pairState c.val k.val = 1 →
    ∃ t, Gives (.delayRegisterParityError c k) s t ∧ t.fld (pageCL c.val) Off.cl_PAIRSTAT (4 * k.val) 4 = 10 ∧
      t.flag (pageCL c.val) 0x018 19 = true ∧ (0x020 + c.val) ∈ t.iu.flight ∧
      (t.clu c.val).moveDue = ((s.clu c.val).moveDue || !s.flag (pageCL c.val) Off.cl_PAIRCFG 8))

namespace Sys2Proof.Claims

/-- A message waits for a role that cluster `c` of this device holds (R175, R176). -/
structure Local (m : Msg) (c : Nat) (s : State) : Prop where
  dev : fieldOf m.addr 12 2 = s.devnum
  holder : s.holder (fieldOf m.addr 8 4) = some c

/-- The words `m` of a bounce with `code` reach the ring of its sender's role: the entry is written at TAIL, which moves on; a full ring
counts it as lost (R177). Nothing is said where the sender is on another device, or no cluster holds its role. -/
def Bounces (m : Msg) (code epoch : Nat) (s t : State) : Prop :=
  fieldOf m.sender 12 2 = s.devnum → ∀ c, s.holder (fieldOf m.sender 8 4) = some c →
    (let b := s.bncBase c
     let w := (s.sharedAt c b).toNat % 16
     let full := BitVec.ofNat 32 ((w + 1) % 16) = s.sharedAt c (b + 4)
     (¬ full → t.sharedAt c b = BitVec.ofNat 32 ((w + 1) % 16) ∧ t.flag (pageCL c) 0x018 20 = true ∧
       ∀ (i : Nat) (x : Word), [m.lo, m.hi, m.addr, BitVec.ofNat 32 (code + epoch * 2 ^ 8)][i]? = some x →
         t.sharedAt c (b + 16 + 16 * w + 4 * i) = x) ∧
     (full → (t.clu c).shared = (s.clu c).shared ∧ t.flag (pageCL c) 0x018 21 = true ∧
       t.fld (pageCL c) Off.cl_BNCLOST 0 16 = min 65535 (s.fld (pageCL c) Off.cl_BNCLOST 0 16 + 1)))

/-- The page of a running SELFTEST is in service or held in FAULT or QUARANTINE no more than before (R40). -/
def testState (p : Nat) (pass : Bool) (s : State) : Nat :=
  if pass ∨ s.st p = stFAULT ∨ s.st p = stQUARANTINE then (s.page p).st else stFAULT

end Sys2Proof.Claims

/-- R159 to R161: what a line brings to a receiving unit: a frame enters the buffer, or is an overrun or an error; a transmitting unit
goes on bit by bit; a stalled SHIFT times out. Where the chapter leaves a reading open, it follows the model's: log entry 47. -/
def Obligations.ShiftUnitEvents : Prop :=
  (∀ (c : Fin 160) (s : State), s.pageOn (chPage c.val) = true → s.stalledOn c.val = [] →
    let u := s.unit c.val
    (u.receives = false → ∀ f, Gives (.shiftRxFrame c f) s s) ∧
    (u.mode = 1 → ∀ l, Gives (.shiftRxFrame c (.line l)) s s) ∧
    (u.mode ≠ 1 → ∀ l, Gives (.shiftRxFrame c (.intervals l)) s s) ∧
    (∀ bs : List Bool, u.mode = 3 → u.busy = false → u.lvl = some true → u.unit ≤ u.quiet → 0 < u.unit → bs.length = u.frm →
      bs.head? = some false → ∃ t, Gives (.shiftRxFrame c (.line (bs.map (fun b => (b != u.inv, u.unit))))) s t ∧ Woken s t ∧
        t = { s with chans := t.chans, clus := t.clus } ∧ (∀ c', c' ≠ c.val → t.chan c' = s.chan c') ∧
        (t.unit c.val).busy = false ∧ (t.unit c.val).frmErr = u.frmErr ∧
        (u.buf.length + u.frm ≤ 32 → (t.unit c.val).buf = u.buf ++ bs ∧ (t.unit c.val).frames = (u.frames + 1) % 2 ^ 16 ∧
          (t.unit c.val).ovr = u.ovr) ∧
        (32 < u.buf.length + u.frm → (t.unit c.val).buf = u.buf ∧ (t.unit c.val).frames = u.frames ∧ (t.unit c.val).ovr = true)) ∧
    (∀ l : Bool, u.mode = 2 → u.busy = false → u.lvl = some (!l) → 2 * u.unit ≤ u.quiet → 0 < u.unit → 0 < u.frm →
      ∃ t, Gives (.shiftRxFrame c (.line [(l != u.inv, u.unit)])) s t ∧ t = { s with chans := t.chans } ∧
        (∀ c', c' ≠ c.val → t.chan c' = s.chan c') ∧ (t.unit c.val).frmErr = true ∧ (t.unit c.val).busy = false ∧
        (t.unit c.val).buf = u.buf ∧ (t.unit c.val).frames = u.frames) ∧
    (∀ i : Nat, u.mode = 1 → 3 * 56 * u.unit ≤ 4 * i → 4 * i ≤ 5 * 56 * u.unit →
      ∃ t, Gives (.shiftRxFrame c (.intervals [i])) s t ∧ t = { s with chans := t.chans } ∧
        UnitIs c.val { u with tick := some i, nibs := [], drop := false, busy := true } s t) ∧
    (u.transmits = false ∨ (u.half = none ∧ u.buf = [] ∧ u.busy = false) → Gives (.shiftTxBit c) s s) ∧
    (u.transmits = true → (u.busy = true → Comes u.due s) →
      (u.half = none →
        (∀ b q, u.buf = b :: q → ∃ t, Gives (.shiftTxBit c) s t ∧ Woken s t ∧ (t.unit c.val).buf = q ∧ (t.unit c.val).busy = true ∧
          (t.unit c.val).line = ((if u.mode = 5 then !b else b) != u.inv) ∧ (∀ c', c' ≠ c.val → t.chan c' = s.chan c') ∧
          t = { clocked s t with chans := t.chans, clus := t.clus }) ∧
        (u.buf = [] → u.busy = true → ∃ t, Gives (.shiftTxBit c) s t ∧ (t.unit c.val).busy = false ∧ (t.unit c.val).line = u.idle ∧
          (∀ c', c' ≠ c.val → t.chan c' = s.chan c') ∧ t = { clocked s t with chans := t.chans })) ∧
      (∀ l, u.half = some l → ∃ t, Gives (.shiftTxBit c) s t ∧ (t.unit c.val).line = l ∧
        (t.unit c.val).half = none ∧ (t.unit c.val).buf = u.buf ∧ (∀ c', c' ≠ c.val → t.chan c' = s.chan c') ∧
        t = { clocked s t with chans := t.chans }))) ∧
  (∀ (c : Fin 160) (s : State), s.pageOn (chPage c.val) = false →
    (∀ f, Gives (.shiftRxFrame c f) s s) ∧ Gives (.shiftTxBit c) s s) ∧
  (∀ (e : Fin 128) (s : State), (s.eng e.val).wait = none → Gives (.shiftTimeout e) s s) ∧
  (∀ (e : Fin 128) (w : ShiftWait) (s : State), (s.eng e.val).wait = some w →
    ((s.unit w.chan).timeout = 0 → Gives (.shiftTimeout e) s s) ∧
    (∀ k : Nat, (s.eng e.val).task = some k → (s.unit w.chan).timeout ≠ 0 → Comes (w.since + (s.unit w.chan).timeout * 8000) s →
      ∃ t, Gives (.shiftTimeout e) s t ∧
        t = { clocked s t with chans := t.chans, clus := t.clus, engs := t.engs } ∧
        t.now = max s.now (w.since + (s.unit w.chan).timeout * 8000) ∧
        UnitIs w.chan { s.unit w.chan with tmo := true } s t ∧
        TaskIs (e.val / 8) k { s.task (e.val / 8) k with st := tRUNNING, shiftWait := false } s t ∧
        EngineIs e { s.eng e.val with
          g := (s.eng e.val).g.set 0 w.xd (if w.tx then codeWord 0x0E else 0)
          fl := { (s.eng e.val).fl with s := true }, wait := none } s t))

/-- R127 to R129, R174, R176, R177, R374: a message reaches the holder of its role; one without a holder, with a stale epoch or for a full
queue is bounced to its sender's ring with E_STATE, E_EPOCH or E_OVERFLOW and the present epoch; ended events are recorded; the copy of a
moved role ends. Where the chapter leaves a reading open, it follows the model's: log entries 42 and 48. -/
def Obligations.MessagesAndCompletions : Prop :=
  ∀ s : State,
    (s.msgs = [] → Gives .messageDelivery s s) ∧
    (∀ c0 m q, s.msgs = (c0, m) :: q → fieldOf m.addr 12 2 = s.devnum → s.holder (fieldOf m.addr 8 4) = none →
      ∃ t, Gives .messageDelivery s t ∧ t.msgs = q ∧ Bounces m 0x02 0 s t ∧ ∀ c', (t.clu c').msgq = (s.clu c').msgq) ∧
    (∀ c0 m q c, s.msgs = (c0, m) :: q → Local m c s →
      (fieldOf m.addr 0 8 = s.epoch (fieldOf m.addr 8 4) → (s.clu c).msgq.length < 32 →
        ∃ t, Gives .messageDelivery s t ∧ t = { s with msgs := q, clus := t.clus } ∧ Woken s t ∧
          (t.clu c).msgq = (s.clu c).msgq ++ [m] ∧ ∀ c', c' ≠ c → (t.clu c').msgq = (s.clu c').msgq) ∧
      (fieldOf m.addr 0 8 ≠ s.epoch (fieldOf m.addr 8 4) → ∃ t, Gives .messageDelivery s t ∧ t.msgs = q ∧
        Bounces m 0x09 (s.epoch (fieldOf m.addr 8 4)) s t ∧ (∀ c', (t.clu c').msgq = (s.clu c').msgq) ∧
        ((s.whey.queued.filter (·.1 == pageCL c)).length < 8 → ∃ r, (pageCL c, r) ∈ t.whey.queued ∧ r.cls = 1 ∧ r.kind = 0x003)) ∧
      (fieldOf m.addr 0 8 = s.epoch (fieldOf m.addr 8 4) → 32 ≤ (s.clu c).msgq.length → ∃ t, Gives .messageDelivery s t ∧
        t.msgs = q ∧ Bounces m 0x0C (s.epoch (fieldOf m.addr 8 4)) s t ∧ ∀ c', (t.clu c').msgq = (s.clu c').msgq)) ∧
    (∀ r : Fin 16, s.holder r.val = none ∨ (∀ e ∈ s.cal.evs, e.st = 2 → e.owner ≠ r.val) ∨
        (∃ c, s.holder r.val = some c ∧ 256 ≤ (s.clu c).ecq.length) → Gives (.engineEventCompletion r) s s) ∧
    (s.slotFree = false ∨ (s.hostEnded = [] ∧ s.cal.refused = []) → Gives .hostEventCompletion s s) ∧
    (∀ (k : Fin 16) bad, (s.clu k.val).copy = none → Gives (.migrationCopyEnd k bad) s s) ∧
    (∀ (r : Fin 16) c e q, s.holder r.val = some c →
      sortBy (fun x y => x.fin < y.fin) (s.cal.evs.filter (fun e => e.st == 2 && e.owner == r.val)) = e :: q →
      (s.clu c).ecq.length < 256 → ∃ t, Gives (.engineEventCompletion r) s t ∧ Woken s t ∧
        (t.clu c).ecq = (s.clu c).ecq ++ [engineRecord e (s.epoch r.val)] ∧
        t.cal = { s.cal with evs := s.cal.evs.filter (fun x => x.slot != e.slot) } ∧
        ((s.clu c).ecq.length = 255 → t.flag (pageCL c) 0x018 22 = true)) ∧
    (∀ e q, s.hostEnded = e :: q → s.slotFree = true → s.host.linkUp = true →
      (let h := s.fld pageCMDQ Off.cmdq_CPHEAD 0 12
       let a := s.reg64 pageCMDQ Off.cmdq_CPBASE_LO Off.cmdq_CPBASE_HI + 32 * h
       ∃ t, Gives .hostEventCompletion s t ∧ t = { s with cal := t.cal, hostMem := t.hostMem, regs := t.regs, ring := t.ring } ∧
         t.cal = { s.cal with evs := s.cal.evs.filter (fun x => x.slot != e.slot) } ∧
         t.hostMem.word a = BitVec.ofNat 32 (e.tag + 0xFE * 2 ^ 16 + e.code * 2 ^ 24) ∧
         t.hostMem.word (a + 4) = BitVec.ofNat 32 (0x028 + (if s.ring.phase then 2 ^ 31 else 0)) ∧
         t.hostMem.word (a + 8) = BitVec.ofNat 32 e.tb ∧ t.fld pageCMDQ Off.cmdq_CPHEAD 0 12 = (h + 1) % s.cpSize ∧
         ∀ b, (b < a / 4 * 4 ∨ a / 4 * 4 + 32 ≤ b) → t.hostMem.byte b = s.hostMem.byte b)) ∧
    (∀ (k : Fin 16) c gone, (s.clu k.val).copy = some (c, gone) → ∃ t, Gives (.migrationCopyEnd k []) s t ∧
      t.clu k.val = { s.clu k.val with copy := none } ∧ t.engs = s.engs ∧ 0x00C ∈ t.iu.flight ∧
      ∃ a ∈ t.whey.alarms, a.origin = originOf (pageCL c) ∧ a.kind = 0x014)

/-- R38, R40, R48 to R57: GROUP_COMMIT begins its prepare or is rejected, and prepare ends; a fetched entry is issued; a self-test
ends. Where the chapter leaves a reading open, it follows the model's: log entries 25 and 86. -/
def Obligations.GroupsAndRing : Prop :=
  (∀ (tag : BitVec 16) (part : Bool) (a : Args) (s : State), s.slotFree = true →
    (s.md ≠ mBOOT → groupIllegal a = false → s.outst < 512 → ∃ t g, Gives (.groupCommit tag part a) s t ∧
      t = { s with pages := t.pages, groups := s.groups ++ [g] } ∧ g.pages = maskPages a ∧ g.part = part ∧ g.ready = false ∧
      g.single = false ∧ g.slot = true ∧ g.addr = a.w6.toNat + a.w7.toNat * 2 ^ 32 ∧ (t.page pageCMDQ).lastCmd = 0x40 ∧
      ∀ p ∈ maskPages a, g.fails.any (fun f => f.1 == p) = decide (prepareCode p (maskPages a) false s ≠ 0) ∧
        (prepareCode p (maskPages a) false s = 0 → (t.page p).prepared = true)) ∧
    (s.md = mBOOT ∨ groupIllegal a = true ∨ 512 ≤ s.outst → s.pageOn pageCMDQ = true → ∃ t, Gives (.groupCommit tag part a) s t ∧
      t.groups = s.groups ∧ t.pages = s.pages ∧ t.reg pageCMDQ 0x00C = BitVec.ofNat 32
        ((if s.md = mBOOT then 0x02 else if groupIllegal a then 0x01 else 0x07) + 0x40 * 2 ^ 8 + tag.toNat * 2 ^ 16) ∧
      t.flag pageCMDQ 0x018 0 = true)) ∧
  (∀ s : State, s.groups.find? (fun g => !g.ready) = none → Gives .groupCommitPrepared s s) ∧
  (∀ (g : Group) (s : State), s.groups.find? (fun g => !g.ready) = some g →
    (g.fails = [] ∨ g.part = true → g.live ≠ [] → Gives .groupCommitPrepared s { s with
      groups := s.groups.map (fun h => if h = g then { g with ready := true } else h) }) ∧
    ((g.fails ≠ [] ∧ g.part = false) ∨ g.live = [] → g.single = false → ∃ t, Gives .groupCommitPrepared s t ∧
      t.groups = s.groups.erase g ∧ t.flag pageCMDQ 0x018 1 = true ∧ ∀ p ∈ g.live, (t.page p).prepared = false)) ∧
  (∀ (e : Entry) (s : State), s.canFetch = false ∨ s.host.linkUp = false → Gives (.commandFetch e) s s) ∧
  (∀ (e : Entry) (s : State), s.canFetch = true → s.host.linkUp = true →
    let h := (s.fld pageCMDQ Off.cmdq_CRHEAD 0 12 + 1) % s.crSize
    let u := { s.setFld pageCMDQ Off.cmdq_CRHEAD 0 12 h with
      ring := { s.ring with pubs := s.ring.pubs.dropWhile (fun n => n.1 == h) } }
    let code := e.w0.toNat % 256
    let p := e.w1.toNat % 4096
    let q : Req := { src := .ring, page := BitVec.ofNat 12 p, tag := BitVec.ofNat 16 (e.w0.toNat / 2 ^ 16), args := e.args }
    let odd := e.w0.toNat / 2 ^ 9 % 2 ^ 7 ≠ 0 ∨ e.w1.toNat / 2 ^ 12 ≠ 0
    (¬ odd → p = 0x004 → code = 0x40 → ∀ t, Gives (.groupCommit (BitVec.ofNat 16 (e.w0.toNat / 2 ^ 16)) (e.w0.toNat / 2 ^ 8 % 2 == 1) e.args) u t →
      Gives (.commandFetch e) s t) ∧
    (¬ odd → e.w0.toNat / 2 ^ 8 % 2 = 0 → ¬ (p = 0x004 ∧ code = 0x40) →
      firstErr ((cmdFor p code).grounds code q u) = 0 → Gives (.commandFetch e) s (issue code q u).2) ∧
    (odd ∨ (¬ (p = 0x004 ∧ code = 0x40) ∧ (e.w0.toNat / 2 ^ 8 % 2 = 1 ∨ firstErr ((cmdFor p code).grounds code q u) ≠ 0)) →
      ∃ t, Gives (.commandFetch e) s t ∧ t.running = s.running ∧ t.groups = s.groups ∧ t.pages = s.pages)) ∧
  (∀ (page : BitVec 12) (pass : Bool) (s : State), s.runs page.toNat 7 = false → Gives (.selftestDone page pass) s s) ∧
  (∀ (page : BitVec 12) (pass : Bool) (s : State), s.runs page.toNat 7 = true →
    ∃ t, Gives (.selftestDone page pass) s t ∧ (t.page page.toNat).st = testState page.toNat pass s ∧
      t.flag page.toNat 0x018 1 = true)

/-- R183, R184, R187, R188, R302, R357, R381: a LOAD ends with its words in the inactive banks; a mirror copy makes the banks
equal; the window takes words at OPEN for inactive banks only; a repair rewrites its word. Where the chapter leaves a reading
open, it follows the model's: log entries 49, 50 and 51. -/
def Obligations.PressEvents : Prop :=
  (∀ (img : Image) (s : State), s.running.find? (fun r => r.req.page.toNat == pagePRESS && r.code == 0x40) = none →
    Gives (.loadComplete img) s s) ∧
  (∀ (img : Image) (r : Running) (s : State),
    s.running.find? (fun r => r.req.page.toNat == pagePRESS && r.code == 0x40) = some r →
    (s.dmaReady = false ∨ (img.dma = .ok ∧ (s.host.linkUp = false ∨ img.bytes.length ≠ r.data.headD 0)) →
      Gives (.loadComplete img) s s) ∧
    (∀ len l, r.data = len :: l → img.dma = .ok → s.dmaReady = true → s.host.linkUp = true → img.bytes.length = len → l.Nodup →
      (∀ w ∈ img.words, ∀ w' ∈ img.words, w.1 = w'.1 → w = w') →
      ∃ t, Gives (.loadComplete img) s t ∧ t.flag pagePRESS 0x018 16 = true ∧
        t.fld pagePRESS Off.press_LDSTAT 24 8 = (if trailerOk s img.bytes then 0 else 0x0A) ∧
        ∀ c ∈ l, (t.bankSt c (!s.bankOf c)).valid = trailerOk s img.bytes ∧
          ∀ w ∈ img.words, t.storeWord c (!s.bankOf c) w.1.toNat = w.2) ∧
    (img.dma ≠ .ok → s.dmaReady = true → ∃ t, Gives (.loadComplete img) s t ∧ t.cstore = s.cstore ∧ t.banks = s.banks ∧
      t.fld pagePRESS Off.press_LDSTAT 24 8 = (if img.dma = .timeout then 0x0E else 0x0D) ∧ t.flag pageHOSTIF 0x018 16 = true)) ∧
  (∀ s : State, s.running.find? (fun r => r.req.page.toNat == pagePRESS && r.code == 0x42) = none →
    (s.press.own = [] → Gives .mirrorCopyComplete s s) ∧
    (∃ t, Gives .mirrorCopyComplete s t ∧ t.engs = s.engs ∧ t.press = { s.press with own := [] })) ∧
  (∀ (r : Running) (s : State), s.running.find? (fun r => r.req.page.toNat == pagePRESS && r.code == 0x42) = some r → r.data.Nodup →
    ∃ t, Gives .mirrorCopyComplete s t ∧ t.engs = s.engs ∧
      ∀ c ∈ r.data, (t.bankSt c (!s.bankOf c)).valid = true ∧ (t.bankSt c (!s.bankOf c)).copy = true ∧
        ∀ a < 4096, t.storeWord c (!s.bankOf c) a = s.storeWord c (s.bankOf c) a) ∧
  (∀ (off : BitVec 26) (data : List Byte) (s : State), data.length = 4 ∨ data.length = 8 → off.toNat % data.length = 0 →
    0x400000 ≤ off.toNat → off.toNat < 0x800000 →
    let c := (off.toNat - 0x400000) / 0x40000
    let b := off.toNat / 0x20000 % 2 == 1
    let o := off.toNat % 32
    (0x14 ≤ o → Gives (.controlStoreWindowWrite off data) s ((s.addSat pageHOSTIF Off.hostif_BAR2REJ 0 16 1).intSet pageHOSTIF 19)) ∧
    (o < 0x14 → s.level ≠ lvOPEN ∨ s.split c = true ∨ s.bankOf c = b →
      Gives (.controlStoreWindowWrite off data) s ((s.addSat pagePRESS Off.press_WINREJ 0 16 1).intSet pagePRESS 21)) ∧
    (∀ x y z w, data = [x, y, z, w] → o < 0x10 → s.level = lvOPEN → s.split c = false → s.bankOf c ≠ b →
      Gives (.controlStoreWindowWrite off data) s { s with press := { s.press with
        stage := s.press.stage.filter (fun k => off.toNat != k.1) ++ [(off.toNat, w ++ z ++ y ++ x)] } }) ∧
    (o < 0x14 → 0x10 ≤ o → s.level = lvOPEN → s.split c = false → s.bankOf c ≠ b →
      (∀ i < 4, ∃ w, s.press.stage.find? (fun x => x.1 == off.toNat - o + 4 * i) = some (off.toNat - o + 4 * i, w)) →
      ∃ t, Gives (.controlStoreWindowWrite off data) s t ∧ t = { s with cstore := t.cstore, banks := t.banks, press := t.press } ∧
        (t.bankSt c b).win = true ∧ (t.bankSt c b).valid = false ∧ (t.bankSt c (!b)).copy = false ∧
        (∀ i < 4, ∀ w, s.press.stage.find? (fun x => x.1 == off.toNat - o + 4 * i) = some (off.toNat - o + 4 * i, w) →
          (t.storeWord c b (off.toNat % 0x20000 / 0x20)).extractLsb' (32 * i) 32 = w) ∧
        (t.storeWord c b (off.toNat % 0x20000 / 0x20)).extractLsb' 128 4 = (data.getD 0 0).setWidth 4 ∧
        ∀ k, k ≠ storeKey c b (off.toNat % 0x20000 / 0x20) → t.cstore.get 0 k = s.cstore.get 0 k)) ∧
  (∀ (ok : Bool) (s : State), s.press.repair = [] → Gives (.pressRepair ok) s s) ∧
  (∀ (ok : Bool) (c : Nat) (b : Bool) (a : Nat) (q : List (Nat × Bool × Nat)) (s : State), s.press.repair = (c, b, a) :: q → a < 4096 →
    ∃ t, Gives (.pressRepair ok) s t ∧ t.press.repair = q ∧
      (ok = true ∨ s.spareRow (rowOf (16 + c) ((if b then 4096 else 0) + a)) = true → t.storeWord c b a = s.storeWord c (!b) a) ∧
      (ok = true → t.flag pagePRESS 0x018 19 = true ∧ t.fld pagePRESS Off.press_REPSTAT 0 8 = min (s.fld pagePRESS Off.press_REPSTAT 0 8 + 1) 255) ∧
      (ok = false → t.flag pagePRESS 0x018 20 = true ∧ t.flag pagePRESS Off.press_REPSTAT 16 = true ∧ 0x00E ∈ t.iu.flight))

namespace Sys2Proof.Claims

/-- The interrupt unit's target `t` is on and may present: the block ACTIVE, the target enabled, moderation permits it (R267, R272). -/
structure Presents (n : Nat) (s : State) : Prop where
  active : s.active pageIU = true
  on : s.tcfg n 0 = true
  may : s.mayPresent n = true

/-- MSI-X messages go out: the link is up, MSI-X enabled and not masked as a whole, Bus Master Enable set, in D0 (R303, R304). -/
def MsixOut (s : State) : Prop :=
  s.host.linkUp = true ∧ s.host.cfg.msixEn = true ∧ s.host.cfg.fmask = false ∧ s.host.cfg.busMaster = true ∧ s.host.cfg.d3 = false

/-- A record has joined a Whey ring at the write pointer `w`, without straddling its end. -/
def Appends (r : WheyRing) (w cls : Nat) (words : List Word) (s t : State) : Prop :=
  (t.wring r).wp = (w + 4 * words.length) % ringSize r ∧
  (∃ l, (t.wring r).recs = l ++ [⟨w, 4 * words.length, cls, false, s.now⟩]) ∧
  ∀ i (x : Word), words[i]? = some x → t.whey.buf.word (ringBase r + w + 4 * i) = x

/-- Whey owes nothing, and a record of this length fits the ring without wrapping. -/
structure Fit (r : WheyRing) (len : Nat) (s : State) : Prop where
  active : s.active pageWHEY = true
  owed : s.whey.owed = none
  coal : s.whey.coal = []
  room : s.ringRoom r len = true
  wrap : (s.wring r).wp + len ≤ ringSize r
  even : (s.wring r).wp % 8 = 0

end Sys2Proof.Claims

/-- R262 to R265, R267, R269, R271 to R273, R275, R304: a doorbell is counted; a target presents, or its queue takes a record;
moderation ends; wake inputs latch; an unmasked vector sends what pended. What meets in one clock is settled as R264 and R274 say. Where
the chapter leaves a reading open, it follows the model's: log entries 57 and 58. -/
def Obligations.InterruptEvents : Prop :=
  (∀ (n : BitVec 12) (s : State),
    let u : State := { s with iu := { s.iu with flight := s.iu.flight.erase n.toNat } }
    (s.dst 84 ≠ 0 ∨ assignedSrc n.toNat = false → Gives (.doorbell n) s u) ∧
    (s.dst 84 = 0 → assignedSrc n.toNat = true →
      (let k := s.iu.clk
       let c := s.cntBase n.toNat
       let d := k.bells.get 0 n.toNat
       let m := k.decs.get 0 n.toNat
       let cnt := min 255 (c + (d + 1) - m)
       (c + d - m < 255 → Gives (.doorbell n) s
         (((u.setClk { k with base := k.base.set 0 n.toNat (c + 1), bells := k.bells.set 0 n.toNat (d + 1) }).setIsrc n.toNat
           { s.isrc n.toNat with cnt := cnt, pend := s.pendBit n.toNat true }).settleSrc n.toNat)) ∧
       (255 ≤ c + d - m → ∃ t, Gives (.doorbell n) s t ∧ (t.isrc n.toNat).cnt = cnt ∧
         (t.isrc n.toNat).pend = s.pendBit n.toNat true ∧
         t.fld pageIU Off.iu_SATLOST 0 16 = min (s.fld pageIU Off.iu_SATLOST 0 16 + 1) 65535 ∧
         t.fld pageIU Off.iu_SATLOST 16 12 = n.toNat ∧ t.flag pageIU 0x018 16 = true)))) ∧
  (∀ (i : Fin 4) (s : State),
    let x := s.itgt i.val
    (Presents i.val s →
      (s.isCompact i.val = true → x.notif = false → x.qtail ≠ s.qhead i.val → Gives (.presentation i) s
        (((s.setItgt i.val { x with notif := true, busy := !s.idleHeld i.val, hold := none }).setClk
          { s.iu.clk with shown := i.val :: s.iu.clk.shown }).signal i.val)) ∧
      (s.isCompact i.val = true → x.notif = true ∨ x.qtail = s.qhead i.val → Gives (.presentation i) s s) ∧
      (s.isCompact i.val = false → x.active = none → ∀ n, s.topFor i.val true = some n → ∃ t, Gives (.presentation i) s t ∧
        t.itgt i.val = { x with active := some n, busy := !s.idleHeld i.val, hold := none } ∧
        t.isrc n = { s.isrc n with pend := s.pendBit n false, asg := none } ∧ (∀ m, m ≠ n → t.isrc m = s.isrc m) ∧
        t.iu.clk = { s.iu.clk with shown := i.val :: s.iu.clk.shown } ∧ (∀ j, j ≠ i.val → t.itgt j = s.itgt j) ∧
        t = { s with iu := t.iu, host := t.host, regs := t.regs }) ∧
      (s.isCompact i.val = false → s.topFor i.val true = none ∨ x.active.isSome = true → Gives (.presentation i) s s)) ∧
    (s.active pageIU = false ∨ s.tcfg i.val 0 = false ∨ s.mayPresent i.val = false → Gives (.presentation i) s s) ∧
    (s.isCompact i.val = false ∨ s.qfull i.val = true ∨ x.waitHead = true ∨ s.dmaReady = false ∨ s.topFor i.val true = none →
      Gives (.queueRecordWrite i) s s) ∧
    (∀ n, s.active pageIU = true → s.tcfg i.val 0 = true → s.isCompact i.val = true → s.qfull i.val = false → x.waitHead = false →
      s.host.linkUp = true → s.dmaReady = true → s.topFor i.val true = some n →
      (let a := s.reg64 pageIU (Off.iu_QBASE_LO i.val) (Off.iu_QBASE_HI i.val) + 16 * x.qtail
       ∃ t, Gives (.queueRecordWrite i) s t ∧
         (s.pendBit n false = false → t.isrc n = { s.isrc n with pend := false, asg := none }) ∧
         (t.itgt i.val).qtail = (x.qtail + 1) % s.qsize i.val ∧
         (t.itgt i.val).phase = (if (x.qtail + 1) % s.qsize i.val = 0 then !x.phase else x.phase) ∧
         t.hostMem.word a = BitVec.ofNat 32 (n + (s.isrc n).cnt * 2 ^ 12 + (if x.phase then 2 ^ 31 else 0)) ∧
         t.hostMem.word (a + 8) = lo32 s.tb ∧ t.hostMem.word (a + 12) = hi32 s.tb ∧
         ∀ b, (b < a / 4 * 4 ∨ a / 4 * 4 + 16 ≤ b) → t.hostMem.byte b = s.hostMem.byte b)) ∧
    (∀ held : Bool,
      let v := s.iu.idlePin ||| BitVec.ofNat 4 (2 ^ i.val)
      let pin := if held then v else v &&& ~~~ BitVec.ofNat 4 (2 ^ i.val)
      (s.tcfg i.val 12 = true → s.tcfg i.val 2 = false → ∃ t, Gives (.hidleAssert i held) s t ∧
        t = { s with iu := t.iu } ∧ t.iu = { s.iu with idlePin := pin, tgt := t.iu.tgt } ∧
        t.itgt i.val = { x with busy := false } ∧ ∀ j, j ≠ i.val → t.itgt j = s.itgt j) ∧
      (s.tcfg i.val 12 = false ∨ s.tcfg i.val 2 = true → Gives (.hidleAssert i held) s { s with iu := { s.iu with idlePin := pin } })) ∧
    (x.hold = none → Gives (.holdOffExpiry i) s s) ∧
    (∀ h, x.hold = some h → Gives (.holdOffExpiry i) s ((s.upTo h).setItgt i.val { x with hold := none }))) ∧
  (∀ (g : Fin 64) (s : State), Comes (s.iu.group.get 0 g.val) s → ∃ t, Gives (.groupHoldOffExpiry g) s t ∧
    t.now = max s.now (s.iu.group.get 0 g.val) ∧ t.iu.group.get 0 g.val = 0 ∧
    (∀ g', g' ≠ g.val → t.iu.group.get 0 g' = s.iu.group.get 0 g') ∧
    t = { clocked s t with iu := { s.iu with clk := t.iu.clk, group := t.iu.group } }) ∧
  (∀ (w : Fin 16) (rising : Bool) (s : State),
    s.iu.armed = false ∨ s.flag pageIU Off.iu_WAKECFG (2 * w.val + (if rising then 0 else 1)) = false →
    Gives (.wakeInput w rising) s s) ∧
  (∀ (w : Fin 16) (rising : Bool) (s : State), s.iu.armed = true →
    s.flag pageIU Off.iu_WAKECFG (2 * w.val + (if rising then 0 else 1)) = true → ∃ t, Gives (.wakeInput w rising) s t ∧
    t.iu = { s.iu with latch := s.iu.latch ||| BitVec.ofNat 16 (2 ^ w.val) } ∧
    (s.flag pagePWR Off.pwr_WAKESRC 0 = true → t.mode.wake % 2 = 1) ∧
    (s.flag pagePWR Off.pwr_WAKESRC 0 = false → t.mode = s.mode) ∧ t = { s with iu := t.iu, mode := t.mode }) ∧
  (∀ (v : Fin 8) (s : State),
    let m := s.host.msix.get {} v.val
    (m.pend = true → MsixOut s → Gives (.msixUnmask (.vector v)) s { s with host := { s.host with
      msix := (s.host.msix.set {} v.val { m with masked := false }).set {} v.val { m with masked := false, pend := false, sent := m.sent + 1 } } }) ∧
    (m.pend = false ∨ (s.host.linkUp = true ∧ ¬ MsixOut s) →
      Gives (.msixUnmask (.vector v)) s (s.setMsix v.val { m with masked := false }))) ∧
  (∀ s : State, ∃ t, Gives (.msixUnmask .function) s t ∧ t.host.cfg = { s.host.cfg with fmask := false } ∧
    t.flag pageHOSTIF Off.hostif_PCIESTAT 10 = false ∧
    ∀ v < 8, (let m := s.host.msix.get {} v
      (m.pend = false ∨ m.masked = true → t.host.msix.get {} v = m) ∧
      (m.pend = true → m.masked = false → MsixOut { s with host := { s.host with cfg := { s.host.cfg with fmask := false } } } →
        t.host.msix.get {} v = { m with pend := false, sent := m.sent + 1 })))

/-- R279, R283 to R285, R287 to R291: Whey takes an alarm, else the first queued record, numbers it and writes it to its ring; a LOG that
finds no room is counted in the entry of its origin, or in entry 63 where no entry is free.
Where the chapter leaves a reading open, it follows the model's: log entries 59 and 61. -/
def Obligations.WheyTakesRecords : Prop :=
  ∀ s : State,
    (s.active pageWHEY = false → s.md ≠ mBOOT → Gives .wheyRecordIngest s s) ∧
    (∀ a : WRec, s.whey.alarms = [a] → Fit .alarm (recLen a) s → ∃ t, Gives .wheyRecordIngest s t ∧
      Appends .alarm s.whey.alarm.wp 0 (recWords a s.whey.seq0) s t ∧ t.whey.alarms = [] ∧ t.whey.seq0 = (s.whey.seq0 + 1) % 65536 ∧
      t.flag pageWHEY 0x018 16 = true ∧ t.whey.queued = s.whey.queued) ∧
    (∀ x, s.whey.alarms = [] → lowestQueued s.whey.queued = some x →
      (Fit .general (recLen x.2) s → x.2.cls = 1 → ∃ t, Gives .wheyRecordIngest s t ∧
        Appends .general s.whey.general.wp 1 (recWords x.2 s.whey.seq1) s t ∧ t.whey.queued = s.whey.queued.erase x ∧
        t.whey.seq1 = (s.whey.seq1 + 1) % 65536) ∧
      (Fit .general (recLen x.2) s → x.2.cls = 2 → s.whey.decim = 0 →
        s.ringFill .general + recLen x.2 + s.fld pageWHEY Off.whey_TRCFG 16 8 * 4096 ≤ ringSize .general →
        ∃ t, Gives .wheyRecordIngest s t ∧ Appends .general s.whey.general.wp 2
          (recWords { x.2 with rep := min (1 + (streamCount s.whey.streams x.2.origin x.2.kind).1.lost) 0xFFFF } s.whey.seq2) s t ∧
          t.whey.queued = s.whey.queued.erase x ∧ t.whey.seq2 = (s.whey.seq2 + 1) % 65536) ∧
      (s.active pageWHEY = true → s.whey.owed = none → s.whey.coal = [] → x.2.cls = 1 → s.ringRoom .general (recLen x.2) = false →
        ∃ t i, Gives .wheyRecordIngest s t ∧ t.whey.general = s.whey.general ∧ t.whey.buf = s.whey.buf ∧
          t.whey.queued = s.whey.queued.erase x ∧ (t.sumEntry i).cls = 1 ∧ (t.sumEntry i).last = x.2.tb ∧ i ≤ 63 ∧
          (i < 63 → (t.sumEntry i).origin = x.2.origin) ∧
          (i = 63 → (t.sumEntry i).origin = 0xFFF ∧ ∀ j < 63, s.whey.sums.has j = true) ∧
          (t.sumEntry i).count = min ((s.sumEntry i).count + 1) 0xFFFFFFFF)) ∧
    (s.whey.owed = none → s.whey.coal = [] → s.whey.alarms = [] → s.whey.queued = [] → Gives .wheyRecordIngest s s)

/-- R286, R292 to R295, R297: frames of an Ethernet port, its PAUSE, its links and its 802.1AS time. Where the chapter leaves a
reading open, it follows the model's: log entry 62. -/
def Obligations.EthernetEvents : Prop :=
  ∀ (n : Fin 2) (s : State),
    let p := pageETH n.val
    let e := s.eth n.val
    let run (r : WheyRing) := (s.ethRun n.val r).1
    (∀ r : WheyRing, s.ethConsumes n.val = true → s.flag p Off.eth_MACCFG 0 = true →
      s.flag p Off.eth_MACCFG 1 = false ∨ e.pause ≤ s.now → run r ≠ [] → (r ≠ .alarm → run .alarm = []) →
      (r = .general → run .loss = [] ∧ ((s.ethRun n.val r).2.2 = false ∨ ∃ d, s.flushDue n.val = some d ∧ d ≤ s.now)) →
      ∃ t f, Gives (.ethFrameSend n) s t ∧ (t.eth n.val).last = some f ∧ f.hdr[1]? = some (BitVec.ofNat 32 e.fseq) ∧
        f.recs = (run r).map (fun x => s.bufWords (ringBase r + x.off) (x.size / 4)) ∧ (t.eth n.val).fseq = (e.fseq + 1) % 2 ^ 32 ∧
        f.head.length = 42 ∧ t.reg p Off.eth_FRAMES = s.reg p Off.eth_FRAMES + 1) ∧
    (s.ethConsumes n.val = false ∨ s.flag p Off.eth_MACCFG 0 = false ∨ (s.flag p Off.eth_MACCFG 1 = true ∧ s.now < e.pause) →
      Gives (.ethFrameSend n) s s) ∧
    (s.flushDue n.val = none → Gives (.flushTimeout n) s s) ∧
    (∀ d, s.flushDue n.val = some d → ∀ t, Gives (.ethFrameSend n) (s.upTo d) t → Gives (.flushTimeout n) s t) ∧
    (s.active p = false → (∀ q, Gives (.pauseFrame n q) s s) ∧ Gives (.receivedFrameDiscard n) s s) ∧
    (s.active p = false ∨ s.flag p Off.eth_MACCFG 3 = false → ∀ m, Gives (.ptpMessage n m) s s) ∧
    (s.active p = true →
      (∀ q : BitVec 16, (s.flag p Off.eth_MACCFG 1 = true → Gives (.pauseFrame n q) s
          (s.setEth n.val { e with pause := s.now + q.toNat * 4096 / 100 })) ∧
        (s.flag p Off.eth_MACCFG 1 = false → Gives (.pauseFrame n q) s (s.addSat p Off.eth_RXDISC 0 16 1))) ∧
      Gives (.receivedFrameDiscard n) s (s.addSat p Off.eth_RXDISC 0 16 1) ∧
      (s.flag p Off.eth_MACCFG 3 = true →
        (∀ (rx : Time) (i : Nat), Gives (.ptpMessage n (.sync rx i)) s (s.setEth n.val { e with sync := some (s.near rx.toNat, i) })) ∧
        (∀ (seq : BitVec 16) (rx tx : Time), Gives (.ptpMessage n (.pdelayReq seq rx tx)) s
          (s.setEth n.val { e with answer := some (seq.toNat, rx.toNat, tx.toNat) })) ∧
        (∀ (seq : BitVec 16) (tx : Time), Gives (.ptpMessage n (.pdelayReqSent seq tx)) s
          (s.setEth n.val { e with sent := some (seq.toNat, s.near tx.toNat), ask := none })) ∧
        (∀ (seq : BitVec 16) (rx : Time) (t2 : Int),
          (∀ tx, e.sent = some (seq.toNat, tx) → Gives (.ptpMessage n (.pdelayResp seq rx t2)) s
            (s.setEth n.val { e with ask := some (seq.toNat, tx, s.near rx.toNat, t2) })) ∧
          ((∀ tx, e.sent ≠ some (seq.toNat, tx)) → Gives (.ptpMessage n (.pdelayResp seq rx t2)) s s)) ∧
        (∀ (seq : BitVec 16) (t3 : Int),
          (e.ask = none → Gives (.ptpMessage n (.pdelayRespFollowUp seq t3)) s s) ∧
          (∀ q t1 t4 t2, e.ask = some (q, t1, t4, t2) →
            (q ≠ seq.toNat → Gives (.ptpMessage n (.pdelayRespFollowUp seq t3)) s s) ∧
            (q = seq.toNat → e.asked = none → Gives (.ptpMessage n (.pdelayRespFollowUp seq t3)) s (s.setEth n.val { e with
              ask := none, asked := some (t4, t3), linkDelay := (((t4 : Int) - t1) * 5 - 4 * (t3 - t2)) / 8 })) ∧
            (∀ u4 u3, q = seq.toNat → e.asked = some (u4, u3) → u4 < t4 → Gives (.ptpMessage n (.pdelayRespFollowUp seq t3)) s
              (s.setEth n.val { e with
                ask := none, asked := some (t4, t3),
                linkDelay := (((t4 : Int) - t1) * 5 * ((t3 - u3) * 4) - 4 * (t3 - t2) * (((t4 : Int) - u4) * 5)) /
                  (8 * (((t4 : Int) - u4) * 5)) })))) ∧
        (e.sync = none → ∀ sec ns corr, Gives (.ptpMessage n (.followUp sec ns corr)) s s) ∧
        (∀ sec ns corr rx i, e.sync = some (rx, i) →
          (let time : Int := (sec.toNat : Int) * 1000000000 + (ns.toNat : Int) + corr + e.linkDelay
           ∃ t, Gives (.ptpMessage n (.followUp sec ns corr)) s t ∧ (t.eth n.val).pair = some (rx, time) ∧
             t.reg64 p Off.eth_PTPTB_LO Off.eth_PTPTB_HI = rx % 2 ^ 64 ∧ t.reg p Off.eth_PTPNS = BitVec.ofInt 32 (time % 1000000000) ∧
             t.flag p Off.eth_LINKST 1 = true)))) ∧
    (e.sync = none → Gives (.syncTimeout n) s s) ∧
    (∀ rx i, e.sync = some (rx, i) → Comes (rx + 3 * i) s → ∃ t, Gives (.syncTimeout n) s t ∧ t.flag p Off.eth_LINKST 1 = false ∧
      t.now = max s.now (rx + 3 * i) ∧ (s.flag p Off.eth_LINKST 1 = true → t.flag p 0x018 18 = true)) ∧
    (s.pageOn p = false → Gives (.linkup n) s s ∧ Gives (.linkdown n) s s) ∧
    (s.pageOn p = true →
      (∃ t, Gives (.linkup n) s t ∧ t.eth n.val = { e with link := true } ∧ t.flag p Off.eth_LINKST 0 = true ∧ t.flag p 0x018 16 = true) ∧
      (∃ t, Gives (.linkdown n) s t ∧ t.eth n.val = { e with link := false } ∧ t.flag p Off.eth_LINKST 0 = false ∧
        t.flag p 0x018 17 = true))

namespace Sys2Proof.Claims

/-- A read that times out while the link is up sets its bit of the AER status (R299). -/
def timedOut (r : DmaResult) (s : State) : State :=
  if r = .timeout ∧ s.host.linkUp = true
  then { s with host := { s.host with cfg := { s.host.cfg with aer := s.host.cfg.aer ||| 0x00004000 } } } else s

end Sys2Proof.Claims

/-- R299, R300, R303, R304, R309: the PCIe link resets, comes up, and masters the bus; a failed read is held in DMAERR and ends
what asked for it. Where the chapter leaves a reading open, it follows the model's: log entries 27 and 58. -/
def Obligations.PcieEvents : Prop :=
  ∀ s : State,
    (∃ t, Gives .pcieReset s t ∧ t.host = { s.host with linkUp := false, cfg := {}, msix := [], msixTab := [] } ∧
      t.reg pageHOSTIF Off.hostif_PCIESTAT = 0 ∧ (s.host.linkUp = true → t.flag pageHOSTIF 0x018 18 = true) ∧
      t.ring.owed = [] ∧ t = { s with host := t.host, regs := t.regs, fresh := t.fresh, iu := t.iu, ring := t.ring } ∧
      (s.ring.owed = [] → t.ring = s.ring)) ∧
    (s.md = mDORMANT → ∀ (speed : BitVec 3) (width : BitVec 4), Gives (.pcieLinkUp speed width) s s) ∧
    (s.md ≠ mDORMANT → ∀ (speed : BitVec 3) (width : BitVec 4), ∃ t, Gives (.pcieLinkUp speed width) s t ∧
      t = { s with host := { s.host with linkUp := true }, regs := t.regs } ∧ OnlyPage pageHOSTIF s t ∧
      t.reg pageHOSTIF Off.hostif_PCIESTAT = BitVec.ofNat 32 (1 + speed.toNat * 2 + width.toNat * 2 ^ 4 +
        (if s.host.cfg.busMaster then 2 ^ 8 else 0) + (if s.host.cfg.msixEn then 2 ^ 9 else 0) + (if s.host.cfg.fmask then 2 ^ 10 else 0))) ∧
    (s.host.linkUp = false → ∀ w, Gives (.busMasterEnableWrite w) s s) ∧
    (s.host.linkUp = true → ∀ w, ∃ t, Gives (.busMasterEnableWrite w) s t ∧ t.host.linkUp = true ∧
      (match w with
       | .command m b => t.host.cfg = { s.host.cfg with memSpace := m, busMaster := b }
       | .bar0 b => t.host.cfg = { s.host.cfg with bar0 := b &&& 0xFF000000 }
       | .bar2 b => t.host.cfg = { s.host.cfg with bar2 := b &&& 0xFFFFFFFFFC000000 }
       | .msixControl e m => t.host.cfg = { s.host.cfg with msixEn := e, fmask := m }
       | .power d => t.host.cfg = { s.host.cfg with d3 := d }
       | .aerStatus v => t.host.cfg = { s.host.cfg with aer := s.host.cfg.aer &&& ~~~v }
       | .aerMask v => t.host.cfg = { s.host.cfg with aerMask := v }
       | .aerSeverity v => t.host.cfg = { s.host.cfg with aerSev := v }) ∧
      t.flag pageHOSTIF Off.hostif_PCIESTAT 8 = t.host.cfg.busMaster ∧ t.flag pageHOSTIF Off.hostif_PCIESTAT 9 = t.host.cfg.msixEn ∧
      t.flag pageHOSTIF Off.hostif_PCIESTAT 10 = t.host.cfg.fmask ∧
      (∀ v < 8, (s.host.msix.get {} v).pend = true → (s.host.msix.get {} v).masked = false → MsixOut t →
        (t.host.msix.get {} v).pend = false ∧ (t.host.msix.get {} v).sent = (s.host.msix.get {} v).sent + 1) ∧
      (¬ MsixOut t → t.host.msix = s.host.msix) ∧
      (t.host.cfg.busMaster = true → t.host.cfg.d3 = false → t.ring.owed = []) ∧
      (t.host.cfg.busMaster = false ∨ t.host.cfg.d3 = true → t.ring = s.ring ∧ t.hostMem = s.hostMem)) ∧
    (∀ page, Gives (.dmaReadCompletion page .ok) s s) ∧
    (∀ r : DmaResult,
      (s.canFetch = false → Gives (.dmaReadCompletion (BitVec.ofNat 12 pageCMDQ) r) s (timedOut r s)) ∧
      (s.runs pagePRESS 0x40 = false ∨ s.dmaReady = false →
        Gives (.dmaReadCompletion (BitVec.ofNat 12 pagePRESS) r) s (timedOut r s)) ∧
      (s.dmaReady = false → Gives (.dmaReadCompletion (BitVec.ofNat 12 pageRIND) r) s (timedOut r s))) ∧
    (∀ r : DmaResult, r ≠ .ok → s.flag pageHOSTIF Off.hostif_DMAERR 31 = false →
      (let code := if r = .timeout then 0x0E else 0x0D
       (s.canFetch = true → ∃ t, Gives (.dmaReadCompletion (BitVec.ofNat 12 pageCMDQ) r) s t ∧ (t.page pageCMDQ).st = stFAULT ∧
         t.reg pageHOSTIF Off.hostif_DMAERR = BitVec.ofNat 32 (code + pageCMDQ * 2 ^ 8 + 2 ^ 31) ∧ t.flag pageHOSTIF 0x018 16 = true) ∧
       (s.runs pagePRESS 0x40 = true → s.dmaReady = true → ∃ t, Gives (.dmaReadCompletion (BitVec.ofNat 12 pagePRESS) r) s t ∧
         t.reg pageHOSTIF Off.hostif_DMAERR = BitVec.ofNat 32 (code + pagePRESS * 2 ^ 8 + 2 ^ 31) ∧
         t.fld pagePRESS Off.press_LDSTAT 24 8 = code ∧ t.cstore = s.cstore) ∧
       (∀ x, s.running.find? rindReads = some x → s.rind.level = none → s.dmaReady = true → ∃ t,
         Gives (.dmaReadCompletion (BitVec.ofNat 12 pageRIND) r) s t ∧ t.running = s.running.erase x ∧
         t.reg pageHOSTIF Off.hostif_DMAERR = BitVec.ofNat 32 (code + pageRIND * 2 ^ 8 + 2 ^ 31) ∧ t.flag pageHOSTIF 0x018 16 = true)))

namespace Sys2Proof.Claims

/-- A frame is good and is the next one of its port: the port is in use, its partner neither ABSENT nor QUARANTINED, no replay is waited
for, the frame fits the line, a credit stands for it, and its tag is right (R311, R314). -/
structure Arrives (p : Nat) (h : FrameHdr) (l : Payload) (s : State) : Prop where
  on : s.portOn p = true
  state : s.pst p ≠ pABSENT ∧ s.pst p ≠ pQUARANTINED
  replay : (s.idx p).nak = false
  line : s.portUp p = true → s.fitsLine p h = true ∧ (h.fseq = BitVec.ofNat 16 (s.idx p).rxCnt ∨ ∃ c, l = .credit c)
  credit : (s.idx p).owed < 16
  tag : h.tag = s.frameTag p (s.idx p).rxCnt h l

/-- The port has credits and nothing waits for one: a frame leaves at once (R311). -/
def Sends (p : Nat) (s : State) : Prop := (s.idx p).waiting = [] ∧ (s.idx p).cred ≠ 0

end Sys2Proof.Claims

/-- R312 to R315, R319: the partner of a port comes, trains, is lost, falls behind, and is held apart when it errs. Where the chapter
leaves a reading open, it follows the model's: log entry 67. -/
def Obligations.IdxiaPartners : Prop :=
  ∀ (p : Fin 2) (s : State),
    (s.portOn p.val = false ∨ s.pst p.val = pABSENT → Gives (.signalLost p) s s ∧ Gives (.authTimeout p) s s ∧ Gives (.creditTimeout p) s s ∧
      Gives (.crcErrorFrame p) s s ∧ Gives (.malformedFrame p) s s) ∧
    (s.portOn p.val = false ∨ s.pst p.val ≠ pABSENT → Gives (.signalDetected p) s s) ∧
    (s.pst p.val ≠ pTRAINING → Gives (.signalLost p) s s) ∧
    (s.pst p.val ≠ pAUTHENTICATING → Gives (.authTimeout p) s s) ∧
    (s.pst p.val ≠ pUP → s.pst p.val ≠ pDEGRADED → Gives (.creditTimeout p) s s) ∧
    (s.portUp p.val = false → Gives (.deadTimeout p false) s s ∧
      (s.portOn p.val = false ∨ s.pst p.val ≠ pTRAINING → Gives (.deadTimeout p true) s s)) ∧
    (s.portOn p.val = true →
      (s.pst p.val = pABSENT → ∃ t, Gives (.signalDetected p) s t ∧ t.pst p.val = pTRAINING ∧ t.pst (1 - p.val) = s.pst (1 - p.val) ∧
        t.fld (pageIDX p.val) Off.idx_PSTAT 16 8 = if (s.idx p.val).lock then 3 else 1) ∧
      (s.pst p.val = pTRAINING →
        (∃ t, Gives (.signalLost p) s t ∧ t.pst p.val = pABSENT ∧ t.pst (1 - p.val) = s.pst (1 - p.val) ∧ (t.idx p.val).cred = 0) ∧
        (∃ t, Gives (.deadTimeout p true) s t ∧ t.pst p.val = pTRAINING ∧ t.fld (pageIDX p.val) Off.idx_PSTAT 16 8 = 1 ∧
          (t.idx p.val).lock = false)) ∧
      (s.pst p.val = pAUTHENTICATING → ∃ t, Gives (.authTimeout p) s t ∧ t.pst p.val = pTRAINING) ∧
      (s.pst p.val = pUP → ∃ t, Gives (.creditTimeout p) s t ∧ t.pst p.val = pDEGRADED ∧ t.flag (pageIDX p.val) 0x018 20 = true) ∧
      (s.pst p.val = pDEGRADED → Gives (.creditTimeout p) s (s.setIdx p.val { s.idx p.val with good := 0 })) ∧
      (s.pst p.val = pUP ∨ s.pst p.val = pDEGRADED → ∀ lost : Bool, ∃ t, Gives (.deadTimeout p lost) s t ∧ t.pst p.val = pTRAINING ∧
        (t.idx p.val).key = none ∧ (t.idx p.val).unacked.length ≤ 1 ∧ t.flag (pageIDX p.val) 0x018 18 = true ∧
        t.fld (pageIDX p.val) Off.idx_PSTAT 16 8 = if (s.idx p.val).lock && !lost then 3 else 1) ∧
      (s.pst p.val = pUP →
        ((s.idx p.val).crcs < 16 → ∃ t, Gives (.crcErrorFrame p) s t ∧ t.pst p.val = pUP ∧ (t.idx p.val).nak = true ∧
          (t.idx p.val).crcs = (s.idx p.val).crcs + 1 ∧
          t.fld (pageIDX p.val) Off.idx_CRCERR 0 16 = min (s.fld (pageIDX p.val) Off.idx_CRCERR 0 16 + 1) 65535) ∧
        (16 ≤ (s.idx p.val).crcs → ∃ t, Gives (.crcErrorFrame p) s t ∧ t.pst p.val = pTRAINING) ∧
        (∃ t, Gives (.malformedFrame p) s t ∧ t.pst p.val = pQUARANTINED ∧ t.reg (pageIDX p.val) Off.idx_QCAUSE = 1 ∧
          t.fld (pageIDX p.val) Off.idx_MALFORM 0 16 = min (s.fld (pageIDX p.val) Off.idx_MALFORM 0 16 + 1) 65535 ∧
          t.flag (pageIDX p.val) 0x018 19 = true)) ∧
      (s.pst p.val = pTRAINING → ∃ t, Gives (.malformedFrame p) s t ∧ t.pst p.val = pTRAINING ∧
        t.reg (pageIDX p.val) Off.idx_RXFRM = s.reg (pageIDX p.val) Off.idx_RXFRM + 1) ∧
      (s.pst p.val = pQUARANTINED →
        (let t := s.setReg (pageIDX p.val) Off.idx_RXFRM (s.reg (pageIDX p.val) Off.idx_RXFRM + 1)
         Gives (.crcErrorFrame p) s t ∧ Gives (.malformedFrame p) s t)))

/-- R310, R311, R313, R314: HELLO and AUTH bring a partner up or hold it apart; CREDIT returns credits; messages and bounces reach
their role, and more than the limit of a tick hold the partner apart. Where the chapter leaves a reading open, it follows the
model's: log entry 67. -/
def Obligations.IdxiaFrames : Prop :=
  ∀ (p : Fin 2) (h : FrameHdr) (s : State),
    (∀ f : HelloF, Arrives p.val h (.hello f) s → s.pst p.val = pTRAINING → s.helloFits p.val f = true → f.noauth = s.noauth p.val →
      (s.noauth p.val = true → ∃ t, Gives (.hello p h f) s t ∧ t.pst p.val = pUP) ∧
      (s.noauth p.val = false → f.key.toNat = leVal (teamKid s.rind.teamKey) → ∃ t, Gives (.hello p h f) s t ∧
        t.pst p.val = pAUTHENTICATING ∧ (t.idx p.val).nonce = Config.nonce s.rind.draws) ∧
      (s.noauth p.val = false → f.key.toNat ≠ leVal (teamKid s.rind.teamKey) → ∃ t, Gives (.hello p h f) s t ∧
        t.pst p.val = pQUARANTINED ∧ t.reg (pageIDX p.val) Off.idx_QCAUSE = 5)) ∧
    (∀ v : BitVec 64, Arrives p.val h (.auth v) s → s.pst p.val = pAUTHENTICATING →
      ((s.idx p.val).peer = none → ∃ t, Gives (.authFrame p h v) s t ∧ (t.idx p.val).peer = some v ∧ t.pst p.val = pAUTHENTICATING) ∧
      (∀ w, (s.idx p.val).peer = some w →
        (v = s.response p.val (s.partner p.val) → ∃ t, Gives (.authFrame p h v) s t ∧ t.pst p.val = pUP ∧
          (t.idx p.val).key = some (Config.aesCmac s.rind.teamKey (s.authBytes p.val [0xA5]))) ∧
        (v ≠ s.response p.val (s.partner p.val) → ∃ t, Gives (.authFrame p h v) s t ∧ t.pst p.val = pQUARANTINED ∧
          t.reg (pageIDX p.val) Off.idx_QCAUSE = 5))) ∧
    (∀ f : CreditF, Arrives p.val h (.credit f) s → f.nak = false → (s.idx p.val).waiting = [] → s.pst p.val = pUP →
      ∃ t, Gives (.credit p h f) s t ∧ (t.idx p.val).cred = min 16 ((s.idx p.val).cred + f.returned.toNat) ∧
        (t.idx p.val).unacked = (s.idx p.val).unacked.filter (fun u => decide (2 ^ 15 ≤ (f.ack - BitVec.ofNat 16 u.cnt).toNat)) ∧
        (t.idx p.val).rxCnt = (s.idx p.val).rxCnt) ∧
    (∀ addr sender body, Arrives p.val h (.msg addr sender body) s → s.portUp p.val = true →
      ((s.idx p.val).msgs + 1 ≤ s.fld (pageIDX p.val) Off.idx_LCFG 8 8 → h.dst.toNat = s.devnum → ∀ c,
        s.holder (fieldOf addr 8 4) = some c → fieldOf addr 0 8 = s.epoch (fieldOf addr 8 4) → (s.clu c).msgq.length < 32 →
        ∃ t, Gives (.msg p h addr sender body) s t ∧
          (t.clu c).msgq = (s.clu c).msgq ++ [⟨addr, sender, body.getD 0 0, body.getD 1 0⟩] ∧ (t.idx p.val).msgs = (s.idx p.val).msgs + 1 ∧
          (t.idx p.val).rxCnt = (s.idx p.val).rxCnt + 1 ∧ (t.idx p.val).owed = (if h.ackNow then 0 else (s.idx p.val).owed + 1)) ∧
      (s.fld (pageIDX p.val) Off.idx_LCFG 8 8 < (s.idx p.val).msgs + 1 → ∃ t, Gives (.msg p h addr sender body) s t ∧
        t.pst p.val = pQUARANTINED ∧ t.reg (pageIDX p.val) Off.idx_QCAUSE = 2)) ∧
    (∀ (ws : List Word) (r : BitVec 4) (c : Nat), Arrives p.val h (.bounce ws r) s → s.portUp p.val = true → h.dst.toNat = s.devnum →
      s.holder r.toNat = some c → ws.length = 4 →
      (let b := s.bncBase c
       let w := (s.sharedAt c b).toNat % 16
       (BitVec.ofNat 32 ((w + 1) % 16) ≠ s.sharedAt c (b + 4) → ∃ t, Gives (.bounceFrame p h ws r) s t ∧
         t.sharedAt c b = BitVec.ofNat 32 ((w + 1) % 16) ∧ t.flag (pageCL c) 0x018 20 = true ∧
         ∀ i (x : Word), ws[i]? = some x → t.sharedAt c (b + 16 + 16 * w + 4 * i) = x) ∧
       (BitVec.ofNat 32 ((w + 1) % 16) = s.sharedAt c (b + 4) → ∃ t, Gives (.bounceFrame p h ws r) s t ∧
         t.flag (pageCL c) 0x018 21 = true ∧ (t.clu c).shared = (s.clu c).shared)))

/-- R316, R317: TIME frames are answered and measured, a follower slews, and imported wheels take the maps and states that arrive.
Where the chapter leaves a reading open, it follows the model's: log entry 68. -/
def Obligations.IdxiaTimeAndMaps : Prop :=
  (∀ (p : Fin 2) (h : FrameHdr) (f : TimeF) (rx : BitVec 64) (s : State), Arrives p.val h (.time f) s → s.portUp p.val = true →
    (f.reply = false → Sends p.val s → ∃ t g r, Gives (.time p h f rx) s t ∧ (t.idx p.val).last = some g ∧ g.load = .time r ∧
      r.reply = true ∧ r.t1 = f.t1 ∧ r.t2 = rx ∧ r.t3 = BitVec.ofNat 64 (16 * s.now + h.frac.toNat) ∧ g.hdr.dst = h.src) ∧
    (f.reply = true → p = 0 → s.devnum ≠ 0 → s.idx0.t1 = some f.t1.toNat → ∃ t, Gives (.time p h f rx) s t ∧ t.idx0.t1 = none ∧
      t.reg (pageIDX 0) Off.idx_OFFSET = BitVec.ofInt 32 (meanOf (((stampDiff f.t2 f.t1 + stampDiff f.t3 rx) ::
        s.idx0.exch.map (·.1)).take 8)) ∧
      t.idx0.resid = f.resid ∧ t.idx0.lead = f.aligned)) ∧
  (∀ (t1 : BitVec 64) (s : State), s.devnum ≠ 0 → s.portUp 0 = true → Sends 0 s → ∃ t g r, Gives (.timeExchange 0 t1) s t ∧
    t.idx0.t1 = some t1.toNat ∧ t.idx0.last = some g ∧ g.load = .time r ∧ r.reply = false ∧ r.t1 = t1 ∧
    t.idx0.cred = s.idx0.cred - 1) ∧
  (∀ s : State,
    (s.idx0.hold ≠ 0 → Gives .tbSlew s { s with idx0 := { s.idx0 with hold := 0 } }) ∧
    (s.idx0.hold = 0 →
      ((s.pageOn (pageIDX 0) = true ∧ s.devnum = 0) ∨ s.md = mCONFIGURE ∨ s.idx0.rate = 0 ∨ s.tbStopped = true → Gives .tbSlew s s) ∧
      (s.pageOn (pageIDX 0) = false ∨ s.devnum ≠ 0 → s.md ≠ mCONFIGURE → s.idx0.rate ≠ 0 → s.tbStopped = false →
        ∀ u, u = max s.now (s.idx0.slewed + max 1024 (12800 / s.idx0.rate.natAbs)) → Comes (u + 1) s →
          ∃ t, Gives .tbSlew s t ∧ t = { clocked s t with idx0 := t.idx0 } ∧ t.now = (if 0 < s.idx0.rate then u + 1 else u) ∧
            t.idx0 = { s.idx0 with slewed := u, skip := decide (s.idx0.rate < 0) }))) ∧
  (∀ (p : Fin 2) (h : FrameHdr) (f : MapF) (u : Nat) (s : State), Arrives p.val h (.map f) s → s.portUp p.val = true →
    u ∈ s.importers h.src.toNat f.unit.toNat → s.aligned = true → f.aligned = true →
    ∃ t m, Gives (.map p h f) s t ∧ (t.wheel u).impMap = some m ∧ m.tStart = s.near f.bstart.toNat ∧ m.th.length = f.th.length ∧
      m.th.map angWord = f.th ∧ (t.wheel u).impFirst = f.first ∧ (t.wheel u).impJump = f.jump ∧ (t.wheel u).state = f.state.toNat) ∧
  (∀ (p : Fin 2) (h : FrameHdr) (f : StateF) (u : Nat) (s : State), Arrives p.val h (.state f) s → s.portUp p.val = true →
    u ∈ s.importers h.src.toNat f.unit.toNat → ∃ t, Gives (.state p h f) s t ∧
      (t.wheel u).state = (if s.aligned && (s.wheel u).impAligned then f.new.toNat else wSEARCH)) ∧
  (∀ (u : Fin 8) (s : State), s.active (pageWU u.val) = true → s.imports u.val = true →
    (∀ m, (s.wheel u.val).impMap = some m → m.tStart = s.tick.next → Comes (s.tick.bnd + 2 * s.tick.len) s →
      ∃ t, Gives (.importMapDeadline u) s t ∧ t = clocked s t) ∧
    ((s.wheel u.val).impMap = none → (s.wheel u.val).state ≠ wSEARCH → ∃ t, Gives (.importMapDeadline u) s t ∧
      (t.wheel u.val).state = wLOST))

namespace Sys2Proof.Claims

/-- A BOOT has begun out of `s` (R322, R329, R338, R348): the mode is BOOT, the cause is recorded, the non-volatile store and host memory
stand, and everything that runs is gone. -/
structure Boots (cause t0 : Nat) (s t : State) : Prop where
  mode : t.md = mBOOT ∧ t.fld pageSYS Off.sys_MODE 4 3 = s.md
  cause : t.reg pagePWR Off.pwr_RESETCAUSE = BitVec.ofNat 32 cause
  time : t.now = t0
  store : t.rind = bootRind s.rind ∧ t.hostMem = s.hostMem ∧ t.pending = s.pending
  stored : ∀ o : Fin 4096, rindStored o.val = true → t.reg pageRIND o.val = s.reg pageRIND o.val
  work : t.running = [] ∧ t.groups = [] ∧ t.shadow = [] ∧ t.engs = [] ∧ t.clus = [] ∧ t.msgs = [] ∧ t.cstore = [] ∧ t.wheels = [] ∧
    t.maps = [] ∧ t.pwms = [] ∧ t.adcs = [] ∧ t.smem = [] ∧ t.pages = [] ∧ t.dom = [] ∧ t.host = {} ∧ t.ring = {}

/-- A fatal fault has been detected (R325): SAFE is due, source 0x000 is raised, no pin follows its source, and SAFECAUSE holds the
first fault; an ALARM of the kind waits, with the cause in word 6 if it is the first of its kind. -/
structure Fatal (cause page : Nat) (s t : State) : Prop where
  first : s.mode.safeDue = false → t.reg pageSYS Off.sys_SAFECAUSE = BitVec.ofNat 32 (cause + page * 2 ^ 16)
  later : s.mode.safeDue = true → t.reg pageSYS Off.sys_SAFECAUSE = s.reg pageSYS Off.sys_SAFECAUSE
  due : t.mode.safeDue = true
  source : 0x000 ∈ t.iu.flight
  pins : ∀ n, (t.chan n).follow = false
  pwm : t.pwmPins = []
  alarm : ∃ a ∈ t.whey.alarms, a.kind = 0x007 ∧ a.origin = originOf pageSYS ∧
    (s.whey.alarms = [] → a.body = [BitVec.ofNat 32 cause])

end Sys2Proof.Claims

/-- R329, R330, R338, R343, R348, R371, R381, R382, R395: a power-on reset, a low pulse on RESET#, and a brown-out start a BOOT from any
mode, with their cause; the always-on domain keeps its registers down to 2.5 V; after a fault of its rail RESET# alone recovers the device.
The BOOT sequence ends with BOOTSTAT and the rows that its memory test has found, and a failed part of it in SAFE with cause 0x08. Where
the chapters leave a reading open, it follows the model's: log entries 51, 70 and 71. -/
def Obligations.ResetsAndBootEnd : Prop :=
  (∀ s, ∃ t, Gives .powerOnReset s t ∧ Boots 1 0 s t) ∧
  (∀ (ns : Nat) (taken : Bool) (s : State),
    let low : Prop := 1000 ≤ ns ∨ (200 ≤ ns ∧ taken = true)
    (low → s.mode.brown = false → s.mode.aonFault = false → ∃ t, Gives (.resetPin ns taken) s t ∧ Boots 2 0 s t) ∧
    (low → s.mode.aonFault = true → ∃ t, Gives (.resetPin ns taken) s t ∧ Boots 2 0 (beforeBrown s) t ∧ t.mode.brown = false ∧
      t.mode.aonFault = false) ∧
    (¬ low ∨ (s.mode.brown = true ∧ s.mode.aonFault = false) → Gives (.resetPin ns taken) s s)) ∧
  (∀ (mv : Nat) (s : State),
    let kept : List Word := [s.reg pagePWR Off.pwr_WAKETMR, s.reg pagePWR Off.pwr_WAKESRC, s.reg pageTB Off.tb_SLOWCFG,
      s.reg pageTB Off.tb_SLOWRATIO]
    (s.mode.brown = false → mv < 4200 → ∃ t, Gives (.brownOut mv) s t ∧ Boots 16 0 s t ∧ t.mode.brown = true ∧ t.tbStopped = true ∧
      t.mode.aon.map (·.2) = (if mv < 2500 then [] else kept)) ∧
    (s.mode.brown = true → mv < 2500 → Gives (.brownOut mv) s { s with mode := { s.mode with aon := [] } }) ∧
    (4200 ≤ mv → Gives (.brownOut mv) s s) ∧
    (s.mode.brown = true → s.mode.aonFault = false → 5700 < mv → ∃ t, Gives (.supplyReturn mv) s t ∧ Boots 16 0 (beforeBrown s) t ∧
      t.mode.brown = false ∧ t.tbStopped = false ∧
      ∀ a b c d, s.mode.aon = [(adr pagePWR Off.pwr_WAKETMR, a), (adr pagePWR Off.pwr_WAKESRC, b), (adr pageTB Off.tb_SLOWCFG, c),
          (adr pageTB Off.tb_SLOWRATIO, d)] →
        t.reg pagePWR Off.pwr_WAKETMR = a ∧ t.reg pagePWR Off.pwr_WAKESRC = b ∧ t.reg pageTB Off.tb_SLOWCFG = c ∧
        t.reg pageTB Off.tb_SLOWRATIO = d) ∧
    (s.mode.brown = true → mv ≤ 5700 ∨ s.mode.aonFault = true → Gives (.supplyReturn mv) s s)) ∧
  (∀ (r : BootResult) (s : State), s.md = mBOOT → s.mode.cfgDue = false → s.mode.brown = false → s.level ≠ lvSEALED →
    (∀ u, s.rind.undo = some u → u.old = none ∧ ∀ v ∈ u.regs, v.1 ∈ limitedRegs) → Comes (s.modeClock + 11200000) s →
    ∃ t, Gives (.bootDone r) s t ∧ t.mode.cfgDue = true ∧ t.portOpen = true ∧ t.md = mBOOT ∧ s.modeClock + 11200000 ≤ t.now ∧
      t.flag pageSYS Off.sys_BOOTSTAT 0 = true ∧ t.flag pageSYS Off.sys_BOOTSTAT 2 = false ∧
      t.fld pageSYS Off.sys_BOOTSTAT 8 8 = min (basePages.countP (fun p => (t.page p).st == stFAULT && !fatalPage p)) 255 ∧
      (∀ p ∈ r.failed, p.toNat ∈ basePages → (t.page p.toNat).st = stFAULT) ∧
      (∀ d a, r.rows = [(d, a)] → rowOf d.val a.toNat ∉ s.press.due →
        (let x := rowOf d.val a.toNat
         0x00E ∈ t.iu.flight ∧
         (s.press.spares.get 0 (x / 512) < 4 → t.press.spares.get 0 (x / 512) = s.press.spares.get 0 (x / 512) + 1) ∧
         (4 ≤ s.press.spares.get 0 (x / 512) → t.press.spares = s.press.spares ∧
           (¬ (16 ≤ d.val ∧ d.val < 32) → ∀ p ∈ domainBases d.val, (t.page p).st = stFAULT)))) ∧
      (r.rindOk = false → Fatal 0x08 pageRIND s t) ∧
      (r.rindOk = true → r.coreOk = false → Fatal 0x08 0 s t) ∧
      (r.rindOk = true → r.coreOk = true →
        (∀ p ∈ r.failed, p.toNat ∈ basePages → fatalPage p.toNat = true → (∀ q ∈ r.failed, fatalPage q.toNat = true → q = p) →
          Fatal 0x08 p.toNat s t) ∧
        ((∀ p ∈ r.failed, fatalPage p.toNat = false) → r.rows = [] → t.mode.safeDue = s.mode.safeDue))) ∧
  (∀ (r : BootResult) (s : State), s.md ≠ mBOOT ∨ s.mode.cfgDue = true ∨ s.mode.brown = true → Gives (.bootDone r) s s)

/-- R3, R325, R326, R336, R339, R343, R344: the supply, the temperature, the engine clock and the host watchdog, and the wake
sources. Where the chapter leaves a reading open, it follows the model's: log entries 71 and 72. -/
def Obligations.SupplyClockAndWake : Prop :=
  (∀ (mv : Nat) (s : State), s.md = mDORMANT ∨ s.mode.brown = true → Gives (.supplyExcursion mv) s s) ∧
  (∀ (mv : Nat) (s : State), s.md ≠ mDORMANT → s.mode.brown = false →
    (60000 < mv → s.mode.exc ≠ 2 → s.mode.exc ≠ 4 →
      ∃ t, Gives (.supplyExcursion mv) s t ∧ t.mode.exc = 2 ∧ t.mode.excTb = s.now ∧ t.flag pagePWR 0x018 18 = true ∧
      t.fld pagePWR Off.pwr_SUPEVT 8 8 = min (s.fld pagePWR Off.pwr_SUPEVT 8 8 + 1) 255 ∧ t.md = s.md) ∧
    (4200 ≤ mv → mv < 6000 → s.mode.exc ≠ 1 → s.mode.exc ≠ 3 → ∃ t, Gives (.supplyExcursion mv) s t ∧ t.mode.exc = 1 ∧ t.mode.excTb = s.now ∧
      t.flag pagePWR 0x018 17 = true ∧ t.fld pagePWR Off.pwr_SUPEVT 0 8 = min (s.fld pagePWR Off.pwr_SUPEVT 0 8 + 1) 255 ∧ t.md = s.md)) ∧
  (∀ (mv : Nat) (s : State), s.md ≠ mDORMANT → s.mode.brown = false → 6000 ≤ mv → mv ≤ 60000 →
    ∃ t, Gives (.supplyReturn mv) s t ∧ t.mode.exc = 0 ∧ t.fld pagePWR Off.pwr_SUPSTAT 0 13 = mv / 10 ∧
      t = { s with regs := t.regs, mode := t.mode }) ∧
  (∀ s : State, (s.mode.exc ≠ 1 ∨ s.md = mDORMANT → Gives .undervoltageTimeout s s) ∧ (s.mode.exc ≠ 2 ∨ s.md = mDORMANT →
    Gives .overvoltageTimeout s s)) ∧
  (∀ s : State, s.md ≠ mDORMANT → s.md ≠ mSAFE →
    (s.mode.exc = 1 → Comes (s.mode.excTb + 40000000) s → ∃ t, Gives .undervoltageTimeout s t ∧ Fatal 0x03 0 s t ∧
      s.mode.excTb + 40000000 ≤ t.now) ∧
    (s.mode.exc = 2 → Comes (s.mode.excTb + 320000000) s → ∃ t, Gives .overvoltageTimeout s t ∧ Fatal 0x04 0 s t ∧
      s.mode.excTb + 320000000 ≤ t.now)) ∧
  (∀ (v : BitVec 16) (s : State), s.md ≠ mDORMANT →
    (∃ t, Gives (.tempwarn v) s t ∧ t.fld pagePWR Off.pwr_TEMP 0 16 = v.toNat ∧
      (BitVec.ofNat 16 (t.fld pagePWR Off.pwr_TEMP 16 16)).toInt = max (BitVec.ofNat 16 (s.fld pagePWR Off.pwr_TEMP 16 16)).toInt v.toInt ∧
      (t.flag pagePWR 0x018 19 = true ↔ s.flag pagePWR 0x018 19 = true ∨ (16 * s.fld pagePWR Off.pwr_TEMPCFG 0 8 : Nat) < v.toInt) ∧
      t.mode = s.mode) ∧
    (s.md ≠ mSAFE → (16 * (if Config.gradeMx then 170 else 155) : Int) < v.toInt →
      ∃ t, Gives (.junctionOvertemp v) s t ∧ Fatal 0x05 0 s t)) ∧
  (∀ s : State, ∃ t, Gives .hottimeMinute s t ∧
    (Config.gradeMx = true → (t.reg pagePWR Off.pwr_HOTTIME).toNat = min ((s.reg pagePWR Off.pwr_HOTTIME).toNat + 1) (2 ^ 32 - 1)) ∧
    (Config.gradeMx = false → t = s) ∧ t = { s with regs := t.regs, fresh := t.fresh }) ∧
  (∀ s : State, s.md = mDORMANT → Gives .engineClockLoss s s ∧ ∀ v, Gives (.tempwarn v) s s ∧ Gives (.junctionOvertemp v) s s) ∧
  (∀ s : State, (s.mode.clockLost = true → Gives .engineClockLoss s s) ∧ (s.mode.clockLost = false → Gives .engineClockReturn s s)) ∧
  (∀ s : State, s.md ≠ mDORMANT →
    (s.mode.clockLost = false → s.md ≠ mSAFE → ∃ t, Gives .engineClockLoss s t ∧ t.md = mSAFE ∧ t.mode.clockLost = true ∧
      (s.mode.safeDue = false → t.reg pageSYS Off.sys_SAFECAUSE = 2) ∧ t.flag pagePINMUX1 Off.pinmuxX_FORCESTAT 1 = true ∧
      (∀ n, (t.chan n).follow = false) ∧ t.pwmPins = []) ∧
    (s.mode.clockLost = true → s.tick.per ≠ 0 → ∃ t, Gives .engineClockReturn s t ∧ t.mode.clockLost = false ∧ t.md = s.md ∧ s.now < t.tick.next)) ∧
  (∀ s : State, s.serving = true → s.fld pageSYS Off.sys_HOSTWD 0 16 ≠ 0 →
    (s.fld pageSYS Off.sys_HOSTWD 0 16 ≤ s.mode.wd → ∃ t, Gives .hostWatchdogExpiry s t ∧ Fatal 0x06 0 s t) ∧
    (s.mode.wd < s.fld pageSYS Off.sys_HOSTWD 0 16 → Gives .hostWatchdogExpiry s s)) ∧
  (∀ s : State, s.md = mDORMANT →
    (s.flag pagePWR Off.pwr_WAKESRC 1 = true → s.tbStopped = true → s.reg pagePWR Off.pwr_WAKETMR ≠ 0 →
      ∃ t, Gives .wakeTimer s t ∧ t = { s with mode := { s.mode with wake := t.mode.wake } } ∧ bitOf t.mode.wake 1 = true) ∧
    (s.flag pagePWR Off.pwr_WAKESRC 2 = true →
      ∃ t, Gives .spiWake s t ∧ t = { s with mode := { s.mode with wake := t.mode.wake } } ∧ bitOf t.mode.wake 2 = true) ∧
    (s.flag pagePWR Off.pwr_WAKESRC 1 = false → Gives .wakeTimer s s) ∧ (s.flag pagePWR Off.pwr_WAKESRC 2 = false → Gives .spiWake s s)) ∧
  (∀ s : State, s.md ≠ mDORMANT → Gives .wakeTimer s s ∧ Gives .spiWake s s) ∧
  (∀ s : State, s.serving = false → Gives .hostWatchdogExpiry s s)

/-- R208, R341, R342, R370, R379, R381, R382: power leaves a domain under DOM_OFF; the rejoin work ends, with the memory rows that its test
finds bad and those that wait for a spare row; a rail fails; a checker of a pair fails its self-test. Where the chapters leave a reading
open, it follows the model's: log entries 51 and 79. -/
def Obligations.DomainEvents : Prop :=
  (∀ (d : Fin 92) (r : Running) (s : State), s.domRun d.val = some r → r.code = 0x40 → r.data.getD 1 0 = 1 →
    ∃ t, Gives (.domainPowerOff d) s t ∧ (t.dom.get {} d.val).st = 1 ∧ t.flag pagePWR 0x018 1 = true ∧
      (d.val = 86 → t.smem = [])) ∧
  (∀ (d : Fin 92) (s : State), s.domRun d.val = none → Gives (.domainPowerOff d) s s) ∧
  (∀ (d : Fin 92) (x : RejoinResult) (s : State),
    let l := leadDomain d.val
    let k := s.dom.get {} l
    let rows := s.rowsDue l ++ (x.rows.map (fun a => rowOf l a.toNat)).filter (fun r => !(s.rowsDue l).contains r)
    let reported (t : State) : Prop := ∀ p ∈ domainBlocks l, ∃ a ∈ t.whey.alarms, a.kind = 0x015 ∧ a.origin = originOf p
    (k.st ≠ 4 ∨ k.worked = true → Gives (.rejoinWorkEnd d x) s s) ∧
    (k.st = 4 → k.worked = false → Comes (k.since + rejoinTime l) s →
      (x.ok = true → rows = [] → ∃ t, Gives (.rejoinWorkEnd d x) s t ∧ (t.dom.get {} l).worked = true ∧ (t.dom.get {} l).st = 4 ∧
        k.since + rejoinTime l ≤ t.now ∧ t = { clocked s t with dom := t.dom }) ∧
      (∀ r, x.ok = true → rows = [r] →
        (s.press.spares.get 0 (r / 512) < 4 → ∃ t, Gives (.rejoinWorkEnd d x) s t ∧ (t.dom.get {} l).worked = true ∧ r ∉ t.press.due ∧
          t.press.errs.get 0 r = 0 ∧ t.press.spares.get 0 (r / 512) = s.press.spares.get 0 (r / 512) + 1 ∧
          (r ∉ s.press.due → 0x00E ∈ t.iu.flight)) ∧
        (4 ≤ s.press.spares.get 0 (r / 512) → ∃ t, Gives (.rejoinWorkEnd d x) s t ∧ t.press = s.press ∧ 0x00E ∈ t.iu.flight ∧
          (16 ≤ rowDomain r ∧ rowDomain r < 32 → (t.dom.get {} l).worked = true) ∧
          (¬ (16 ≤ rowDomain r ∧ rowDomain r < 32) → (t.dom.get {} l).st = 1 ∧ reported t))) ∧
      (x.ok = false → ∃ t, Gives (.rejoinWorkEnd d x) s t ∧ (t.dom.get {} l).st = 1 ∧ reported t))) ∧
  (∀ (d : Fin 92) (s : State),
    let l := leadDomain d.val
    (d.val ≠ 91 → s.md = mDORMANT ∨ s.mode.brown = true ∨ s.dst l = 1 → Gives (.domainRailFault d) s s) ∧
    (s.md ≠ mDORMANT → s.mode.brown = false → s.dst l ≠ 1 →
      (d.val ≠ 89 → d.val ≠ 90 → d.val ≠ 91 → ∃ t, Gives (.domainRailFault d) s t ∧ (t.dom.get {} l).st = 2 ∧
        (s.dst l ≠ 2 → t.flag pagePWR 0x018 16 = true) ∧
        (s.dst l ≠ 0 → ∀ r, s.domRun d.val = some r → { r with data := [r.data.headD 0, 0] } ∈ t.running)) ∧
      (d.val = 89 → s.md ≠ mSAFE → ∃ t, Gives (.domainRailFault d) s t ∧ Fatal 0x0A 0 s t) ∧
      (d.val = 90 → s.md ≠ mSAFE → ∃ t, Gives (.domainRailFault d) s t ∧ Fatal 0x09 pageRIND s t ∧ (t.dom.get {} 90).st = 2)) ∧
    (d.val = 91 → (s.mode.brown = true → Gives (.domainRailFault d) s s) ∧
      (s.mode.brown = false → ∃ t, Gives (.domainRailFault d) s t ∧ Boots 16 0 s t ∧ t.mode.brown = true ∧ t.mode.aonFault = true))) ∧
  (∀ (c : Fin 16) (i : Fin 4) (s : State), s.active (pageCL c.val) = true → s.pairState c.val i.val = 1 →
    Comes (s.tick.bnd + 2 * (s.tick.len - 32)) s →
    ∃ t, Gives (.comparatorSelftest [(c, i)]) s t ∧ t.pairState c.val i.val = 2 ∧ (t.clu c.val).testFail = true ∧
      t.fld (pageCL c.val) Off.cl_PAIRSTAT (4 * i.val + 2) 2 = 1 ∧ t.flag (pageCL c.val) 0x018 19 = true ∧
      0x020 + c.val ∈ t.iu.flight ∧ s.tick.bnd + 2 * (s.tick.len - 32) ≤ t.now) ∧
  (∀ s : State, (∀ c, (s.clu c).testFail = false) → s.tick.bnd + 2 * (s.tick.len - 32) ≤ s.now →
    (∀ c, s.active (pageCL c) = true → s.flag (pageCL c) Off.cl_ROLECFG 8 = true ∨ s.holder (s.role c) ≠ none) →
    Gives (.comparatorSelftest []) s s)

/-- R352 to R354, R357, R358, R364: a lockout ends; Rind verifies the package of a SEAL and the tokens of UNSEAL and CHG_AUTH, and
the nonce is spent; READOUT ends with its report in host memory. Where the chapter leaves a reading open, it follows the model's:
log entries 9 and 77. -/
def Obligations.RindEvents : Prop :=
  (∀ (k : Slot) (s : State), Comes (s.lockEnd k) s →
    ∃ t, Gives (.authLockoutExpiry k) s t ∧ t.lockEnd k = 0 ∧ s.lockEnd k ≤ t.now ∧
      t = { clocked s t with rind := t.rind } ∧
      t.fails k = s.fails k) ∧
  (∀ (bs : List Byte) (s : State), s.host.linkUp = false ∨ s.dmaReady = false →
    Gives (.sealVerifyEnd bs) s s ∧ Gives (.tokenVerifyEnd bs) s s) ∧
  (∀ (bs : List Byte) (r : Running) (s : State), s.running = [r] → r.req.page.toNat = pageRIND → s.rind.level = none →
    s.host.linkUp = true → s.dmaReady = true →
    (r.code = 0x45 →
      ((∀ c ∈ sealChecks bs (readPkg bs) s, c.2 = false) → Gives (.sealVerifyEnd bs) s { s with rind := { s.rind with
        sealing := some (readPkg bs), terr := s.terrNow, level := some ⟨0x45, lvSEALED⟩ } }) ∧
      (∀ e n, (sealChecks bs (readPkg bs) s).find? (·.2) = some (e, n) → ∃ t, Gives (.sealVerifyEnd bs) s t ∧ t.level = s.level ∧
        t.running = [] ∧ t.rind.level = none ∧ t.rind.sealing = none ∧ t.flag pageRIND 0x018 1 = true)) ∧
    (r.code = 0x46 →
      (tokenOk bs false s = true → ∃ t, Gives (.tokenVerifyEnd bs) s t ∧ t.nonceOf .host = 0 ∧ t.running = [r] ∧
        t.rind.level = some ⟨0x46, lvTEAM⟩) ∧
      (tokenOk bs false s = false → ∃ t, Gives (.tokenVerifyEnd bs) s t ∧ t.nonceOf .host = 0 ∧ t.running = [] ∧ t.level = s.level ∧
        t.rind.level = none ∧ t.flag pageRIND 0x018 1 = true)) ∧
    (r.code = 0x47 →
      (tokenOk bs true s = true → ∃ t, Gives (.tokenVerifyEnd bs) s t ∧ t.nonceOf .host = 0 ∧ t.running = [] ∧
        t.reg pageRIND Off.rind_CHGAUTH = BitVec.ofNat 32 (bs.getD 1 0).toNat ∧
        t.rind.authHash = some (BitVec.ofNat 256 (beVal (sliceOf bs 24 32)))) ∧
      (tokenOk bs true s = false → ∃ t, Gives (.tokenVerifyEnd bs) s t ∧ t.nonceOf .host = 0 ∧ t.running = [] ∧
        t.rind.authHash = s.rind.authHash ∧ t.reg pageRIND Off.rind_CHGAUTH = s.reg pageRIND Off.rind_CHGAUTH)) ∧
    (r.code = 0x48 → r.slot = false → ∃ t, Gives .readoutComplete s t ∧
      t.running = [] ∧ t.flag pageRIND 0x018 1 = true ∧ (report s).length = 512 ∧
      t.hostMem = s.hostMem.setWords (s.reg64 pageRIND Off.rind_PKGADR_LO Off.rind_PKGADR_HI) (wordsOf (report s))))

/-- Every command runs from the front of the queue: the step takes it away and runs it on what stands behind it. -/
def Obligations.StepRunsFront : Prop :=
  ∀ (c : Instr) (s : State), Machine.step { s with pending := c :: s.pending } = exec c s

/-- The model's choice (log entry 1): with no command waiting, a step is one clock of the time base, which counts in 1.25 ns while it is
not stopped (R59) and its clock runs (R399); a follower's hold and omitted increment are clocks in which it does not count (R316). -/
def Obligations.IdleStep : Prop :=
  ∀ s : State, s.pending = [] → ∃ t, Machine.step s = .next t ∧ t.pending = [] ∧
    (s.tbStopped = true ∨ s.mode.clockLost = true → t = s) ∧
    (s.tbStopped = false → s.mode.clockLost = false →
      (s.idx0.hold ≠ 0 → t.now = s.now ∧ t.idx0 = { s.idx0 with hold := s.idx0.hold - 1 }) ∧
      (s.idx0.hold = 0 → s.idx0.skip = true → t.now = s.now ∧ t.idx0 = { s.idx0 with skip := false }) ∧
      (s.idx0.hold = 0 → s.idx0.skip = false → t.now = s.now + 1 ∧
        (s.tb = BitVec.allOnes 64 → t.tb = 0 ∧ t.flag pageTB 0x018 20 = true)))

/-- What the field tables give at the end of BOOT: CONFIGURE, the default tick, the TB ratio, the budgets, the block states, and nothing
that runs or waits. Where the chapter leaves a reading open, it follows the model's: log entries 3, 4 and 6. -/
def Obligations.ResetValues : Prop :=
  let z := State.reset
  z.pending = [] ∧ z.running = [] ∧ z.shadow = [] ∧ z.groups = [] ∧ z.md = mCONFIGURE ∧ z.reg pageSYS Off.sys_LIMPCAUSE = 0 ∧
  z.reg pageSYS Off.sys_SAFECAUSE = 0 ∧ z.flag pageSYS Off.sys_BOOTSTAT 0 = true ∧ z.reg pagePWR Off.pwr_TEMPCFG = 140 ∧
  z.reg pagePWR Off.pwr_WAKESRC = 1 ∧ z.reg pagePWR Off.pwr_SUPSTAT = 0 ∧ z.reg pagePWR Off.pwr_SUPEVT = 0 ∧
  z.reg pageTB Off.tb_TICKCFG = 2000 ∧ z.reg pageTB Off.tb_TICKPHASE = 0 ∧ z.reg pageTB Off.tb_SLOWRATIO = 0 ∧
  z.flag pageTB Off.tb_SLOWSTAT 0 = false ∧ z.reg pageRIND Off.rind_BUDGET = 0x04102008 ∧
  z.fld pageTB Off.tb_SLOWCFG 16 16 = 50 ∧ z.reg (pageWU 7) Off.wu_GAPCFG = 0x48002000 ∧ z.reg (pageWU 0) Off.wu_SYNCCFG = 0x4525 ∧
  z.reg (pagePWM 9) 0x044 = 0x0F9F ∧ z.reg (pageCL 0) Off.cl_PAIRCFG = 0 ∧ z.reg (pageETH 1) 0x040 = 0x61 ∧
  (∀ p ∈ [pageSYS, pagePWR, pageRIND, pageHOSTIF, pageTB, pageIU, pageTRIP, pagePINMUX, pagePRESS, pageWHEY, pageDBG],
    z.st p = stACTIVE) ∧
  (∀ i : Fin 8, z.st (pageWU i.val) = stIDLE) ∧ (∀ i : Fin 16, z.st (pageCL i.val) = stIDLE) ∧ (∀ i : Fin 10, z.st (pagePWM i.val) = stIDLE) ∧
  z.st (pageADC 4) = stSPARE ∧ (∀ d : Fin 92, z.dst d.val = 0) ∧ (∀ r : Fin 16, z.epoch r.val = 0) ∧ (∀ n : Fin 160, z.pinDrive n.val = none)

/-- Reset leaves every byte memory of the block in canonical form: host memory, sample memory, the Whey buffer, the local memory of every
engine and the shared memory of every cluster. It leaves every queue within its bounds too. -/
def Obligations.ResetMemoryOk : Prop := State.reset.memOk = true ∧ State.reset.queuesOk = true

/-- No command stops the block, whatever state it is in, and none disturbs the memories or the queue behind it: from every state whose
memories are in canonical form (host memory, sample memory, the Whey buffer, every engine's local and every cluster's shared memory), a
step answers a next state whose memories are in canonical form and whose queue has lost its front. And from every state whose queues are
within their bounds a step answers one in which they are: compare and capture queues 4 (R4), call stacks 4 (R134), message queues 32 and
outbound buffers 8 (R176), event-completion queues 256 (R174), machine-check logs 8 (R190). -/
def Obligations.StepKeepsMemory : Prop :=
  (∀ s : State, s.memOk = true → ∃ t, Machine.step s = .next t ∧ t.memOk = true ∧ t.pending = s.pending.tail) ∧
  (∀ s : State, s.queuesOk = true → ∃ t, Machine.step s = .next t ∧ t.queuesOk = true)
end

