-- ==== Sys2Proof/Laws/Bits.lean ====
section
/-! SUPPORT. Fields of registers: what a field reads as after a field was written; and what a sorted list holds. -/

namespace Sys2Proof.Machine

theorem testBit_bitsOf (x lo len i : Nat) : (bitsOf x lo len).testBit i = (decide (i < len) && x.testBit (lo + i)) := by
  simp only [bitsOf, Nat.testBit_mod_two_pow, Nat.testBit_div_two_pow]
  rw [Nat.add_comm]

theorem putBits_eq (x lo len v : Nat) :
    putBits x lo len v = 2 ^ lo * (2 ^ len * (x / 2 ^ lo / 2 ^ len) + v % 2 ^ len) + x % 2 ^ lo := by
  have h1 := Nat.div_add_mod x (2 ^ lo)
  have h2 := Nat.div_add_mod (x / 2 ^ lo) (2 ^ len)
  have h3 : x = 2 ^ lo * (2 ^ len * (x / 2 ^ lo / 2 ^ len) + bitsOf x lo len) + x % 2 ^ lo := by
    rw [bitsOf, h2, h1]
  have h4 : x - bitsOf x lo len * 2 ^ lo = 2 ^ lo * (2 ^ len * (x / 2 ^ lo / 2 ^ len)) + x % 2 ^ lo := by
    rw [Nat.mul_add] at h3
    have : bitsOf x lo len * 2 ^ lo = 2 ^ lo * bitsOf x lo len := Nat.mul_comm _ _
    omega
  rw [putBits, h4, Nat.mul_add, Nat.mul_comm (v % 2 ^ len)]
  omega

theorem testBit_putBits (x lo len v i : Nat) :
    (putBits x lo len v).testBit i = if lo ≤ i ∧ i < lo + len then v.testBit (i - lo) else x.testBit i := by
  rw [putBits_eq, Nat.testBit_two_pow_mul_add _ (Nat.mod_lt _ (by positivity))]
  by_cases h : i < lo
  · rw [if_pos h, if_neg (by omega), Nat.testBit_mod_two_pow]; simp [h]
  · rw [if_neg h, Nat.testBit_two_pow_mul_add _ (Nat.mod_lt _ (by positivity))]
    by_cases h2 : i - lo < len
    · rw [if_pos h2, if_pos (by omega), Nat.testBit_mod_two_pow]; simp [h2]
    · rw [if_neg h2, if_neg (by omega), Nat.testBit_div_two_pow, Nat.testBit_div_two_pow]
      congr 1; omega

/-- A field that was written reads as what was written; a disjoint one reads as before. -/
theorem fieldOf_withField {w : Word} {lo len v lo' len' : Nat} (h : lo' + len' ≤ 32) :
    fieldOf (withField w lo len v) lo' len' = bitsOf (putBits w.toNat lo len v) lo' len' := by
  apply Nat.eq_of_testBit_eq
  intro i
  simp only [fieldOf, withField, testBit_bitsOf, BitVec.toNat_ofNat, Nat.testBit_mod_two_pow]
  by_cases hi : i < len'
  · simp [hi, show lo' + i < 32 by omega]
  · simp [hi]

theorem fieldOf_withField_self {w : Word} {lo len v : Nat} (h : lo + len ≤ 32) : fieldOf (withField w lo len v) lo len = v % 2 ^ len := by
  rw [fieldOf_withField h]
  apply Nat.eq_of_testBit_eq
  intro i
  rw [testBit_bitsOf, testBit_putBits, Nat.testBit_mod_two_pow]
  by_cases hi : i < len
  · simp [hi]
  · simp [hi]

theorem fieldOf_withField_other {w : Word} {lo len v lo' len' : Nat} (h : lo' + len' ≤ 32) (hd : lo' + len' ≤ lo ∨ lo + len ≤ lo') :
    fieldOf (withField w lo len v) lo' len' = fieldOf w lo' len' := by
  rw [fieldOf_withField h]
  apply Nat.eq_of_testBit_eq
  intro i
  rw [fieldOf, testBit_bitsOf, testBit_putBits, testBit_bitsOf]
  by_cases hi : i < len'
  · rw [if_neg (by omega)]
  · simp [hi]

/-- A bit that was set reads 1. -/
theorem fieldOf_setBit_self {w : Word} {i : Nat} (h : i < 32) : fieldOf (setBit w i) i 1 = 1 := by
  have h2 : (setBit w i).toNat.testBit i = true := by
    have : (2 ^ i % 2 ^ 32).testBit i = true := by rw [Nat.testBit_mod_two_pow, Nat.testBit_two_pow_self]; simp [h]
    simp only [setBit, BitVec.toNat_or, BitVec.toNat_ofNat, Nat.testBit_or, this, Bool.or_true]
  simpa [fieldOf, bitsOf, Nat.testBit, Nat.shiftRight_eq_div_pow, Nat.and_one_is_mod] using h2

/-! ### Sorting -/

@[simp] theorem mem_insertBy {α : Type} {before : α → α → Bool} {x y : α} {l : List α} :
    y ∈ insertBy before x l ↔ y = x ∨ y ∈ l := by
  induction l with
  | nil => simp [insertBy]
  | cons z t ih => rw [insertBy]; split <;> simp [ih]; tauto

@[simp] theorem mem_sortBy {α : Type} {before : α → α → Bool} {y : α} {l : List α} : y ∈ sortBy before l ↔ y ∈ l := by
  suffices h : ∀ m, y ∈ l.foldl (fun m x => insertBy before x m) m ↔ y ∈ m ∨ y ∈ l by simpa [sortBy] using h []
  induction l with
  | nil => simp
  | cons z t ih => intro m; simp [ih]; tauto

end Sys2Proof.Machine
end

