-- ==== Sys2Proof/Laws/Memory.lean ====
section
/-! SUPPORT. Stores and memories: reading after writing, and that every operation keeps the canonical form. -/

namespace Sys2Proof.Machine

/-! ### Stores and memories keep their canonical form -/

theorem Store.sortedFrom_mono {α : Type} {m : Store α} {a b : Nat} (h : a ≤ b) (hs : Store.sortedFrom b m = true) :
    Store.sortedFrom a m = true := by
  cases m with
  | nil => rfl
  | cons e t => simp only [Store.sortedFrom, Bool.and_eq_true, decide_eq_true_eq] at *; exact ⟨by omega, hs.2⟩

theorem Store.erase_sorted {α : Type} (m : Store α) (a k : Nat) (hs : Store.sortedFrom a m = true) :
    Store.sortedFrom a (m.erase k) = true := by
  induction m generalizing a with
  | nil => rfl
  | cons e t ih =>
    simp only [Store.sortedFrom, Bool.and_eq_true, decide_eq_true_eq] at hs
    simp only [Store.erase]
    split
    · exact Store.sortedFrom_mono (by omega) (ih _ hs.2)
    · simp only [Store.sortedFrom, Bool.and_eq_true, decide_eq_true_eq]; exact ⟨hs.1, ih _ hs.2⟩

theorem Store.erase_has {α : Type} (m : Store α) (k : Nat) : Store.has (m.erase k) k = false := by
  induction m with
  | nil => rfl
  | cons e t ih =>
    simp only [Store.erase]
    split
    · exact ih
    · simp_all [Store.has]

theorem Store.insert_sorted {α : Type} (m : Store α) (a k : Nat) (v : α) (ha : a ≤ k) (hs : Store.sortedFrom a m = true)
    (hk : Store.has m k = false) : Store.sortedFrom a (m.insert k v) = true := by
  induction m generalizing a with
  | nil => simp [Store.insert, Store.sortedFrom, ha]
  | cons e t ih =>
    simp only [Store.sortedFrom, Bool.and_eq_true, decide_eq_true_eq] at hs
    simp only [Store.has, Bool.or_eq_false_iff, beq_eq_false_iff_ne] at hk
    simp only [Store.insert]
    split
    · simp only [Store.sortedFrom, Bool.and_eq_true, decide_eq_true_eq]; exact ⟨ha, by omega, hs.2⟩
    · simp only [Store.sortedFrom, Bool.and_eq_true, decide_eq_true_eq]; exact ⟨hs.1, ih _ (by omega) hs.2 hk.2⟩

theorem Store.erase_all {α : Type} (m : Store α) (k : Nat) (f : Nat × α → Bool) (h : m.all f = true) : (m.erase k).all f = true := by
  induction m with
  | nil => rfl
  | cons e t ih =>
    simp only [List.all_cons, Bool.and_eq_true] at h
    simp only [Store.erase]
    split
    · exact ih h.2
    · simp only [List.all_cons, Bool.and_eq_true]; exact ⟨h.1, ih h.2⟩

theorem Store.insert_all {α : Type} (m : Store α) (k : Nat) (v : α) (f : Nat × α → Bool) (h : m.all f = true) (hv : f (k, v) = true) :
    (m.insert k v).all f = true := by
  induction m with
  | nil => simp [Store.insert, hv]
  | cons e t ih =>
    simp only [List.all_cons, Bool.and_eq_true] at h
    simp only [Store.insert]
    split <;> simp_all

/-- A write keeps the canonical form. -/
theorem Store.set_wf {α : Type} [DecidableEq α] {d : α} {m : Store α} {k : Nat} {v : α} (h : Store.wf d m = true) :
    Store.wf d (m.set d k v) = true := by
  simp only [Store.wf, Bool.and_eq_true] at *
  unfold Store.set
  split
  · exact ⟨Store.erase_sorted _ _ _ h.1, Store.erase_all _ _ _ h.2⟩
  · exact ⟨Store.insert_sorted _ _ _ _ (Nat.zero_le _) (Store.erase_sorted _ _ _ h.1) (Store.erase_has _ _),
      Store.insert_all _ _ _ _ (Store.erase_all _ _ _ h.2) (by simp_all)⟩

theorem Memory.setByte_wf {m : Memory} {a : Nat} {b : Byte} (h : m.wf = true) : (m.setByte a b).wf = true := Store.set_wf h

theorem Memory.setWord_wf {m : Memory} {a : Nat} {w : Word} (h : m.wf = true) : (m.setWord a w).wf = true :=
  Memory.setByte_wf (Memory.setByte_wf (Memory.setByte_wf (Memory.setByte_wf h)))

theorem Memory.setWords_wf {m : Memory} {a : Nat} {ws : List Word} (h : m.wf = true) : (m.setWords a ws).wf = true := by
  induction ws generalizing m a with
  | nil => exact h
  | cons w t ih => exact ih (Memory.setWord_wf h)

/-! ### Reading after writing -/

theorem Store.get_erase {α : Type} (d : α) (m : Store α) (k j : Nat) :
    Store.get d (m.erase k) j = if k = j then d else Store.get d m j := by
  induction m with
  | nil => simp [Store.erase, Store.get]
  | cons e t ih =>
    simp only [Store.erase]
    split
    · rw [ih]; split
      · rfl
      · simp only [Store.get]; split
        · omega
        · rfl
    · simp only [Store.get, ih]; split <;> split <;> first | rfl | omega

theorem Store.get_insert {α : Type} (d : α) (m : Store α) (k j : Nat) (v : α) (h : Store.has m k = false) :
    Store.get d (m.insert k v) j = if k = j then v else Store.get d m j := by
  induction m with
  | nil => simp [Store.insert, Store.get]
  | cons e t ih =>
    simp only [Store.has, Bool.or_eq_false_iff, beq_eq_false_iff_ne] at h
    simp only [Store.insert]
    split
    · simp only [Store.get]
    · simp only [Store.get, ih h.2]; split <;> split <;> first | rfl | omega

/-- A key that was written reads as what was written; every other key reads as before. -/
theorem Store.get_set {α : Type} [DecidableEq α] (d : α) (m : Store α) (k j : Nat) (v : α) :
    Store.get d (m.set d k v) j = if k = j then v else Store.get d m j := by
  unfold Store.set
  split
  · rw [Store.get_erase]; split <;> simp_all
  · rw [Store.get_insert _ _ _ _ _ (Store.erase_has _ _), Store.get_erase]; split <;> rfl

@[simp] theorem Store.get_set_self {α : Type} [DecidableEq α] (d : α) (m : Store α) (k : Nat) (v : α) :
    Store.get d (m.set d k v) k = v := by simp [Store.get_set]

/-- Whatever an unlisted key is taken to read as, the other keys read as before. -/
theorem Store.get_set_ne {α : Type} [DecidableEq α] {d d' : α} {m : Store α} {k j : Nat} {v : α} (h : k ≠ j) :
    Store.get d' (m.set d k v) j = Store.get d' m j := by
  unfold Store.set
  split
  · rw [Store.get_erase, if_neg h]
  · rw [Store.get_insert _ _ _ _ _ (Store.erase_has _ _), Store.get_erase, if_neg h, if_neg h]

theorem Memory.byte_setByte (m : Memory) (a b : Nat) (v : Byte) : (m.setByte a v).byte b = if a = b then v else m.byte b :=
  Store.get_set 0 m a b v

/-- A write of a word leaves every byte outside it alone. -/
theorem Memory.byte_setWord_out (m : Memory) (a b : Nat) (w : Word) (h : b / 4 ≠ a / 4) : (m.setWord a w).byte b = m.byte b := by
  simp only [Memory.setWord, Memory.byte_setByte]
  repeat' split
  all_goals first | rfl | omega

/-- A word is made of its four bytes. -/
theorem bytesWord_bytes (w : Word) :
    bytesWord (w.setWidth 8) ((w >>> 8).setWidth 8) ((w >>> 16).setWidth 8) ((w >>> 24).setWidth 8) = w := by
  apply BitVec.eq_of_getLsbD_eq
  intro i hi
  simp only [bytesWord, BitVec.getLsbD_append, BitVec.getLsbD_setWidth, BitVec.getLsbD_ushiftRight]
  interval_cases i <;> rfl

/-- A word that was written reads as what was written; every other word reads as before. -/
theorem Memory.word_setWord (m : Memory) (a b : Nat) (w : Word) :
    (m.setWord a w).word b = if a / 4 = b / 4 then w else m.word b := by
  by_cases h : a / 4 = b / 4
  · simp only [h, if_true, Memory.word, Memory.setWord, Memory.byte_setByte, bytesWord]
    simp only [show ¬ (b / 4 * 4 + 1 = b / 4 * 4) by omega, show ¬ (b / 4 * 4 + 2 = b / 4 * 4) by omega,
      show ¬ (b / 4 * 4 + 3 = b / 4 * 4) by omega, show ¬ (b / 4 * 4 + 2 = b / 4 * 4 + 1) by omega,
      show ¬ (b / 4 * 4 + 3 = b / 4 * 4 + 1) by omega, show ¬ (b / 4 * 4 + 3 = b / 4 * 4 + 2) by omega, if_false]
    exact bytesWord_bytes w
  · simp only [h, if_false, Memory.word]
    simp only [Memory.byte_setWord_out _ _ _ _ (show b / 4 * 4 / 4 ≠ a / 4 by omega),
      Memory.byte_setWord_out _ _ _ _ (show (b / 4 * 4 + 1) / 4 ≠ a / 4 by omega),
      Memory.byte_setWord_out _ _ _ _ (show (b / 4 * 4 + 2) / 4 ≠ a / 4 by omega),
      Memory.byte_setWord_out _ _ _ _ (show (b / 4 * 4 + 3) / 4 ≠ a / 4 by omega)]

/-- Writing words leaves every byte outside them alone. -/
theorem Memory.byte_setWords_out (m : Memory) (a b : Nat) (ws : List Word) (h : b < a / 4 * 4 ∨ a / 4 * 4 + 4 * ws.length ≤ b) :
    (m.setWords a ws).byte b = m.byte b := by
  induction ws generalizing m a with
  | nil => rfl
  | cons w t ih =>
    simp only [List.length_cons] at h
    simp only [Memory.setWords]
    rw [ih _ _ (by omega), Memory.byte_setWord_out _ _ _ _ (by omega)]

end Sys2Proof.Machine
end

