-- ==== Sys2Proof/Laws/State.lean ====
section
/-! SUPPORT. What each update of the state leaves alone, field by field, and what is read after it. -/

namespace Sys2Proof.Machine

/-! ### `State.setReg` -/

@[simp] theorem State.setReg_pending (s : State) (p o : Nat) (w : Word) : (s.setReg p o w).pending = s.pending := rfl
@[simp] theorem State.setReg_tb (s : State) (p o : Nat) (w : Word) : (s.setReg p o w).tb = s.tb := rfl
@[simp] theorem State.setReg_era (s : State) (p o : Nat) (w : Word) : (s.setReg p o w).era = s.era := rfl
@[simp] theorem State.setReg_atClock (s : State) (p o : Nat) (w : Word) : (s.setReg p o w).atClock = s.atClock := rfl
@[simp] theorem State.setReg_fresh (s : State) (p o : Nat) (w : Word) : (s.setReg p o w).fresh = s.fresh := rfl
@[simp] theorem State.setReg_tbStopped (s : State) (p o : Nat) (w : Word) : (s.setReg p o w).tbStopped = s.tbStopped := rfl
@[simp] theorem State.setReg_matchVal (s : State) (p o : Nat) (w : Word) : (s.setReg p o w).matchVal = s.matchVal := rfl
@[simp] theorem State.setReg_matchTb (s : State) (p o : Nat) (w : Word) : (s.setReg p o w).matchTb = s.matchTb := rfl
@[simp] theorem State.setReg_tick (s : State) (p o : Nat) (w : Word) : (s.setReg p o w).tick = s.tick := rfl
@[simp] theorem State.setReg_shadow (s : State) (p o : Nat) (w : Word) : (s.setReg p o w).shadow = s.shadow := rfl
@[simp] theorem State.setReg_pages (s : State) (p o : Nat) (w : Word) : (s.setReg p o w).pages = s.pages := rfl
@[simp] theorem State.setReg_running (s : State) (p o : Nat) (w : Word) : (s.setReg p o w).running = s.running := rfl
@[simp] theorem State.setReg_groups (s : State) (p o : Nat) (w : Word) : (s.setReg p o w).groups = s.groups := rfl
@[simp] theorem State.setReg_host (s : State) (p o : Nat) (w : Word) : (s.setReg p o w).host = s.host := rfl
@[simp] theorem State.setReg_ring (s : State) (p o : Nat) (w : Word) : (s.setReg p o w).ring = s.ring := rfl
@[simp] theorem State.setReg_hostMem (s : State) (p o : Nat) (w : Word) : (s.setReg p o w).hostMem = s.hostMem := rfl
@[simp] theorem State.setReg_iu (s : State) (p o : Nat) (w : Word) : (s.setReg p o w).iu = s.iu := rfl
@[simp] theorem State.setReg_whey (s : State) (p o : Nat) (w : Word) : (s.setReg p o w).whey = s.whey := rfl
@[simp] theorem State.setReg_eth0 (s : State) (p o : Nat) (w : Word) : (s.setReg p o w).eth0 = s.eth0 := rfl
@[simp] theorem State.setReg_eth1 (s : State) (p o : Nat) (w : Word) : (s.setReg p o w).eth1 = s.eth1 := rfl
@[simp] theorem State.setReg_dom (s : State) (p o : Nat) (w : Word) : (s.setReg p o w).dom = s.dom := rfl
@[simp] theorem State.setReg_mode (s : State) (p o : Nat) (w : Word) : (s.setReg p o w).mode = s.mode := rfl
@[simp] theorem State.setReg_rind (s : State) (p o : Nat) (w : Word) : (s.setReg p o w).rind = s.rind := rfl
@[simp] theorem State.setReg_chans (s : State) (p o : Nat) (w : Word) : (s.setReg p o w).chans = s.chans := rfl
@[simp] theorem State.setReg_cal (s : State) (p o : Nat) (w : Word) : (s.setReg p o w).cal = s.cal := rfl
@[simp] theorem State.setReg_maps (s : State) (p o : Nat) (w : Word) : (s.setReg p o w).maps = s.maps := rfl
@[simp] theorem State.setReg_free (s : State) (p o : Nat) (w : Word) : (s.setReg p o w).free = s.free := rfl
@[simp] theorem State.setReg_wheels (s : State) (p o : Nat) (w : Word) : (s.setReg p o w).wheels = s.wheels := rfl
@[simp] theorem State.setReg_idx0 (s : State) (p o : Nat) (w : Word) : (s.setReg p o w).idx0 = s.idx0 := rfl
@[simp] theorem State.setReg_idx1 (s : State) (p o : Nat) (w : Word) : (s.setReg p o w).idx1 = s.idx1 := rfl
@[simp] theorem State.setReg_cycDiff (s : State) (p o : Nat) (w : Word) : (s.setReg p o w).cycDiff = s.cycDiff := rfl
@[simp] theorem State.setReg_twinDue (s : State) (p o : Nat) (w : Word) : (s.setReg p o w).twinDue = s.twinDue := rfl
@[simp] theorem State.setReg_twins (s : State) (p o : Nat) (w : Word) : (s.setReg p o w).twins = s.twins := rfl
@[simp] theorem State.setReg_engs (s : State) (p o : Nat) (w : Word) : (s.setReg p o w).engs = s.engs := rfl
@[simp] theorem State.setReg_clus (s : State) (p o : Nat) (w : Word) : (s.setReg p o w).clus = s.clus := rfl
@[simp] theorem State.setReg_epochs (s : State) (p o : Nat) (w : Word) : (s.setReg p o w).epochs = s.epochs := rfl
@[simp] theorem State.setReg_lastHeld (s : State) (p o : Nat) (w : Word) : (s.setReg p o w).lastHeld = s.lastHeld := rfl
@[simp] theorem State.setReg_msgs (s : State) (p o : Nat) (w : Word) : (s.setReg p o w).msgs = s.msgs := rfl
@[simp] theorem State.setReg_cstore (s : State) (p o : Nat) (w : Word) : (s.setReg p o w).cstore = s.cstore := rfl
@[simp] theorem State.setReg_banks (s : State) (p o : Nat) (w : Word) : (s.setReg p o w).banks = s.banks := rfl
@[simp] theorem State.setReg_press (s : State) (p o : Nat) (w : Word) : (s.setReg p o w).press = s.press := rfl
@[simp] theorem State.setReg_smem (s : State) (p o : Nat) (w : Word) : (s.setReg p o w).smem = s.smem := rfl
@[simp] theorem State.setReg_adcs (s : State) (p o : Nat) (w : Word) : (s.setReg p o w).adcs = s.adcs := rfl
@[simp] theorem State.setReg_td (s : State) (p o : Nat) (w : Word) : (s.setReg p o w).td = s.td := rfl
@[simp] theorem State.setReg_lanes (s : State) (p o : Nat) (w : Word) : (s.setReg p o w).lanes = s.lanes := rfl
@[simp] theorem State.setReg_lost (s : State) (p o : Nat) (w : Word) : (s.setReg p o w).lost = s.lost := rfl
@[simp] theorem State.setReg_pwms (s : State) (p o : Nat) (w : Word) : (s.setReg p o w).pwms = s.pwms := rfl
@[simp] theorem State.setReg_pwmPins (s : State) (p o : Nat) (w : Word) : (s.setReg p o w).pwmPins = s.pwmPins := rfl
@[simp] theorem State.setReg_safeLatch (s : State) (p o : Nat) (w : Word) : (s.setReg p o w).safeLatch = s.safeLatch := rfl
@[simp] theorem State.setReg_bankHold (s : State) (p o : Nat) (w : Word) : (s.setReg p o w).bankHold = s.bankHold := rfl
@[simp] theorem State.setReg_taken (s : State) (p o : Nat) (w : Word) : (s.setReg p o w).taken = s.taken := rfl

/-! ### `State.setPage` -/

@[simp] theorem State.setPage_pending (s : State) (p : Nat) (x : PageSt) : (s.setPage p x).pending = s.pending := rfl
@[simp] theorem State.setPage_tb (s : State) (p : Nat) (x : PageSt) : (s.setPage p x).tb = s.tb := rfl
@[simp] theorem State.setPage_era (s : State) (p : Nat) (x : PageSt) : (s.setPage p x).era = s.era := rfl
@[simp] theorem State.setPage_atClock (s : State) (p : Nat) (x : PageSt) : (s.setPage p x).atClock = s.atClock := rfl
@[simp] theorem State.setPage_fresh (s : State) (p : Nat) (x : PageSt) : (s.setPage p x).fresh = s.fresh := rfl
@[simp] theorem State.setPage_tbStopped (s : State) (p : Nat) (x : PageSt) : (s.setPage p x).tbStopped = s.tbStopped := rfl
@[simp] theorem State.setPage_matchVal (s : State) (p : Nat) (x : PageSt) : (s.setPage p x).matchVal = s.matchVal := rfl
@[simp] theorem State.setPage_matchTb (s : State) (p : Nat) (x : PageSt) : (s.setPage p x).matchTb = s.matchTb := rfl
@[simp] theorem State.setPage_tick (s : State) (p : Nat) (x : PageSt) : (s.setPage p x).tick = s.tick := rfl
@[simp] theorem State.setPage_regs (s : State) (p : Nat) (x : PageSt) : (s.setPage p x).regs = s.regs := rfl
@[simp] theorem State.setPage_shadow (s : State) (p : Nat) (x : PageSt) : (s.setPage p x).shadow = s.shadow := rfl
@[simp] theorem State.setPage_running (s : State) (p : Nat) (x : PageSt) : (s.setPage p x).running = s.running := rfl
@[simp] theorem State.setPage_groups (s : State) (p : Nat) (x : PageSt) : (s.setPage p x).groups = s.groups := rfl
@[simp] theorem State.setPage_host (s : State) (p : Nat) (x : PageSt) : (s.setPage p x).host = s.host := rfl
@[simp] theorem State.setPage_ring (s : State) (p : Nat) (x : PageSt) : (s.setPage p x).ring = s.ring := rfl
@[simp] theorem State.setPage_hostMem (s : State) (p : Nat) (x : PageSt) : (s.setPage p x).hostMem = s.hostMem := rfl
@[simp] theorem State.setPage_iu (s : State) (p : Nat) (x : PageSt) : (s.setPage p x).iu = s.iu := rfl
@[simp] theorem State.setPage_whey (s : State) (p : Nat) (x : PageSt) : (s.setPage p x).whey = s.whey := rfl
@[simp] theorem State.setPage_eth0 (s : State) (p : Nat) (x : PageSt) : (s.setPage p x).eth0 = s.eth0 := rfl
@[simp] theorem State.setPage_eth1 (s : State) (p : Nat) (x : PageSt) : (s.setPage p x).eth1 = s.eth1 := rfl
@[simp] theorem State.setPage_dom (s : State) (p : Nat) (x : PageSt) : (s.setPage p x).dom = s.dom := rfl
@[simp] theorem State.setPage_mode (s : State) (p : Nat) (x : PageSt) : (s.setPage p x).mode = s.mode := rfl
@[simp] theorem State.setPage_rind (s : State) (p : Nat) (x : PageSt) : (s.setPage p x).rind = s.rind := rfl
@[simp] theorem State.setPage_chans (s : State) (p : Nat) (x : PageSt) : (s.setPage p x).chans = s.chans := rfl
@[simp] theorem State.setPage_cal (s : State) (p : Nat) (x : PageSt) : (s.setPage p x).cal = s.cal := rfl
@[simp] theorem State.setPage_maps (s : State) (p : Nat) (x : PageSt) : (s.setPage p x).maps = s.maps := rfl
@[simp] theorem State.setPage_free (s : State) (p : Nat) (x : PageSt) : (s.setPage p x).free = s.free := rfl
@[simp] theorem State.setPage_wheels (s : State) (p : Nat) (x : PageSt) : (s.setPage p x).wheels = s.wheels := rfl
@[simp] theorem State.setPage_idx0 (s : State) (p : Nat) (x : PageSt) : (s.setPage p x).idx0 = s.idx0 := rfl
@[simp] theorem State.setPage_idx1 (s : State) (p : Nat) (x : PageSt) : (s.setPage p x).idx1 = s.idx1 := rfl
@[simp] theorem State.setPage_cycDiff (s : State) (p : Nat) (x : PageSt) : (s.setPage p x).cycDiff = s.cycDiff := rfl
@[simp] theorem State.setPage_twinDue (s : State) (p : Nat) (x : PageSt) : (s.setPage p x).twinDue = s.twinDue := rfl
@[simp] theorem State.setPage_twins (s : State) (p : Nat) (x : PageSt) : (s.setPage p x).twins = s.twins := rfl
@[simp] theorem State.setPage_engs (s : State) (p : Nat) (x : PageSt) : (s.setPage p x).engs = s.engs := rfl
@[simp] theorem State.setPage_clus (s : State) (p : Nat) (x : PageSt) : (s.setPage p x).clus = s.clus := rfl
@[simp] theorem State.setPage_epochs (s : State) (p : Nat) (x : PageSt) : (s.setPage p x).epochs = s.epochs := rfl
@[simp] theorem State.setPage_lastHeld (s : State) (p : Nat) (x : PageSt) : (s.setPage p x).lastHeld = s.lastHeld := rfl
@[simp] theorem State.setPage_msgs (s : State) (p : Nat) (x : PageSt) : (s.setPage p x).msgs = s.msgs := rfl
@[simp] theorem State.setPage_cstore (s : State) (p : Nat) (x : PageSt) : (s.setPage p x).cstore = s.cstore := rfl
@[simp] theorem State.setPage_banks (s : State) (p : Nat) (x : PageSt) : (s.setPage p x).banks = s.banks := rfl
@[simp] theorem State.setPage_press (s : State) (p : Nat) (x : PageSt) : (s.setPage p x).press = s.press := rfl
@[simp] theorem State.setPage_smem (s : State) (p : Nat) (x : PageSt) : (s.setPage p x).smem = s.smem := rfl
@[simp] theorem State.setPage_adcs (s : State) (p : Nat) (x : PageSt) : (s.setPage p x).adcs = s.adcs := rfl
@[simp] theorem State.setPage_td (s : State) (p : Nat) (x : PageSt) : (s.setPage p x).td = s.td := rfl
@[simp] theorem State.setPage_lanes (s : State) (p : Nat) (x : PageSt) : (s.setPage p x).lanes = s.lanes := rfl
@[simp] theorem State.setPage_lost (s : State) (p : Nat) (x : PageSt) : (s.setPage p x).lost = s.lost := rfl
@[simp] theorem State.setPage_pwms (s : State) (p : Nat) (x : PageSt) : (s.setPage p x).pwms = s.pwms := rfl
@[simp] theorem State.setPage_pwmPins (s : State) (p : Nat) (x : PageSt) : (s.setPage p x).pwmPins = s.pwmPins := rfl
@[simp] theorem State.setPage_safeLatch (s : State) (p : Nat) (x : PageSt) : (s.setPage p x).safeLatch = s.safeLatch := rfl
@[simp] theorem State.setPage_bankHold (s : State) (p : Nat) (x : PageSt) : (s.setPage p x).bankHold = s.bankHold := rfl
@[simp] theorem State.setPage_taken (s : State) (p : Nat) (x : PageSt) : (s.setPage p x).taken = s.taken := rfl

/-! ### `State.bell` -/

@[simp] theorem State.bell_pending (s : State) (n : Nat) : (s.bell n).pending = s.pending := rfl
@[simp] theorem State.bell_tb (s : State) (n : Nat) : (s.bell n).tb = s.tb := rfl
@[simp] theorem State.bell_era (s : State) (n : Nat) : (s.bell n).era = s.era := rfl
@[simp] theorem State.bell_atClock (s : State) (n : Nat) : (s.bell n).atClock = s.atClock := rfl
@[simp] theorem State.bell_fresh (s : State) (n : Nat) : (s.bell n).fresh = s.fresh := rfl
@[simp] theorem State.bell_tbStopped (s : State) (n : Nat) : (s.bell n).tbStopped = s.tbStopped := rfl
@[simp] theorem State.bell_matchVal (s : State) (n : Nat) : (s.bell n).matchVal = s.matchVal := rfl
@[simp] theorem State.bell_matchTb (s : State) (n : Nat) : (s.bell n).matchTb = s.matchTb := rfl
@[simp] theorem State.bell_tick (s : State) (n : Nat) : (s.bell n).tick = s.tick := rfl
@[simp] theorem State.bell_regs (s : State) (n : Nat) : (s.bell n).regs = s.regs := rfl
@[simp] theorem State.bell_shadow (s : State) (n : Nat) : (s.bell n).shadow = s.shadow := rfl
@[simp] theorem State.bell_pages (s : State) (n : Nat) : (s.bell n).pages = s.pages := rfl
@[simp] theorem State.bell_running (s : State) (n : Nat) : (s.bell n).running = s.running := rfl
@[simp] theorem State.bell_groups (s : State) (n : Nat) : (s.bell n).groups = s.groups := rfl
@[simp] theorem State.bell_host (s : State) (n : Nat) : (s.bell n).host = s.host := rfl
@[simp] theorem State.bell_ring (s : State) (n : Nat) : (s.bell n).ring = s.ring := rfl
@[simp] theorem State.bell_hostMem (s : State) (n : Nat) : (s.bell n).hostMem = s.hostMem := rfl
@[simp] theorem State.bell_whey (s : State) (n : Nat) : (s.bell n).whey = s.whey := rfl
@[simp] theorem State.bell_eth0 (s : State) (n : Nat) : (s.bell n).eth0 = s.eth0 := rfl
@[simp] theorem State.bell_eth1 (s : State) (n : Nat) : (s.bell n).eth1 = s.eth1 := rfl
@[simp] theorem State.bell_dom (s : State) (n : Nat) : (s.bell n).dom = s.dom := rfl
@[simp] theorem State.bell_mode (s : State) (n : Nat) : (s.bell n).mode = s.mode := rfl
@[simp] theorem State.bell_rind (s : State) (n : Nat) : (s.bell n).rind = s.rind := rfl
@[simp] theorem State.bell_chans (s : State) (n : Nat) : (s.bell n).chans = s.chans := rfl
@[simp] theorem State.bell_cal (s : State) (n : Nat) : (s.bell n).cal = s.cal := rfl
@[simp] theorem State.bell_maps (s : State) (n : Nat) : (s.bell n).maps = s.maps := rfl
@[simp] theorem State.bell_free (s : State) (n : Nat) : (s.bell n).free = s.free := rfl
@[simp] theorem State.bell_wheels (s : State) (n : Nat) : (s.bell n).wheels = s.wheels := rfl
@[simp] theorem State.bell_idx0 (s : State) (n : Nat) : (s.bell n).idx0 = s.idx0 := rfl
@[simp] theorem State.bell_idx1 (s : State) (n : Nat) : (s.bell n).idx1 = s.idx1 := rfl
@[simp] theorem State.bell_cycDiff (s : State) (n : Nat) : (s.bell n).cycDiff = s.cycDiff := rfl
@[simp] theorem State.bell_twinDue (s : State) (n : Nat) : (s.bell n).twinDue = s.twinDue := rfl
@[simp] theorem State.bell_twins (s : State) (n : Nat) : (s.bell n).twins = s.twins := rfl
@[simp] theorem State.bell_engs (s : State) (n : Nat) : (s.bell n).engs = s.engs := rfl
@[simp] theorem State.bell_clus (s : State) (n : Nat) : (s.bell n).clus = s.clus := rfl
@[simp] theorem State.bell_epochs (s : State) (n : Nat) : (s.bell n).epochs = s.epochs := rfl
@[simp] theorem State.bell_lastHeld (s : State) (n : Nat) : (s.bell n).lastHeld = s.lastHeld := rfl
@[simp] theorem State.bell_msgs (s : State) (n : Nat) : (s.bell n).msgs = s.msgs := rfl
@[simp] theorem State.bell_cstore (s : State) (n : Nat) : (s.bell n).cstore = s.cstore := rfl
@[simp] theorem State.bell_banks (s : State) (n : Nat) : (s.bell n).banks = s.banks := rfl
@[simp] theorem State.bell_press (s : State) (n : Nat) : (s.bell n).press = s.press := rfl
@[simp] theorem State.bell_smem (s : State) (n : Nat) : (s.bell n).smem = s.smem := rfl
@[simp] theorem State.bell_adcs (s : State) (n : Nat) : (s.bell n).adcs = s.adcs := rfl
@[simp] theorem State.bell_td (s : State) (n : Nat) : (s.bell n).td = s.td := rfl
@[simp] theorem State.bell_lanes (s : State) (n : Nat) : (s.bell n).lanes = s.lanes := rfl
@[simp] theorem State.bell_lost (s : State) (n : Nat) : (s.bell n).lost = s.lost := rfl
@[simp] theorem State.bell_pwms (s : State) (n : Nat) : (s.bell n).pwms = s.pwms := rfl
@[simp] theorem State.bell_pwmPins (s : State) (n : Nat) : (s.bell n).pwmPins = s.pwmPins := rfl
@[simp] theorem State.bell_safeLatch (s : State) (n : Nat) : (s.bell n).safeLatch = s.safeLatch := rfl
@[simp] theorem State.bell_bankHold (s : State) (n : Nat) : (s.bell n).bankHold = s.bankHold := rfl
@[simp] theorem State.bell_taken (s : State) (n : Nat) : (s.bell n).taken = s.taken := rfl

/-! ### `State.setClu` -/

@[simp] theorem State.setClu_pending (s : State) (c : Nat) (x : Clu) : (s.setClu c x).pending = s.pending := rfl
@[simp] theorem State.setClu_tb (s : State) (c : Nat) (x : Clu) : (s.setClu c x).tb = s.tb := rfl
@[simp] theorem State.setClu_era (s : State) (c : Nat) (x : Clu) : (s.setClu c x).era = s.era := rfl
@[simp] theorem State.setClu_atClock (s : State) (c : Nat) (x : Clu) : (s.setClu c x).atClock = s.atClock := rfl
@[simp] theorem State.setClu_fresh (s : State) (c : Nat) (x : Clu) : (s.setClu c x).fresh = s.fresh := rfl
@[simp] theorem State.setClu_tbStopped (s : State) (c : Nat) (x : Clu) : (s.setClu c x).tbStopped = s.tbStopped := rfl
@[simp] theorem State.setClu_matchVal (s : State) (c : Nat) (x : Clu) : (s.setClu c x).matchVal = s.matchVal := rfl
@[simp] theorem State.setClu_matchTb (s : State) (c : Nat) (x : Clu) : (s.setClu c x).matchTb = s.matchTb := rfl
@[simp] theorem State.setClu_tick (s : State) (c : Nat) (x : Clu) : (s.setClu c x).tick = s.tick := rfl
@[simp] theorem State.setClu_regs (s : State) (c : Nat) (x : Clu) : (s.setClu c x).regs = s.regs := rfl
@[simp] theorem State.setClu_shadow (s : State) (c : Nat) (x : Clu) : (s.setClu c x).shadow = s.shadow := rfl
@[simp] theorem State.setClu_pages (s : State) (c : Nat) (x : Clu) : (s.setClu c x).pages = s.pages := rfl
@[simp] theorem State.setClu_running (s : State) (c : Nat) (x : Clu) : (s.setClu c x).running = s.running := rfl
@[simp] theorem State.setClu_groups (s : State) (c : Nat) (x : Clu) : (s.setClu c x).groups = s.groups := rfl
@[simp] theorem State.setClu_host (s : State) (c : Nat) (x : Clu) : (s.setClu c x).host = s.host := rfl
@[simp] theorem State.setClu_ring (s : State) (c : Nat) (x : Clu) : (s.setClu c x).ring = s.ring := rfl
@[simp] theorem State.setClu_hostMem (s : State) (c : Nat) (x : Clu) : (s.setClu c x).hostMem = s.hostMem := rfl
@[simp] theorem State.setClu_iu (s : State) (c : Nat) (x : Clu) : (s.setClu c x).iu = s.iu := rfl
@[simp] theorem State.setClu_whey (s : State) (c : Nat) (x : Clu) : (s.setClu c x).whey = s.whey := rfl
@[simp] theorem State.setClu_eth0 (s : State) (c : Nat) (x : Clu) : (s.setClu c x).eth0 = s.eth0 := rfl
@[simp] theorem State.setClu_eth1 (s : State) (c : Nat) (x : Clu) : (s.setClu c x).eth1 = s.eth1 := rfl
@[simp] theorem State.setClu_dom (s : State) (c : Nat) (x : Clu) : (s.setClu c x).dom = s.dom := rfl
@[simp] theorem State.setClu_mode (s : State) (c : Nat) (x : Clu) : (s.setClu c x).mode = s.mode := rfl
@[simp] theorem State.setClu_rind (s : State) (c : Nat) (x : Clu) : (s.setClu c x).rind = s.rind := rfl
@[simp] theorem State.setClu_chans (s : State) (c : Nat) (x : Clu) : (s.setClu c x).chans = s.chans := rfl
@[simp] theorem State.setClu_cal (s : State) (c : Nat) (x : Clu) : (s.setClu c x).cal = s.cal := rfl
@[simp] theorem State.setClu_maps (s : State) (c : Nat) (x : Clu) : (s.setClu c x).maps = s.maps := rfl
@[simp] theorem State.setClu_free (s : State) (c : Nat) (x : Clu) : (s.setClu c x).free = s.free := rfl
@[simp] theorem State.setClu_wheels (s : State) (c : Nat) (x : Clu) : (s.setClu c x).wheels = s.wheels := rfl
@[simp] theorem State.setClu_idx0 (s : State) (c : Nat) (x : Clu) : (s.setClu c x).idx0 = s.idx0 := rfl
@[simp] theorem State.setClu_idx1 (s : State) (c : Nat) (x : Clu) : (s.setClu c x).idx1 = s.idx1 := rfl
@[simp] theorem State.setClu_cycDiff (s : State) (c : Nat) (x : Clu) : (s.setClu c x).cycDiff = s.cycDiff := rfl
@[simp] theorem State.setClu_twinDue (s : State) (c : Nat) (x : Clu) : (s.setClu c x).twinDue = s.twinDue := rfl
@[simp] theorem State.setClu_twins (s : State) (c : Nat) (x : Clu) : (s.setClu c x).twins = s.twins := rfl
@[simp] theorem State.setClu_engs (s : State) (c : Nat) (x : Clu) : (s.setClu c x).engs = s.engs := rfl
@[simp] theorem State.setClu_epochs (s : State) (c : Nat) (x : Clu) : (s.setClu c x).epochs = s.epochs := rfl
@[simp] theorem State.setClu_lastHeld (s : State) (c : Nat) (x : Clu) : (s.setClu c x).lastHeld = s.lastHeld := rfl
@[simp] theorem State.setClu_msgs (s : State) (c : Nat) (x : Clu) : (s.setClu c x).msgs = s.msgs := rfl
@[simp] theorem State.setClu_cstore (s : State) (c : Nat) (x : Clu) : (s.setClu c x).cstore = s.cstore := rfl
@[simp] theorem State.setClu_banks (s : State) (c : Nat) (x : Clu) : (s.setClu c x).banks = s.banks := rfl
@[simp] theorem State.setClu_press (s : State) (c : Nat) (x : Clu) : (s.setClu c x).press = s.press := rfl
@[simp] theorem State.setClu_smem (s : State) (c : Nat) (x : Clu) : (s.setClu c x).smem = s.smem := rfl
@[simp] theorem State.setClu_adcs (s : State) (c : Nat) (x : Clu) : (s.setClu c x).adcs = s.adcs := rfl
@[simp] theorem State.setClu_td (s : State) (c : Nat) (x : Clu) : (s.setClu c x).td = s.td := rfl
@[simp] theorem State.setClu_lanes (s : State) (c : Nat) (x : Clu) : (s.setClu c x).lanes = s.lanes := rfl
@[simp] theorem State.setClu_lost (s : State) (c : Nat) (x : Clu) : (s.setClu c x).lost = s.lost := rfl
@[simp] theorem State.setClu_pwms (s : State) (c : Nat) (x : Clu) : (s.setClu c x).pwms = s.pwms := rfl
@[simp] theorem State.setClu_pwmPins (s : State) (c : Nat) (x : Clu) : (s.setClu c x).pwmPins = s.pwmPins := rfl
@[simp] theorem State.setClu_safeLatch (s : State) (c : Nat) (x : Clu) : (s.setClu c x).safeLatch = s.safeLatch := rfl
@[simp] theorem State.setClu_bankHold (s : State) (c : Nat) (x : Clu) : (s.setClu c x).bankHold = s.bankHold := rfl
@[simp] theorem State.setClu_taken (s : State) (c : Nat) (x : Clu) : (s.setClu c x).taken = s.taken := rfl

/-! ### `State.setChan` -/

@[simp] theorem State.setChan_pending (s : State) (c : Nat) (x : Chan) : (s.setChan c x).pending = s.pending := rfl
@[simp] theorem State.setChan_tb (s : State) (c : Nat) (x : Chan) : (s.setChan c x).tb = s.tb := rfl
@[simp] theorem State.setChan_era (s : State) (c : Nat) (x : Chan) : (s.setChan c x).era = s.era := rfl
@[simp] theorem State.setChan_atClock (s : State) (c : Nat) (x : Chan) : (s.setChan c x).atClock = s.atClock := rfl
@[simp] theorem State.setChan_fresh (s : State) (c : Nat) (x : Chan) : (s.setChan c x).fresh = s.fresh := rfl
@[simp] theorem State.setChan_tbStopped (s : State) (c : Nat) (x : Chan) : (s.setChan c x).tbStopped = s.tbStopped := rfl
@[simp] theorem State.setChan_matchVal (s : State) (c : Nat) (x : Chan) : (s.setChan c x).matchVal = s.matchVal := rfl
@[simp] theorem State.setChan_matchTb (s : State) (c : Nat) (x : Chan) : (s.setChan c x).matchTb = s.matchTb := rfl
@[simp] theorem State.setChan_tick (s : State) (c : Nat) (x : Chan) : (s.setChan c x).tick = s.tick := rfl
@[simp] theorem State.setChan_regs (s : State) (c : Nat) (x : Chan) : (s.setChan c x).regs = s.regs := rfl
@[simp] theorem State.setChan_shadow (s : State) (c : Nat) (x : Chan) : (s.setChan c x).shadow = s.shadow := rfl
@[simp] theorem State.setChan_pages (s : State) (c : Nat) (x : Chan) : (s.setChan c x).pages = s.pages := rfl
@[simp] theorem State.setChan_running (s : State) (c : Nat) (x : Chan) : (s.setChan c x).running = s.running := rfl
@[simp] theorem State.setChan_groups (s : State) (c : Nat) (x : Chan) : (s.setChan c x).groups = s.groups := rfl
@[simp] theorem State.setChan_host (s : State) (c : Nat) (x : Chan) : (s.setChan c x).host = s.host := rfl
@[simp] theorem State.setChan_ring (s : State) (c : Nat) (x : Chan) : (s.setChan c x).ring = s.ring := rfl
@[simp] theorem State.setChan_hostMem (s : State) (c : Nat) (x : Chan) : (s.setChan c x).hostMem = s.hostMem := rfl
@[simp] theorem State.setChan_iu (s : State) (c : Nat) (x : Chan) : (s.setChan c x).iu = s.iu := rfl
@[simp] theorem State.setChan_whey (s : State) (c : Nat) (x : Chan) : (s.setChan c x).whey = s.whey := rfl
@[simp] theorem State.setChan_eth0 (s : State) (c : Nat) (x : Chan) : (s.setChan c x).eth0 = s.eth0 := rfl
@[simp] theorem State.setChan_eth1 (s : State) (c : Nat) (x : Chan) : (s.setChan c x).eth1 = s.eth1 := rfl
@[simp] theorem State.setChan_dom (s : State) (c : Nat) (x : Chan) : (s.setChan c x).dom = s.dom := rfl
@[simp] theorem State.setChan_mode (s : State) (c : Nat) (x : Chan) : (s.setChan c x).mode = s.mode := rfl
@[simp] theorem State.setChan_rind (s : State) (c : Nat) (x : Chan) : (s.setChan c x).rind = s.rind := rfl
@[simp] theorem State.setChan_cal (s : State) (c : Nat) (x : Chan) : (s.setChan c x).cal = s.cal := rfl
@[simp] theorem State.setChan_maps (s : State) (c : Nat) (x : Chan) : (s.setChan c x).maps = s.maps := rfl
@[simp] theorem State.setChan_free (s : State) (c : Nat) (x : Chan) : (s.setChan c x).free = s.free := rfl
@[simp] theorem State.setChan_wheels (s : State) (c : Nat) (x : Chan) : (s.setChan c x).wheels = s.wheels := rfl
@[simp] theorem State.setChan_idx0 (s : State) (c : Nat) (x : Chan) : (s.setChan c x).idx0 = s.idx0 := rfl
@[simp] theorem State.setChan_idx1 (s : State) (c : Nat) (x : Chan) : (s.setChan c x).idx1 = s.idx1 := rfl
@[simp] theorem State.setChan_cycDiff (s : State) (c : Nat) (x : Chan) : (s.setChan c x).cycDiff = s.cycDiff := rfl
@[simp] theorem State.setChan_twinDue (s : State) (c : Nat) (x : Chan) : (s.setChan c x).twinDue = s.twinDue := rfl
@[simp] theorem State.setChan_twins (s : State) (c : Nat) (x : Chan) : (s.setChan c x).twins = s.twins := rfl
@[simp] theorem State.setChan_engs (s : State) (c : Nat) (x : Chan) : (s.setChan c x).engs = s.engs := rfl
@[simp] theorem State.setChan_clus (s : State) (c : Nat) (x : Chan) : (s.setChan c x).clus = s.clus := rfl
@[simp] theorem State.setChan_epochs (s : State) (c : Nat) (x : Chan) : (s.setChan c x).epochs = s.epochs := rfl
@[simp] theorem State.setChan_lastHeld (s : State) (c : Nat) (x : Chan) : (s.setChan c x).lastHeld = s.lastHeld := rfl
@[simp] theorem State.setChan_msgs (s : State) (c : Nat) (x : Chan) : (s.setChan c x).msgs = s.msgs := rfl
@[simp] theorem State.setChan_cstore (s : State) (c : Nat) (x : Chan) : (s.setChan c x).cstore = s.cstore := rfl
@[simp] theorem State.setChan_banks (s : State) (c : Nat) (x : Chan) : (s.setChan c x).banks = s.banks := rfl
@[simp] theorem State.setChan_press (s : State) (c : Nat) (x : Chan) : (s.setChan c x).press = s.press := rfl
@[simp] theorem State.setChan_smem (s : State) (c : Nat) (x : Chan) : (s.setChan c x).smem = s.smem := rfl
@[simp] theorem State.setChan_adcs (s : State) (c : Nat) (x : Chan) : (s.setChan c x).adcs = s.adcs := rfl
@[simp] theorem State.setChan_td (s : State) (c : Nat) (x : Chan) : (s.setChan c x).td = s.td := rfl
@[simp] theorem State.setChan_lanes (s : State) (c : Nat) (x : Chan) : (s.setChan c x).lanes = s.lanes := rfl
@[simp] theorem State.setChan_lost (s : State) (c : Nat) (x : Chan) : (s.setChan c x).lost = s.lost := rfl
@[simp] theorem State.setChan_pwms (s : State) (c : Nat) (x : Chan) : (s.setChan c x).pwms = s.pwms := rfl
@[simp] theorem State.setChan_pwmPins (s : State) (c : Nat) (x : Chan) : (s.setChan c x).pwmPins = s.pwmPins := rfl
@[simp] theorem State.setChan_safeLatch (s : State) (c : Nat) (x : Chan) : (s.setChan c x).safeLatch = s.safeLatch := rfl
@[simp] theorem State.setChan_bankHold (s : State) (c : Nat) (x : Chan) : (s.setChan c x).bankHold = s.bankHold := rfl
@[simp] theorem State.setChan_taken (s : State) (c : Nat) (x : Chan) : (s.setChan c x).taken = s.taken := rfl

/-! ### `State.setAdc` -/

@[simp] theorem State.setAdc_pending (s : State) (n : Nat) (x : AdcCore) : (s.setAdc n x).pending = s.pending := rfl
@[simp] theorem State.setAdc_tb (s : State) (n : Nat) (x : AdcCore) : (s.setAdc n x).tb = s.tb := rfl
@[simp] theorem State.setAdc_era (s : State) (n : Nat) (x : AdcCore) : (s.setAdc n x).era = s.era := rfl
@[simp] theorem State.setAdc_atClock (s : State) (n : Nat) (x : AdcCore) : (s.setAdc n x).atClock = s.atClock := rfl
@[simp] theorem State.setAdc_fresh (s : State) (n : Nat) (x : AdcCore) : (s.setAdc n x).fresh = s.fresh := rfl
@[simp] theorem State.setAdc_tbStopped (s : State) (n : Nat) (x : AdcCore) : (s.setAdc n x).tbStopped = s.tbStopped := rfl
@[simp] theorem State.setAdc_matchVal (s : State) (n : Nat) (x : AdcCore) : (s.setAdc n x).matchVal = s.matchVal := rfl
@[simp] theorem State.setAdc_matchTb (s : State) (n : Nat) (x : AdcCore) : (s.setAdc n x).matchTb = s.matchTb := rfl
@[simp] theorem State.setAdc_tick (s : State) (n : Nat) (x : AdcCore) : (s.setAdc n x).tick = s.tick := rfl
@[simp] theorem State.setAdc_regs (s : State) (n : Nat) (x : AdcCore) : (s.setAdc n x).regs = s.regs := rfl
@[simp] theorem State.setAdc_shadow (s : State) (n : Nat) (x : AdcCore) : (s.setAdc n x).shadow = s.shadow := rfl
@[simp] theorem State.setAdc_pages (s : State) (n : Nat) (x : AdcCore) : (s.setAdc n x).pages = s.pages := rfl
@[simp] theorem State.setAdc_running (s : State) (n : Nat) (x : AdcCore) : (s.setAdc n x).running = s.running := rfl
@[simp] theorem State.setAdc_groups (s : State) (n : Nat) (x : AdcCore) : (s.setAdc n x).groups = s.groups := rfl
@[simp] theorem State.setAdc_host (s : State) (n : Nat) (x : AdcCore) : (s.setAdc n x).host = s.host := rfl
@[simp] theorem State.setAdc_ring (s : State) (n : Nat) (x : AdcCore) : (s.setAdc n x).ring = s.ring := rfl
@[simp] theorem State.setAdc_hostMem (s : State) (n : Nat) (x : AdcCore) : (s.setAdc n x).hostMem = s.hostMem := rfl
@[simp] theorem State.setAdc_iu (s : State) (n : Nat) (x : AdcCore) : (s.setAdc n x).iu = s.iu := rfl
@[simp] theorem State.setAdc_whey (s : State) (n : Nat) (x : AdcCore) : (s.setAdc n x).whey = s.whey := rfl
@[simp] theorem State.setAdc_eth0 (s : State) (n : Nat) (x : AdcCore) : (s.setAdc n x).eth0 = s.eth0 := rfl
@[simp] theorem State.setAdc_eth1 (s : State) (n : Nat) (x : AdcCore) : (s.setAdc n x).eth1 = s.eth1 := rfl
@[simp] theorem State.setAdc_dom (s : State) (n : Nat) (x : AdcCore) : (s.setAdc n x).dom = s.dom := rfl
@[simp] theorem State.setAdc_mode (s : State) (n : Nat) (x : AdcCore) : (s.setAdc n x).mode = s.mode := rfl
@[simp] theorem State.setAdc_rind (s : State) (n : Nat) (x : AdcCore) : (s.setAdc n x).rind = s.rind := rfl
@[simp] theorem State.setAdc_chans (s : State) (n : Nat) (x : AdcCore) : (s.setAdc n x).chans = s.chans := rfl
@[simp] theorem State.setAdc_cal (s : State) (n : Nat) (x : AdcCore) : (s.setAdc n x).cal = s.cal := rfl
@[simp] theorem State.setAdc_maps (s : State) (n : Nat) (x : AdcCore) : (s.setAdc n x).maps = s.maps := rfl
@[simp] theorem State.setAdc_free (s : State) (n : Nat) (x : AdcCore) : (s.setAdc n x).free = s.free := rfl
@[simp] theorem State.setAdc_wheels (s : State) (n : Nat) (x : AdcCore) : (s.setAdc n x).wheels = s.wheels := rfl
@[simp] theorem State.setAdc_idx0 (s : State) (n : Nat) (x : AdcCore) : (s.setAdc n x).idx0 = s.idx0 := rfl
@[simp] theorem State.setAdc_idx1 (s : State) (n : Nat) (x : AdcCore) : (s.setAdc n x).idx1 = s.idx1 := rfl
@[simp] theorem State.setAdc_cycDiff (s : State) (n : Nat) (x : AdcCore) : (s.setAdc n x).cycDiff = s.cycDiff := rfl
@[simp] theorem State.setAdc_twinDue (s : State) (n : Nat) (x : AdcCore) : (s.setAdc n x).twinDue = s.twinDue := rfl
@[simp] theorem State.setAdc_twins (s : State) (n : Nat) (x : AdcCore) : (s.setAdc n x).twins = s.twins := rfl
@[simp] theorem State.setAdc_engs (s : State) (n : Nat) (x : AdcCore) : (s.setAdc n x).engs = s.engs := rfl
@[simp] theorem State.setAdc_clus (s : State) (n : Nat) (x : AdcCore) : (s.setAdc n x).clus = s.clus := rfl
@[simp] theorem State.setAdc_epochs (s : State) (n : Nat) (x : AdcCore) : (s.setAdc n x).epochs = s.epochs := rfl
@[simp] theorem State.setAdc_lastHeld (s : State) (n : Nat) (x : AdcCore) : (s.setAdc n x).lastHeld = s.lastHeld := rfl
@[simp] theorem State.setAdc_msgs (s : State) (n : Nat) (x : AdcCore) : (s.setAdc n x).msgs = s.msgs := rfl
@[simp] theorem State.setAdc_cstore (s : State) (n : Nat) (x : AdcCore) : (s.setAdc n x).cstore = s.cstore := rfl
@[simp] theorem State.setAdc_banks (s : State) (n : Nat) (x : AdcCore) : (s.setAdc n x).banks = s.banks := rfl
@[simp] theorem State.setAdc_press (s : State) (n : Nat) (x : AdcCore) : (s.setAdc n x).press = s.press := rfl
@[simp] theorem State.setAdc_smem (s : State) (n : Nat) (x : AdcCore) : (s.setAdc n x).smem = s.smem := rfl
@[simp] theorem State.setAdc_td (s : State) (n : Nat) (x : AdcCore) : (s.setAdc n x).td = s.td := rfl
@[simp] theorem State.setAdc_lanes (s : State) (n : Nat) (x : AdcCore) : (s.setAdc n x).lanes = s.lanes := rfl
@[simp] theorem State.setAdc_lost (s : State) (n : Nat) (x : AdcCore) : (s.setAdc n x).lost = s.lost := rfl
@[simp] theorem State.setAdc_pwms (s : State) (n : Nat) (x : AdcCore) : (s.setAdc n x).pwms = s.pwms := rfl
@[simp] theorem State.setAdc_pwmPins (s : State) (n : Nat) (x : AdcCore) : (s.setAdc n x).pwmPins = s.pwmPins := rfl
@[simp] theorem State.setAdc_safeLatch (s : State) (n : Nat) (x : AdcCore) : (s.setAdc n x).safeLatch = s.safeLatch := rfl
@[simp] theorem State.setAdc_bankHold (s : State) (n : Nat) (x : AdcCore) : (s.setAdc n x).bankHold = s.bankHold := rfl
@[simp] theorem State.setAdc_taken (s : State) (n : Nat) (x : AdcCore) : (s.setAdc n x).taken = s.taken := rfl

/-! ### `State.setMap` -/

@[simp] theorem State.setMap_pending (s : State) (u : Nat) (x : MapSt) : (s.setMap u x).pending = s.pending := rfl
@[simp] theorem State.setMap_tb (s : State) (u : Nat) (x : MapSt) : (s.setMap u x).tb = s.tb := rfl
@[simp] theorem State.setMap_era (s : State) (u : Nat) (x : MapSt) : (s.setMap u x).era = s.era := rfl
@[simp] theorem State.setMap_atClock (s : State) (u : Nat) (x : MapSt) : (s.setMap u x).atClock = s.atClock := rfl
@[simp] theorem State.setMap_fresh (s : State) (u : Nat) (x : MapSt) : (s.setMap u x).fresh = s.fresh := rfl
@[simp] theorem State.setMap_tbStopped (s : State) (u : Nat) (x : MapSt) : (s.setMap u x).tbStopped = s.tbStopped := rfl
@[simp] theorem State.setMap_matchVal (s : State) (u : Nat) (x : MapSt) : (s.setMap u x).matchVal = s.matchVal := rfl
@[simp] theorem State.setMap_matchTb (s : State) (u : Nat) (x : MapSt) : (s.setMap u x).matchTb = s.matchTb := rfl
@[simp] theorem State.setMap_tick (s : State) (u : Nat) (x : MapSt) : (s.setMap u x).tick = s.tick := rfl
@[simp] theorem State.setMap_regs (s : State) (u : Nat) (x : MapSt) : (s.setMap u x).regs = s.regs := rfl
@[simp] theorem State.setMap_shadow (s : State) (u : Nat) (x : MapSt) : (s.setMap u x).shadow = s.shadow := rfl
@[simp] theorem State.setMap_pages (s : State) (u : Nat) (x : MapSt) : (s.setMap u x).pages = s.pages := rfl
@[simp] theorem State.setMap_running (s : State) (u : Nat) (x : MapSt) : (s.setMap u x).running = s.running := rfl
@[simp] theorem State.setMap_groups (s : State) (u : Nat) (x : MapSt) : (s.setMap u x).groups = s.groups := rfl
@[simp] theorem State.setMap_host (s : State) (u : Nat) (x : MapSt) : (s.setMap u x).host = s.host := rfl
@[simp] theorem State.setMap_ring (s : State) (u : Nat) (x : MapSt) : (s.setMap u x).ring = s.ring := rfl
@[simp] theorem State.setMap_hostMem (s : State) (u : Nat) (x : MapSt) : (s.setMap u x).hostMem = s.hostMem := rfl
@[simp] theorem State.setMap_iu (s : State) (u : Nat) (x : MapSt) : (s.setMap u x).iu = s.iu := rfl
@[simp] theorem State.setMap_whey (s : State) (u : Nat) (x : MapSt) : (s.setMap u x).whey = s.whey := rfl
@[simp] theorem State.setMap_eth0 (s : State) (u : Nat) (x : MapSt) : (s.setMap u x).eth0 = s.eth0 := rfl
@[simp] theorem State.setMap_eth1 (s : State) (u : Nat) (x : MapSt) : (s.setMap u x).eth1 = s.eth1 := rfl
@[simp] theorem State.setMap_dom (s : State) (u : Nat) (x : MapSt) : (s.setMap u x).dom = s.dom := rfl
@[simp] theorem State.setMap_mode (s : State) (u : Nat) (x : MapSt) : (s.setMap u x).mode = s.mode := rfl
@[simp] theorem State.setMap_rind (s : State) (u : Nat) (x : MapSt) : (s.setMap u x).rind = s.rind := rfl
@[simp] theorem State.setMap_chans (s : State) (u : Nat) (x : MapSt) : (s.setMap u x).chans = s.chans := rfl
@[simp] theorem State.setMap_cal (s : State) (u : Nat) (x : MapSt) : (s.setMap u x).cal = s.cal := rfl
@[simp] theorem State.setMap_free (s : State) (u : Nat) (x : MapSt) : (s.setMap u x).free = s.free := rfl
@[simp] theorem State.setMap_wheels (s : State) (u : Nat) (x : MapSt) : (s.setMap u x).wheels = s.wheels := rfl
@[simp] theorem State.setMap_idx0 (s : State) (u : Nat) (x : MapSt) : (s.setMap u x).idx0 = s.idx0 := rfl
@[simp] theorem State.setMap_idx1 (s : State) (u : Nat) (x : MapSt) : (s.setMap u x).idx1 = s.idx1 := rfl
@[simp] theorem State.setMap_cycDiff (s : State) (u : Nat) (x : MapSt) : (s.setMap u x).cycDiff = s.cycDiff := rfl
@[simp] theorem State.setMap_twinDue (s : State) (u : Nat) (x : MapSt) : (s.setMap u x).twinDue = s.twinDue := rfl
@[simp] theorem State.setMap_twins (s : State) (u : Nat) (x : MapSt) : (s.setMap u x).twins = s.twins := rfl
@[simp] theorem State.setMap_engs (s : State) (u : Nat) (x : MapSt) : (s.setMap u x).engs = s.engs := rfl
@[simp] theorem State.setMap_clus (s : State) (u : Nat) (x : MapSt) : (s.setMap u x).clus = s.clus := rfl
@[simp] theorem State.setMap_epochs (s : State) (u : Nat) (x : MapSt) : (s.setMap u x).epochs = s.epochs := rfl
@[simp] theorem State.setMap_lastHeld (s : State) (u : Nat) (x : MapSt) : (s.setMap u x).lastHeld = s.lastHeld := rfl
@[simp] theorem State.setMap_msgs (s : State) (u : Nat) (x : MapSt) : (s.setMap u x).msgs = s.msgs := rfl
@[simp] theorem State.setMap_cstore (s : State) (u : Nat) (x : MapSt) : (s.setMap u x).cstore = s.cstore := rfl
@[simp] theorem State.setMap_banks (s : State) (u : Nat) (x : MapSt) : (s.setMap u x).banks = s.banks := rfl
@[simp] theorem State.setMap_press (s : State) (u : Nat) (x : MapSt) : (s.setMap u x).press = s.press := rfl
@[simp] theorem State.setMap_smem (s : State) (u : Nat) (x : MapSt) : (s.setMap u x).smem = s.smem := rfl
@[simp] theorem State.setMap_adcs (s : State) (u : Nat) (x : MapSt) : (s.setMap u x).adcs = s.adcs := rfl
@[simp] theorem State.setMap_td (s : State) (u : Nat) (x : MapSt) : (s.setMap u x).td = s.td := rfl
@[simp] theorem State.setMap_lanes (s : State) (u : Nat) (x : MapSt) : (s.setMap u x).lanes = s.lanes := rfl
@[simp] theorem State.setMap_lost (s : State) (u : Nat) (x : MapSt) : (s.setMap u x).lost = s.lost := rfl
@[simp] theorem State.setMap_pwms (s : State) (u : Nat) (x : MapSt) : (s.setMap u x).pwms = s.pwms := rfl
@[simp] theorem State.setMap_pwmPins (s : State) (u : Nat) (x : MapSt) : (s.setMap u x).pwmPins = s.pwmPins := rfl
@[simp] theorem State.setMap_safeLatch (s : State) (u : Nat) (x : MapSt) : (s.setMap u x).safeLatch = s.safeLatch := rfl
@[simp] theorem State.setMap_bankHold (s : State) (u : Nat) (x : MapSt) : (s.setMap u x).bankHold = s.bankHold := rfl
@[simp] theorem State.setMap_taken (s : State) (u : Nat) (x : MapSt) : (s.setMap u x).taken = s.taken := rfl

/-! ### `State.setPwm` -/

@[simp] theorem State.setPwm_pending (s : State) (m : Nat) (x : PwmMod) : (s.setPwm m x).pending = s.pending := rfl
@[simp] theorem State.setPwm_tb (s : State) (m : Nat) (x : PwmMod) : (s.setPwm m x).tb = s.tb := rfl
@[simp] theorem State.setPwm_era (s : State) (m : Nat) (x : PwmMod) : (s.setPwm m x).era = s.era := rfl
@[simp] theorem State.setPwm_atClock (s : State) (m : Nat) (x : PwmMod) : (s.setPwm m x).atClock = s.atClock := rfl
@[simp] theorem State.setPwm_fresh (s : State) (m : Nat) (x : PwmMod) : (s.setPwm m x).fresh = s.fresh := rfl
@[simp] theorem State.setPwm_tbStopped (s : State) (m : Nat) (x : PwmMod) : (s.setPwm m x).tbStopped = s.tbStopped := rfl
@[simp] theorem State.setPwm_matchVal (s : State) (m : Nat) (x : PwmMod) : (s.setPwm m x).matchVal = s.matchVal := rfl
@[simp] theorem State.setPwm_matchTb (s : State) (m : Nat) (x : PwmMod) : (s.setPwm m x).matchTb = s.matchTb := rfl
@[simp] theorem State.setPwm_tick (s : State) (m : Nat) (x : PwmMod) : (s.setPwm m x).tick = s.tick := rfl
@[simp] theorem State.setPwm_regs (s : State) (m : Nat) (x : PwmMod) : (s.setPwm m x).regs = s.regs := rfl
@[simp] theorem State.setPwm_shadow (s : State) (m : Nat) (x : PwmMod) : (s.setPwm m x).shadow = s.shadow := rfl
@[simp] theorem State.setPwm_pages (s : State) (m : Nat) (x : PwmMod) : (s.setPwm m x).pages = s.pages := rfl
@[simp] theorem State.setPwm_running (s : State) (m : Nat) (x : PwmMod) : (s.setPwm m x).running = s.running := rfl
@[simp] theorem State.setPwm_groups (s : State) (m : Nat) (x : PwmMod) : (s.setPwm m x).groups = s.groups := rfl
@[simp] theorem State.setPwm_host (s : State) (m : Nat) (x : PwmMod) : (s.setPwm m x).host = s.host := rfl
@[simp] theorem State.setPwm_ring (s : State) (m : Nat) (x : PwmMod) : (s.setPwm m x).ring = s.ring := rfl
@[simp] theorem State.setPwm_hostMem (s : State) (m : Nat) (x : PwmMod) : (s.setPwm m x).hostMem = s.hostMem := rfl
@[simp] theorem State.setPwm_iu (s : State) (m : Nat) (x : PwmMod) : (s.setPwm m x).iu = s.iu := rfl
@[simp] theorem State.setPwm_whey (s : State) (m : Nat) (x : PwmMod) : (s.setPwm m x).whey = s.whey := rfl
@[simp] theorem State.setPwm_eth0 (s : State) (m : Nat) (x : PwmMod) : (s.setPwm m x).eth0 = s.eth0 := rfl
@[simp] theorem State.setPwm_eth1 (s : State) (m : Nat) (x : PwmMod) : (s.setPwm m x).eth1 = s.eth1 := rfl
@[simp] theorem State.setPwm_dom (s : State) (m : Nat) (x : PwmMod) : (s.setPwm m x).dom = s.dom := rfl
@[simp] theorem State.setPwm_mode (s : State) (m : Nat) (x : PwmMod) : (s.setPwm m x).mode = s.mode := rfl
@[simp] theorem State.setPwm_rind (s : State) (m : Nat) (x : PwmMod) : (s.setPwm m x).rind = s.rind := rfl
@[simp] theorem State.setPwm_chans (s : State) (m : Nat) (x : PwmMod) : (s.setPwm m x).chans = s.chans := rfl
@[simp] theorem State.setPwm_cal (s : State) (m : Nat) (x : PwmMod) : (s.setPwm m x).cal = s.cal := rfl
@[simp] theorem State.setPwm_maps (s : State) (m : Nat) (x : PwmMod) : (s.setPwm m x).maps = s.maps := rfl
@[simp] theorem State.setPwm_free (s : State) (m : Nat) (x : PwmMod) : (s.setPwm m x).free = s.free := rfl
@[simp] theorem State.setPwm_wheels (s : State) (m : Nat) (x : PwmMod) : (s.setPwm m x).wheels = s.wheels := rfl
@[simp] theorem State.setPwm_idx0 (s : State) (m : Nat) (x : PwmMod) : (s.setPwm m x).idx0 = s.idx0 := rfl
@[simp] theorem State.setPwm_idx1 (s : State) (m : Nat) (x : PwmMod) : (s.setPwm m x).idx1 = s.idx1 := rfl
@[simp] theorem State.setPwm_cycDiff (s : State) (m : Nat) (x : PwmMod) : (s.setPwm m x).cycDiff = s.cycDiff := rfl
@[simp] theorem State.setPwm_twinDue (s : State) (m : Nat) (x : PwmMod) : (s.setPwm m x).twinDue = s.twinDue := rfl
@[simp] theorem State.setPwm_twins (s : State) (m : Nat) (x : PwmMod) : (s.setPwm m x).twins = s.twins := rfl
@[simp] theorem State.setPwm_engs (s : State) (m : Nat) (x : PwmMod) : (s.setPwm m x).engs = s.engs := rfl
@[simp] theorem State.setPwm_clus (s : State) (m : Nat) (x : PwmMod) : (s.setPwm m x).clus = s.clus := rfl
@[simp] theorem State.setPwm_epochs (s : State) (m : Nat) (x : PwmMod) : (s.setPwm m x).epochs = s.epochs := rfl
@[simp] theorem State.setPwm_lastHeld (s : State) (m : Nat) (x : PwmMod) : (s.setPwm m x).lastHeld = s.lastHeld := rfl
@[simp] theorem State.setPwm_msgs (s : State) (m : Nat) (x : PwmMod) : (s.setPwm m x).msgs = s.msgs := rfl
@[simp] theorem State.setPwm_cstore (s : State) (m : Nat) (x : PwmMod) : (s.setPwm m x).cstore = s.cstore := rfl
@[simp] theorem State.setPwm_banks (s : State) (m : Nat) (x : PwmMod) : (s.setPwm m x).banks = s.banks := rfl
@[simp] theorem State.setPwm_press (s : State) (m : Nat) (x : PwmMod) : (s.setPwm m x).press = s.press := rfl
@[simp] theorem State.setPwm_smem (s : State) (m : Nat) (x : PwmMod) : (s.setPwm m x).smem = s.smem := rfl
@[simp] theorem State.setPwm_adcs (s : State) (m : Nat) (x : PwmMod) : (s.setPwm m x).adcs = s.adcs := rfl
@[simp] theorem State.setPwm_td (s : State) (m : Nat) (x : PwmMod) : (s.setPwm m x).td = s.td := rfl
@[simp] theorem State.setPwm_lanes (s : State) (m : Nat) (x : PwmMod) : (s.setPwm m x).lanes = s.lanes := rfl
@[simp] theorem State.setPwm_lost (s : State) (m : Nat) (x : PwmMod) : (s.setPwm m x).lost = s.lost := rfl
@[simp] theorem State.setPwm_pwmPins (s : State) (m : Nat) (x : PwmMod) : (s.setPwm m x).pwmPins = s.pwmPins := rfl
@[simp] theorem State.setPwm_safeLatch (s : State) (m : Nat) (x : PwmMod) : (s.setPwm m x).safeLatch = s.safeLatch := rfl
@[simp] theorem State.setPwm_bankHold (s : State) (m : Nat) (x : PwmMod) : (s.setPwm m x).bankHold = s.bankHold := rfl
@[simp] theorem State.setPwm_taken (s : State) (m : Nat) (x : PwmMod) : (s.setPwm m x).taken = s.taken := rfl

/-! ### `State.setLane` -/

@[simp] theorem State.setLane_pending (s : State) (l : Nat) (x : Lane) : (s.setLane l x).pending = s.pending := rfl
@[simp] theorem State.setLane_tb (s : State) (l : Nat) (x : Lane) : (s.setLane l x).tb = s.tb := rfl
@[simp] theorem State.setLane_era (s : State) (l : Nat) (x : Lane) : (s.setLane l x).era = s.era := rfl
@[simp] theorem State.setLane_atClock (s : State) (l : Nat) (x : Lane) : (s.setLane l x).atClock = s.atClock := rfl
@[simp] theorem State.setLane_fresh (s : State) (l : Nat) (x : Lane) : (s.setLane l x).fresh = s.fresh := rfl
@[simp] theorem State.setLane_tbStopped (s : State) (l : Nat) (x : Lane) : (s.setLane l x).tbStopped = s.tbStopped := rfl
@[simp] theorem State.setLane_matchVal (s : State) (l : Nat) (x : Lane) : (s.setLane l x).matchVal = s.matchVal := rfl
@[simp] theorem State.setLane_matchTb (s : State) (l : Nat) (x : Lane) : (s.setLane l x).matchTb = s.matchTb := rfl
@[simp] theorem State.setLane_tick (s : State) (l : Nat) (x : Lane) : (s.setLane l x).tick = s.tick := rfl
@[simp] theorem State.setLane_regs (s : State) (l : Nat) (x : Lane) : (s.setLane l x).regs = s.regs := rfl
@[simp] theorem State.setLane_shadow (s : State) (l : Nat) (x : Lane) : (s.setLane l x).shadow = s.shadow := rfl
@[simp] theorem State.setLane_pages (s : State) (l : Nat) (x : Lane) : (s.setLane l x).pages = s.pages := rfl
@[simp] theorem State.setLane_running (s : State) (l : Nat) (x : Lane) : (s.setLane l x).running = s.running := rfl
@[simp] theorem State.setLane_groups (s : State) (l : Nat) (x : Lane) : (s.setLane l x).groups = s.groups := rfl
@[simp] theorem State.setLane_host (s : State) (l : Nat) (x : Lane) : (s.setLane l x).host = s.host := rfl
@[simp] theorem State.setLane_ring (s : State) (l : Nat) (x : Lane) : (s.setLane l x).ring = s.ring := rfl
@[simp] theorem State.setLane_hostMem (s : State) (l : Nat) (x : Lane) : (s.setLane l x).hostMem = s.hostMem := rfl
@[simp] theorem State.setLane_iu (s : State) (l : Nat) (x : Lane) : (s.setLane l x).iu = s.iu := rfl
@[simp] theorem State.setLane_whey (s : State) (l : Nat) (x : Lane) : (s.setLane l x).whey = s.whey := rfl
@[simp] theorem State.setLane_eth0 (s : State) (l : Nat) (x : Lane) : (s.setLane l x).eth0 = s.eth0 := rfl
@[simp] theorem State.setLane_eth1 (s : State) (l : Nat) (x : Lane) : (s.setLane l x).eth1 = s.eth1 := rfl
@[simp] theorem State.setLane_dom (s : State) (l : Nat) (x : Lane) : (s.setLane l x).dom = s.dom := rfl
@[simp] theorem State.setLane_mode (s : State) (l : Nat) (x : Lane) : (s.setLane l x).mode = s.mode := rfl
@[simp] theorem State.setLane_rind (s : State) (l : Nat) (x : Lane) : (s.setLane l x).rind = s.rind := rfl
@[simp] theorem State.setLane_chans (s : State) (l : Nat) (x : Lane) : (s.setLane l x).chans = s.chans := rfl
@[simp] theorem State.setLane_cal (s : State) (l : Nat) (x : Lane) : (s.setLane l x).cal = s.cal := rfl
@[simp] theorem State.setLane_maps (s : State) (l : Nat) (x : Lane) : (s.setLane l x).maps = s.maps := rfl
@[simp] theorem State.setLane_free (s : State) (l : Nat) (x : Lane) : (s.setLane l x).free = s.free := rfl
@[simp] theorem State.setLane_wheels (s : State) (l : Nat) (x : Lane) : (s.setLane l x).wheels = s.wheels := rfl
@[simp] theorem State.setLane_idx0 (s : State) (l : Nat) (x : Lane) : (s.setLane l x).idx0 = s.idx0 := rfl
@[simp] theorem State.setLane_idx1 (s : State) (l : Nat) (x : Lane) : (s.setLane l x).idx1 = s.idx1 := rfl
@[simp] theorem State.setLane_cycDiff (s : State) (l : Nat) (x : Lane) : (s.setLane l x).cycDiff = s.cycDiff := rfl
@[simp] theorem State.setLane_twinDue (s : State) (l : Nat) (x : Lane) : (s.setLane l x).twinDue = s.twinDue := rfl
@[simp] theorem State.setLane_twins (s : State) (l : Nat) (x : Lane) : (s.setLane l x).twins = s.twins := rfl
@[simp] theorem State.setLane_engs (s : State) (l : Nat) (x : Lane) : (s.setLane l x).engs = s.engs := rfl
@[simp] theorem State.setLane_clus (s : State) (l : Nat) (x : Lane) : (s.setLane l x).clus = s.clus := rfl
@[simp] theorem State.setLane_epochs (s : State) (l : Nat) (x : Lane) : (s.setLane l x).epochs = s.epochs := rfl
@[simp] theorem State.setLane_lastHeld (s : State) (l : Nat) (x : Lane) : (s.setLane l x).lastHeld = s.lastHeld := rfl
@[simp] theorem State.setLane_msgs (s : State) (l : Nat) (x : Lane) : (s.setLane l x).msgs = s.msgs := rfl
@[simp] theorem State.setLane_cstore (s : State) (l : Nat) (x : Lane) : (s.setLane l x).cstore = s.cstore := rfl
@[simp] theorem State.setLane_banks (s : State) (l : Nat) (x : Lane) : (s.setLane l x).banks = s.banks := rfl
@[simp] theorem State.setLane_press (s : State) (l : Nat) (x : Lane) : (s.setLane l x).press = s.press := rfl
@[simp] theorem State.setLane_smem (s : State) (l : Nat) (x : Lane) : (s.setLane l x).smem = s.smem := rfl
@[simp] theorem State.setLane_adcs (s : State) (l : Nat) (x : Lane) : (s.setLane l x).adcs = s.adcs := rfl
@[simp] theorem State.setLane_td (s : State) (l : Nat) (x : Lane) : (s.setLane l x).td = s.td := rfl
@[simp] theorem State.setLane_lost (s : State) (l : Nat) (x : Lane) : (s.setLane l x).lost = s.lost := rfl
@[simp] theorem State.setLane_pwms (s : State) (l : Nat) (x : Lane) : (s.setLane l x).pwms = s.pwms := rfl
@[simp] theorem State.setLane_pwmPins (s : State) (l : Nat) (x : Lane) : (s.setLane l x).pwmPins = s.pwmPins := rfl
@[simp] theorem State.setLane_safeLatch (s : State) (l : Nat) (x : Lane) : (s.setLane l x).safeLatch = s.safeLatch := rfl
@[simp] theorem State.setLane_bankHold (s : State) (l : Nat) (x : Lane) : (s.setLane l x).bankHold = s.bankHold := rfl
@[simp] theorem State.setLane_taken (s : State) (l : Nat) (x : Lane) : (s.setLane l x).taken = s.taken := rfl

/-! ### `State.setWheel` -/

@[simp] theorem State.setWheel_pending (s : State) (u : Nat) (x : Wheel) : (s.setWheel u x).pending = s.pending := rfl
@[simp] theorem State.setWheel_tb (s : State) (u : Nat) (x : Wheel) : (s.setWheel u x).tb = s.tb := rfl
@[simp] theorem State.setWheel_era (s : State) (u : Nat) (x : Wheel) : (s.setWheel u x).era = s.era := rfl
@[simp] theorem State.setWheel_atClock (s : State) (u : Nat) (x : Wheel) : (s.setWheel u x).atClock = s.atClock := rfl
@[simp] theorem State.setWheel_fresh (s : State) (u : Nat) (x : Wheel) : (s.setWheel u x).fresh = s.fresh := rfl
@[simp] theorem State.setWheel_tbStopped (s : State) (u : Nat) (x : Wheel) : (s.setWheel u x).tbStopped = s.tbStopped := rfl
@[simp] theorem State.setWheel_matchVal (s : State) (u : Nat) (x : Wheel) : (s.setWheel u x).matchVal = s.matchVal := rfl
@[simp] theorem State.setWheel_matchTb (s : State) (u : Nat) (x : Wheel) : (s.setWheel u x).matchTb = s.matchTb := rfl
@[simp] theorem State.setWheel_tick (s : State) (u : Nat) (x : Wheel) : (s.setWheel u x).tick = s.tick := rfl
@[simp] theorem State.setWheel_regs (s : State) (u : Nat) (x : Wheel) : (s.setWheel u x).regs = s.regs := rfl
@[simp] theorem State.setWheel_shadow (s : State) (u : Nat) (x : Wheel) : (s.setWheel u x).shadow = s.shadow := rfl
@[simp] theorem State.setWheel_pages (s : State) (u : Nat) (x : Wheel) : (s.setWheel u x).pages = s.pages := rfl
@[simp] theorem State.setWheel_running (s : State) (u : Nat) (x : Wheel) : (s.setWheel u x).running = s.running := rfl
@[simp] theorem State.setWheel_groups (s : State) (u : Nat) (x : Wheel) : (s.setWheel u x).groups = s.groups := rfl
@[simp] theorem State.setWheel_host (s : State) (u : Nat) (x : Wheel) : (s.setWheel u x).host = s.host := rfl
@[simp] theorem State.setWheel_ring (s : State) (u : Nat) (x : Wheel) : (s.setWheel u x).ring = s.ring := rfl
@[simp] theorem State.setWheel_hostMem (s : State) (u : Nat) (x : Wheel) : (s.setWheel u x).hostMem = s.hostMem := rfl
@[simp] theorem State.setWheel_iu (s : State) (u : Nat) (x : Wheel) : (s.setWheel u x).iu = s.iu := rfl
@[simp] theorem State.setWheel_whey (s : State) (u : Nat) (x : Wheel) : (s.setWheel u x).whey = s.whey := rfl
@[simp] theorem State.setWheel_eth0 (s : State) (u : Nat) (x : Wheel) : (s.setWheel u x).eth0 = s.eth0 := rfl
@[simp] theorem State.setWheel_eth1 (s : State) (u : Nat) (x : Wheel) : (s.setWheel u x).eth1 = s.eth1 := rfl
@[simp] theorem State.setWheel_dom (s : State) (u : Nat) (x : Wheel) : (s.setWheel u x).dom = s.dom := rfl
@[simp] theorem State.setWheel_mode (s : State) (u : Nat) (x : Wheel) : (s.setWheel u x).mode = s.mode := rfl
@[simp] theorem State.setWheel_rind (s : State) (u : Nat) (x : Wheel) : (s.setWheel u x).rind = s.rind := rfl
@[simp] theorem State.setWheel_chans (s : State) (u : Nat) (x : Wheel) : (s.setWheel u x).chans = s.chans := rfl
@[simp] theorem State.setWheel_cal (s : State) (u : Nat) (x : Wheel) : (s.setWheel u x).cal = s.cal := rfl
@[simp] theorem State.setWheel_maps (s : State) (u : Nat) (x : Wheel) : (s.setWheel u x).maps = s.maps := rfl
@[simp] theorem State.setWheel_free (s : State) (u : Nat) (x : Wheel) : (s.setWheel u x).free = s.free := rfl
@[simp] theorem State.setWheel_idx0 (s : State) (u : Nat) (x : Wheel) : (s.setWheel u x).idx0 = s.idx0 := rfl
@[simp] theorem State.setWheel_idx1 (s : State) (u : Nat) (x : Wheel) : (s.setWheel u x).idx1 = s.idx1 := rfl
@[simp] theorem State.setWheel_cycDiff (s : State) (u : Nat) (x : Wheel) : (s.setWheel u x).cycDiff = s.cycDiff := rfl
@[simp] theorem State.setWheel_twinDue (s : State) (u : Nat) (x : Wheel) : (s.setWheel u x).twinDue = s.twinDue := rfl
@[simp] theorem State.setWheel_twins (s : State) (u : Nat) (x : Wheel) : (s.setWheel u x).twins = s.twins := rfl
@[simp] theorem State.setWheel_engs (s : State) (u : Nat) (x : Wheel) : (s.setWheel u x).engs = s.engs := rfl
@[simp] theorem State.setWheel_clus (s : State) (u : Nat) (x : Wheel) : (s.setWheel u x).clus = s.clus := rfl
@[simp] theorem State.setWheel_epochs (s : State) (u : Nat) (x : Wheel) : (s.setWheel u x).epochs = s.epochs := rfl
@[simp] theorem State.setWheel_lastHeld (s : State) (u : Nat) (x : Wheel) : (s.setWheel u x).lastHeld = s.lastHeld := rfl
@[simp] theorem State.setWheel_msgs (s : State) (u : Nat) (x : Wheel) : (s.setWheel u x).msgs = s.msgs := rfl
@[simp] theorem State.setWheel_cstore (s : State) (u : Nat) (x : Wheel) : (s.setWheel u x).cstore = s.cstore := rfl
@[simp] theorem State.setWheel_banks (s : State) (u : Nat) (x : Wheel) : (s.setWheel u x).banks = s.banks := rfl
@[simp] theorem State.setWheel_press (s : State) (u : Nat) (x : Wheel) : (s.setWheel u x).press = s.press := rfl
@[simp] theorem State.setWheel_smem (s : State) (u : Nat) (x : Wheel) : (s.setWheel u x).smem = s.smem := rfl
@[simp] theorem State.setWheel_adcs (s : State) (u : Nat) (x : Wheel) : (s.setWheel u x).adcs = s.adcs := rfl
@[simp] theorem State.setWheel_td (s : State) (u : Nat) (x : Wheel) : (s.setWheel u x).td = s.td := rfl
@[simp] theorem State.setWheel_lanes (s : State) (u : Nat) (x : Wheel) : (s.setWheel u x).lanes = s.lanes := rfl
@[simp] theorem State.setWheel_lost (s : State) (u : Nat) (x : Wheel) : (s.setWheel u x).lost = s.lost := rfl
@[simp] theorem State.setWheel_pwms (s : State) (u : Nat) (x : Wheel) : (s.setWheel u x).pwms = s.pwms := rfl
@[simp] theorem State.setWheel_pwmPins (s : State) (u : Nat) (x : Wheel) : (s.setWheel u x).pwmPins = s.pwmPins := rfl
@[simp] theorem State.setWheel_safeLatch (s : State) (u : Nat) (x : Wheel) : (s.setWheel u x).safeLatch = s.safeLatch := rfl
@[simp] theorem State.setWheel_bankHold (s : State) (u : Nat) (x : Wheel) : (s.setWheel u x).bankHold = s.bankHold := rfl
@[simp] theorem State.setWheel_taken (s : State) (u : Nat) (x : Wheel) : (s.setWheel u x).taken = s.taken := rfl

/-! ### `State.setItgt` -/

@[simp] theorem State.setItgt_pending (s : State) (n : Nat) (x : IuTgt) : (s.setItgt n x).pending = s.pending := rfl
@[simp] theorem State.setItgt_tb (s : State) (n : Nat) (x : IuTgt) : (s.setItgt n x).tb = s.tb := rfl
@[simp] theorem State.setItgt_era (s : State) (n : Nat) (x : IuTgt) : (s.setItgt n x).era = s.era := rfl
@[simp] theorem State.setItgt_atClock (s : State) (n : Nat) (x : IuTgt) : (s.setItgt n x).atClock = s.atClock := rfl
@[simp] theorem State.setItgt_fresh (s : State) (n : Nat) (x : IuTgt) : (s.setItgt n x).fresh = s.fresh := rfl
@[simp] theorem State.setItgt_tbStopped (s : State) (n : Nat) (x : IuTgt) : (s.setItgt n x).tbStopped = s.tbStopped := rfl
@[simp] theorem State.setItgt_matchVal (s : State) (n : Nat) (x : IuTgt) : (s.setItgt n x).matchVal = s.matchVal := rfl
@[simp] theorem State.setItgt_matchTb (s : State) (n : Nat) (x : IuTgt) : (s.setItgt n x).matchTb = s.matchTb := rfl
@[simp] theorem State.setItgt_tick (s : State) (n : Nat) (x : IuTgt) : (s.setItgt n x).tick = s.tick := rfl
@[simp] theorem State.setItgt_regs (s : State) (n : Nat) (x : IuTgt) : (s.setItgt n x).regs = s.regs := rfl
@[simp] theorem State.setItgt_shadow (s : State) (n : Nat) (x : IuTgt) : (s.setItgt n x).shadow = s.shadow := rfl
@[simp] theorem State.setItgt_pages (s : State) (n : Nat) (x : IuTgt) : (s.setItgt n x).pages = s.pages := rfl
@[simp] theorem State.setItgt_running (s : State) (n : Nat) (x : IuTgt) : (s.setItgt n x).running = s.running := rfl
@[simp] theorem State.setItgt_groups (s : State) (n : Nat) (x : IuTgt) : (s.setItgt n x).groups = s.groups := rfl
@[simp] theorem State.setItgt_host (s : State) (n : Nat) (x : IuTgt) : (s.setItgt n x).host = s.host := rfl
@[simp] theorem State.setItgt_ring (s : State) (n : Nat) (x : IuTgt) : (s.setItgt n x).ring = s.ring := rfl
@[simp] theorem State.setItgt_hostMem (s : State) (n : Nat) (x : IuTgt) : (s.setItgt n x).hostMem = s.hostMem := rfl
@[simp] theorem State.setItgt_whey (s : State) (n : Nat) (x : IuTgt) : (s.setItgt n x).whey = s.whey := rfl
@[simp] theorem State.setItgt_eth0 (s : State) (n : Nat) (x : IuTgt) : (s.setItgt n x).eth0 = s.eth0 := rfl
@[simp] theorem State.setItgt_eth1 (s : State) (n : Nat) (x : IuTgt) : (s.setItgt n x).eth1 = s.eth1 := rfl
@[simp] theorem State.setItgt_dom (s : State) (n : Nat) (x : IuTgt) : (s.setItgt n x).dom = s.dom := rfl
@[simp] theorem State.setItgt_mode (s : State) (n : Nat) (x : IuTgt) : (s.setItgt n x).mode = s.mode := rfl
@[simp] theorem State.setItgt_rind (s : State) (n : Nat) (x : IuTgt) : (s.setItgt n x).rind = s.rind := rfl
@[simp] theorem State.setItgt_chans (s : State) (n : Nat) (x : IuTgt) : (s.setItgt n x).chans = s.chans := rfl
@[simp] theorem State.setItgt_cal (s : State) (n : Nat) (x : IuTgt) : (s.setItgt n x).cal = s.cal := rfl
@[simp] theorem State.setItgt_maps (s : State) (n : Nat) (x : IuTgt) : (s.setItgt n x).maps = s.maps := rfl
@[simp] theorem State.setItgt_free (s : State) (n : Nat) (x : IuTgt) : (s.setItgt n x).free = s.free := rfl
@[simp] theorem State.setItgt_wheels (s : State) (n : Nat) (x : IuTgt) : (s.setItgt n x).wheels = s.wheels := rfl
@[simp] theorem State.setItgt_idx0 (s : State) (n : Nat) (x : IuTgt) : (s.setItgt n x).idx0 = s.idx0 := rfl
@[simp] theorem State.setItgt_idx1 (s : State) (n : Nat) (x : IuTgt) : (s.setItgt n x).idx1 = s.idx1 := rfl
@[simp] theorem State.setItgt_cycDiff (s : State) (n : Nat) (x : IuTgt) : (s.setItgt n x).cycDiff = s.cycDiff := rfl
@[simp] theorem State.setItgt_twinDue (s : State) (n : Nat) (x : IuTgt) : (s.setItgt n x).twinDue = s.twinDue := rfl
@[simp] theorem State.setItgt_twins (s : State) (n : Nat) (x : IuTgt) : (s.setItgt n x).twins = s.twins := rfl
@[simp] theorem State.setItgt_engs (s : State) (n : Nat) (x : IuTgt) : (s.setItgt n x).engs = s.engs := rfl
@[simp] theorem State.setItgt_clus (s : State) (n : Nat) (x : IuTgt) : (s.setItgt n x).clus = s.clus := rfl
@[simp] theorem State.setItgt_epochs (s : State) (n : Nat) (x : IuTgt) : (s.setItgt n x).epochs = s.epochs := rfl
@[simp] theorem State.setItgt_lastHeld (s : State) (n : Nat) (x : IuTgt) : (s.setItgt n x).lastHeld = s.lastHeld := rfl
@[simp] theorem State.setItgt_msgs (s : State) (n : Nat) (x : IuTgt) : (s.setItgt n x).msgs = s.msgs := rfl
@[simp] theorem State.setItgt_cstore (s : State) (n : Nat) (x : IuTgt) : (s.setItgt n x).cstore = s.cstore := rfl
@[simp] theorem State.setItgt_banks (s : State) (n : Nat) (x : IuTgt) : (s.setItgt n x).banks = s.banks := rfl
@[simp] theorem State.setItgt_press (s : State) (n : Nat) (x : IuTgt) : (s.setItgt n x).press = s.press := rfl
@[simp] theorem State.setItgt_smem (s : State) (n : Nat) (x : IuTgt) : (s.setItgt n x).smem = s.smem := rfl
@[simp] theorem State.setItgt_adcs (s : State) (n : Nat) (x : IuTgt) : (s.setItgt n x).adcs = s.adcs := rfl
@[simp] theorem State.setItgt_td (s : State) (n : Nat) (x : IuTgt) : (s.setItgt n x).td = s.td := rfl
@[simp] theorem State.setItgt_lanes (s : State) (n : Nat) (x : IuTgt) : (s.setItgt n x).lanes = s.lanes := rfl
@[simp] theorem State.setItgt_lost (s : State) (n : Nat) (x : IuTgt) : (s.setItgt n x).lost = s.lost := rfl
@[simp] theorem State.setItgt_pwms (s : State) (n : Nat) (x : IuTgt) : (s.setItgt n x).pwms = s.pwms := rfl
@[simp] theorem State.setItgt_pwmPins (s : State) (n : Nat) (x : IuTgt) : (s.setItgt n x).pwmPins = s.pwmPins := rfl
@[simp] theorem State.setItgt_safeLatch (s : State) (n : Nat) (x : IuTgt) : (s.setItgt n x).safeLatch = s.safeLatch := rfl
@[simp] theorem State.setItgt_bankHold (s : State) (n : Nat) (x : IuTgt) : (s.setItgt n x).bankHold = s.bankHold := rfl
@[simp] theorem State.setItgt_taken (s : State) (n : Nat) (x : IuTgt) : (s.setItgt n x).taken = s.taken := rfl

/-! ### `State.setIsrc` -/

@[simp] theorem State.setIsrc_pending (s : State) (n : Nat) (x : IuSrc) : (s.setIsrc n x).pending = s.pending := rfl
@[simp] theorem State.setIsrc_tb (s : State) (n : Nat) (x : IuSrc) : (s.setIsrc n x).tb = s.tb := rfl
@[simp] theorem State.setIsrc_era (s : State) (n : Nat) (x : IuSrc) : (s.setIsrc n x).era = s.era := rfl
@[simp] theorem State.setIsrc_atClock (s : State) (n : Nat) (x : IuSrc) : (s.setIsrc n x).atClock = s.atClock := rfl
@[simp] theorem State.setIsrc_fresh (s : State) (n : Nat) (x : IuSrc) : (s.setIsrc n x).fresh = s.fresh := rfl
@[simp] theorem State.setIsrc_tbStopped (s : State) (n : Nat) (x : IuSrc) : (s.setIsrc n x).tbStopped = s.tbStopped := rfl
@[simp] theorem State.setIsrc_matchVal (s : State) (n : Nat) (x : IuSrc) : (s.setIsrc n x).matchVal = s.matchVal := rfl
@[simp] theorem State.setIsrc_matchTb (s : State) (n : Nat) (x : IuSrc) : (s.setIsrc n x).matchTb = s.matchTb := rfl
@[simp] theorem State.setIsrc_tick (s : State) (n : Nat) (x : IuSrc) : (s.setIsrc n x).tick = s.tick := rfl
@[simp] theorem State.setIsrc_regs (s : State) (n : Nat) (x : IuSrc) : (s.setIsrc n x).regs = s.regs := rfl
@[simp] theorem State.setIsrc_shadow (s : State) (n : Nat) (x : IuSrc) : (s.setIsrc n x).shadow = s.shadow := rfl
@[simp] theorem State.setIsrc_pages (s : State) (n : Nat) (x : IuSrc) : (s.setIsrc n x).pages = s.pages := rfl
@[simp] theorem State.setIsrc_running (s : State) (n : Nat) (x : IuSrc) : (s.setIsrc n x).running = s.running := rfl
@[simp] theorem State.setIsrc_groups (s : State) (n : Nat) (x : IuSrc) : (s.setIsrc n x).groups = s.groups := rfl
@[simp] theorem State.setIsrc_host (s : State) (n : Nat) (x : IuSrc) : (s.setIsrc n x).host = s.host := rfl
@[simp] theorem State.setIsrc_ring (s : State) (n : Nat) (x : IuSrc) : (s.setIsrc n x).ring = s.ring := rfl
@[simp] theorem State.setIsrc_hostMem (s : State) (n : Nat) (x : IuSrc) : (s.setIsrc n x).hostMem = s.hostMem := rfl
@[simp] theorem State.setIsrc_whey (s : State) (n : Nat) (x : IuSrc) : (s.setIsrc n x).whey = s.whey := rfl
@[simp] theorem State.setIsrc_eth0 (s : State) (n : Nat) (x : IuSrc) : (s.setIsrc n x).eth0 = s.eth0 := rfl
@[simp] theorem State.setIsrc_eth1 (s : State) (n : Nat) (x : IuSrc) : (s.setIsrc n x).eth1 = s.eth1 := rfl
@[simp] theorem State.setIsrc_dom (s : State) (n : Nat) (x : IuSrc) : (s.setIsrc n x).dom = s.dom := rfl
@[simp] theorem State.setIsrc_mode (s : State) (n : Nat) (x : IuSrc) : (s.setIsrc n x).mode = s.mode := rfl
@[simp] theorem State.setIsrc_rind (s : State) (n : Nat) (x : IuSrc) : (s.setIsrc n x).rind = s.rind := rfl
@[simp] theorem State.setIsrc_chans (s : State) (n : Nat) (x : IuSrc) : (s.setIsrc n x).chans = s.chans := rfl
@[simp] theorem State.setIsrc_cal (s : State) (n : Nat) (x : IuSrc) : (s.setIsrc n x).cal = s.cal := rfl
@[simp] theorem State.setIsrc_maps (s : State) (n : Nat) (x : IuSrc) : (s.setIsrc n x).maps = s.maps := rfl
@[simp] theorem State.setIsrc_free (s : State) (n : Nat) (x : IuSrc) : (s.setIsrc n x).free = s.free := rfl
@[simp] theorem State.setIsrc_wheels (s : State) (n : Nat) (x : IuSrc) : (s.setIsrc n x).wheels = s.wheels := rfl
@[simp] theorem State.setIsrc_idx0 (s : State) (n : Nat) (x : IuSrc) : (s.setIsrc n x).idx0 = s.idx0 := rfl
@[simp] theorem State.setIsrc_idx1 (s : State) (n : Nat) (x : IuSrc) : (s.setIsrc n x).idx1 = s.idx1 := rfl
@[simp] theorem State.setIsrc_cycDiff (s : State) (n : Nat) (x : IuSrc) : (s.setIsrc n x).cycDiff = s.cycDiff := rfl
@[simp] theorem State.setIsrc_twinDue (s : State) (n : Nat) (x : IuSrc) : (s.setIsrc n x).twinDue = s.twinDue := rfl
@[simp] theorem State.setIsrc_twins (s : State) (n : Nat) (x : IuSrc) : (s.setIsrc n x).twins = s.twins := rfl
@[simp] theorem State.setIsrc_engs (s : State) (n : Nat) (x : IuSrc) : (s.setIsrc n x).engs = s.engs := rfl
@[simp] theorem State.setIsrc_clus (s : State) (n : Nat) (x : IuSrc) : (s.setIsrc n x).clus = s.clus := rfl
@[simp] theorem State.setIsrc_epochs (s : State) (n : Nat) (x : IuSrc) : (s.setIsrc n x).epochs = s.epochs := rfl
@[simp] theorem State.setIsrc_lastHeld (s : State) (n : Nat) (x : IuSrc) : (s.setIsrc n x).lastHeld = s.lastHeld := rfl
@[simp] theorem State.setIsrc_msgs (s : State) (n : Nat) (x : IuSrc) : (s.setIsrc n x).msgs = s.msgs := rfl
@[simp] theorem State.setIsrc_cstore (s : State) (n : Nat) (x : IuSrc) : (s.setIsrc n x).cstore = s.cstore := rfl
@[simp] theorem State.setIsrc_banks (s : State) (n : Nat) (x : IuSrc) : (s.setIsrc n x).banks = s.banks := rfl
@[simp] theorem State.setIsrc_press (s : State) (n : Nat) (x : IuSrc) : (s.setIsrc n x).press = s.press := rfl
@[simp] theorem State.setIsrc_smem (s : State) (n : Nat) (x : IuSrc) : (s.setIsrc n x).smem = s.smem := rfl
@[simp] theorem State.setIsrc_adcs (s : State) (n : Nat) (x : IuSrc) : (s.setIsrc n x).adcs = s.adcs := rfl
@[simp] theorem State.setIsrc_td (s : State) (n : Nat) (x : IuSrc) : (s.setIsrc n x).td = s.td := rfl
@[simp] theorem State.setIsrc_lanes (s : State) (n : Nat) (x : IuSrc) : (s.setIsrc n x).lanes = s.lanes := rfl
@[simp] theorem State.setIsrc_lost (s : State) (n : Nat) (x : IuSrc) : (s.setIsrc n x).lost = s.lost := rfl
@[simp] theorem State.setIsrc_pwms (s : State) (n : Nat) (x : IuSrc) : (s.setIsrc n x).pwms = s.pwms := rfl
@[simp] theorem State.setIsrc_pwmPins (s : State) (n : Nat) (x : IuSrc) : (s.setIsrc n x).pwmPins = s.pwmPins := rfl
@[simp] theorem State.setIsrc_safeLatch (s : State) (n : Nat) (x : IuSrc) : (s.setIsrc n x).safeLatch = s.safeLatch := rfl
@[simp] theorem State.setIsrc_bankHold (s : State) (n : Nat) (x : IuSrc) : (s.setIsrc n x).bankHold = s.bankHold := rfl
@[simp] theorem State.setIsrc_taken (s : State) (n : Nat) (x : IuSrc) : (s.setIsrc n x).taken = s.taken := rfl

/-! ### `State.setMsix` -/

@[simp] theorem State.setMsix_pending (s : State) (v : Nat) (m : Msix) : (s.setMsix v m).pending = s.pending := rfl
@[simp] theorem State.setMsix_tb (s : State) (v : Nat) (m : Msix) : (s.setMsix v m).tb = s.tb := rfl
@[simp] theorem State.setMsix_era (s : State) (v : Nat) (m : Msix) : (s.setMsix v m).era = s.era := rfl
@[simp] theorem State.setMsix_atClock (s : State) (v : Nat) (m : Msix) : (s.setMsix v m).atClock = s.atClock := rfl
@[simp] theorem State.setMsix_fresh (s : State) (v : Nat) (m : Msix) : (s.setMsix v m).fresh = s.fresh := rfl
@[simp] theorem State.setMsix_tbStopped (s : State) (v : Nat) (m : Msix) : (s.setMsix v m).tbStopped = s.tbStopped := rfl
@[simp] theorem State.setMsix_matchVal (s : State) (v : Nat) (m : Msix) : (s.setMsix v m).matchVal = s.matchVal := rfl
@[simp] theorem State.setMsix_matchTb (s : State) (v : Nat) (m : Msix) : (s.setMsix v m).matchTb = s.matchTb := rfl
@[simp] theorem State.setMsix_tick (s : State) (v : Nat) (m : Msix) : (s.setMsix v m).tick = s.tick := rfl
@[simp] theorem State.setMsix_regs (s : State) (v : Nat) (m : Msix) : (s.setMsix v m).regs = s.regs := rfl
@[simp] theorem State.setMsix_shadow (s : State) (v : Nat) (m : Msix) : (s.setMsix v m).shadow = s.shadow := rfl
@[simp] theorem State.setMsix_pages (s : State) (v : Nat) (m : Msix) : (s.setMsix v m).pages = s.pages := rfl
@[simp] theorem State.setMsix_running (s : State) (v : Nat) (m : Msix) : (s.setMsix v m).running = s.running := rfl
@[simp] theorem State.setMsix_groups (s : State) (v : Nat) (m : Msix) : (s.setMsix v m).groups = s.groups := rfl
@[simp] theorem State.setMsix_ring (s : State) (v : Nat) (m : Msix) : (s.setMsix v m).ring = s.ring := rfl
@[simp] theorem State.setMsix_hostMem (s : State) (v : Nat) (m : Msix) : (s.setMsix v m).hostMem = s.hostMem := rfl
@[simp] theorem State.setMsix_iu (s : State) (v : Nat) (m : Msix) : (s.setMsix v m).iu = s.iu := rfl
@[simp] theorem State.setMsix_whey (s : State) (v : Nat) (m : Msix) : (s.setMsix v m).whey = s.whey := rfl
@[simp] theorem State.setMsix_eth0 (s : State) (v : Nat) (m : Msix) : (s.setMsix v m).eth0 = s.eth0 := rfl
@[simp] theorem State.setMsix_eth1 (s : State) (v : Nat) (m : Msix) : (s.setMsix v m).eth1 = s.eth1 := rfl
@[simp] theorem State.setMsix_dom (s : State) (v : Nat) (m : Msix) : (s.setMsix v m).dom = s.dom := rfl
@[simp] theorem State.setMsix_mode (s : State) (v : Nat) (m : Msix) : (s.setMsix v m).mode = s.mode := rfl
@[simp] theorem State.setMsix_rind (s : State) (v : Nat) (m : Msix) : (s.setMsix v m).rind = s.rind := rfl
@[simp] theorem State.setMsix_chans (s : State) (v : Nat) (m : Msix) : (s.setMsix v m).chans = s.chans := rfl
@[simp] theorem State.setMsix_cal (s : State) (v : Nat) (m : Msix) : (s.setMsix v m).cal = s.cal := rfl
@[simp] theorem State.setMsix_maps (s : State) (v : Nat) (m : Msix) : (s.setMsix v m).maps = s.maps := rfl
@[simp] theorem State.setMsix_free (s : State) (v : Nat) (m : Msix) : (s.setMsix v m).free = s.free := rfl
@[simp] theorem State.setMsix_wheels (s : State) (v : Nat) (m : Msix) : (s.setMsix v m).wheels = s.wheels := rfl
@[simp] theorem State.setMsix_idx0 (s : State) (v : Nat) (m : Msix) : (s.setMsix v m).idx0 = s.idx0 := rfl
@[simp] theorem State.setMsix_idx1 (s : State) (v : Nat) (m : Msix) : (s.setMsix v m).idx1 = s.idx1 := rfl
@[simp] theorem State.setMsix_cycDiff (s : State) (v : Nat) (m : Msix) : (s.setMsix v m).cycDiff = s.cycDiff := rfl
@[simp] theorem State.setMsix_twinDue (s : State) (v : Nat) (m : Msix) : (s.setMsix v m).twinDue = s.twinDue := rfl
@[simp] theorem State.setMsix_twins (s : State) (v : Nat) (m : Msix) : (s.setMsix v m).twins = s.twins := rfl
@[simp] theorem State.setMsix_engs (s : State) (v : Nat) (m : Msix) : (s.setMsix v m).engs = s.engs := rfl
@[simp] theorem State.setMsix_clus (s : State) (v : Nat) (m : Msix) : (s.setMsix v m).clus = s.clus := rfl
@[simp] theorem State.setMsix_epochs (s : State) (v : Nat) (m : Msix) : (s.setMsix v m).epochs = s.epochs := rfl
@[simp] theorem State.setMsix_lastHeld (s : State) (v : Nat) (m : Msix) : (s.setMsix v m).lastHeld = s.lastHeld := rfl
@[simp] theorem State.setMsix_msgs (s : State) (v : Nat) (m : Msix) : (s.setMsix v m).msgs = s.msgs := rfl
@[simp] theorem State.setMsix_cstore (s : State) (v : Nat) (m : Msix) : (s.setMsix v m).cstore = s.cstore := rfl
@[simp] theorem State.setMsix_banks (s : State) (v : Nat) (m : Msix) : (s.setMsix v m).banks = s.banks := rfl
@[simp] theorem State.setMsix_press (s : State) (v : Nat) (m : Msix) : (s.setMsix v m).press = s.press := rfl
@[simp] theorem State.setMsix_smem (s : State) (v : Nat) (m : Msix) : (s.setMsix v m).smem = s.smem := rfl
@[simp] theorem State.setMsix_adcs (s : State) (v : Nat) (m : Msix) : (s.setMsix v m).adcs = s.adcs := rfl
@[simp] theorem State.setMsix_td (s : State) (v : Nat) (m : Msix) : (s.setMsix v m).td = s.td := rfl
@[simp] theorem State.setMsix_lanes (s : State) (v : Nat) (m : Msix) : (s.setMsix v m).lanes = s.lanes := rfl
@[simp] theorem State.setMsix_lost (s : State) (v : Nat) (m : Msix) : (s.setMsix v m).lost = s.lost := rfl
@[simp] theorem State.setMsix_pwms (s : State) (v : Nat) (m : Msix) : (s.setMsix v m).pwms = s.pwms := rfl
@[simp] theorem State.setMsix_pwmPins (s : State) (v : Nat) (m : Msix) : (s.setMsix v m).pwmPins = s.pwmPins := rfl
@[simp] theorem State.setMsix_safeLatch (s : State) (v : Nat) (m : Msix) : (s.setMsix v m).safeLatch = s.safeLatch := rfl
@[simp] theorem State.setMsix_bankHold (s : State) (v : Nat) (m : Msix) : (s.setMsix v m).bankHold = s.bankHold := rfl
@[simp] theorem State.setMsix_taken (s : State) (v : Nat) (m : Msix) : (s.setMsix v m).taken = s.taken := rfl

/-! ### `State.setBank` -/

@[simp] theorem State.setBank_pending (s : State) (c : Nat) (b : Bool) (x : BankSt) : (s.setBank c b x).pending = s.pending := rfl
@[simp] theorem State.setBank_tb (s : State) (c : Nat) (b : Bool) (x : BankSt) : (s.setBank c b x).tb = s.tb := rfl
@[simp] theorem State.setBank_era (s : State) (c : Nat) (b : Bool) (x : BankSt) : (s.setBank c b x).era = s.era := rfl
@[simp] theorem State.setBank_atClock (s : State) (c : Nat) (b : Bool) (x : BankSt) : (s.setBank c b x).atClock = s.atClock := rfl
@[simp] theorem State.setBank_fresh (s : State) (c : Nat) (b : Bool) (x : BankSt) : (s.setBank c b x).fresh = s.fresh := rfl
@[simp] theorem State.setBank_tbStopped (s : State) (c : Nat) (b : Bool) (x : BankSt) : (s.setBank c b x).tbStopped = s.tbStopped := rfl
@[simp] theorem State.setBank_matchVal (s : State) (c : Nat) (b : Bool) (x : BankSt) : (s.setBank c b x).matchVal = s.matchVal := rfl
@[simp] theorem State.setBank_matchTb (s : State) (c : Nat) (b : Bool) (x : BankSt) : (s.setBank c b x).matchTb = s.matchTb := rfl
@[simp] theorem State.setBank_tick (s : State) (c : Nat) (b : Bool) (x : BankSt) : (s.setBank c b x).tick = s.tick := rfl
@[simp] theorem State.setBank_regs (s : State) (c : Nat) (b : Bool) (x : BankSt) : (s.setBank c b x).regs = s.regs := rfl
@[simp] theorem State.setBank_shadow (s : State) (c : Nat) (b : Bool) (x : BankSt) : (s.setBank c b x).shadow = s.shadow := rfl
@[simp] theorem State.setBank_pages (s : State) (c : Nat) (b : Bool) (x : BankSt) : (s.setBank c b x).pages = s.pages := rfl
@[simp] theorem State.setBank_running (s : State) (c : Nat) (b : Bool) (x : BankSt) : (s.setBank c b x).running = s.running := rfl
@[simp] theorem State.setBank_groups (s : State) (c : Nat) (b : Bool) (x : BankSt) : (s.setBank c b x).groups = s.groups := rfl
@[simp] theorem State.setBank_host (s : State) (c : Nat) (b : Bool) (x : BankSt) : (s.setBank c b x).host = s.host := rfl
@[simp] theorem State.setBank_ring (s : State) (c : Nat) (b : Bool) (x : BankSt) : (s.setBank c b x).ring = s.ring := rfl
@[simp] theorem State.setBank_hostMem (s : State) (c : Nat) (b : Bool) (x : BankSt) : (s.setBank c b x).hostMem = s.hostMem := rfl
@[simp] theorem State.setBank_iu (s : State) (c : Nat) (b : Bool) (x : BankSt) : (s.setBank c b x).iu = s.iu := rfl
@[simp] theorem State.setBank_whey (s : State) (c : Nat) (b : Bool) (x : BankSt) : (s.setBank c b x).whey = s.whey := rfl
@[simp] theorem State.setBank_eth0 (s : State) (c : Nat) (b : Bool) (x : BankSt) : (s.setBank c b x).eth0 = s.eth0 := rfl
@[simp] theorem State.setBank_eth1 (s : State) (c : Nat) (b : Bool) (x : BankSt) : (s.setBank c b x).eth1 = s.eth1 := rfl
@[simp] theorem State.setBank_dom (s : State) (c : Nat) (b : Bool) (x : BankSt) : (s.setBank c b x).dom = s.dom := rfl
@[simp] theorem State.setBank_mode (s : State) (c : Nat) (b : Bool) (x : BankSt) : (s.setBank c b x).mode = s.mode := rfl
@[simp] theorem State.setBank_rind (s : State) (c : Nat) (b : Bool) (x : BankSt) : (s.setBank c b x).rind = s.rind := rfl
@[simp] theorem State.setBank_chans (s : State) (c : Nat) (b : Bool) (x : BankSt) : (s.setBank c b x).chans = s.chans := rfl
@[simp] theorem State.setBank_cal (s : State) (c : Nat) (b : Bool) (x : BankSt) : (s.setBank c b x).cal = s.cal := rfl
@[simp] theorem State.setBank_maps (s : State) (c : Nat) (b : Bool) (x : BankSt) : (s.setBank c b x).maps = s.maps := rfl
@[simp] theorem State.setBank_free (s : State) (c : Nat) (b : Bool) (x : BankSt) : (s.setBank c b x).free = s.free := rfl
@[simp] theorem State.setBank_wheels (s : State) (c : Nat) (b : Bool) (x : BankSt) : (s.setBank c b x).wheels = s.wheels := rfl
@[simp] theorem State.setBank_idx0 (s : State) (c : Nat) (b : Bool) (x : BankSt) : (s.setBank c b x).idx0 = s.idx0 := rfl
@[simp] theorem State.setBank_idx1 (s : State) (c : Nat) (b : Bool) (x : BankSt) : (s.setBank c b x).idx1 = s.idx1 := rfl
@[simp] theorem State.setBank_cycDiff (s : State) (c : Nat) (b : Bool) (x : BankSt) : (s.setBank c b x).cycDiff = s.cycDiff := rfl
@[simp] theorem State.setBank_twinDue (s : State) (c : Nat) (b : Bool) (x : BankSt) : (s.setBank c b x).twinDue = s.twinDue := rfl
@[simp] theorem State.setBank_twins (s : State) (c : Nat) (b : Bool) (x : BankSt) : (s.setBank c b x).twins = s.twins := rfl
@[simp] theorem State.setBank_engs (s : State) (c : Nat) (b : Bool) (x : BankSt) : (s.setBank c b x).engs = s.engs := rfl
@[simp] theorem State.setBank_clus (s : State) (c : Nat) (b : Bool) (x : BankSt) : (s.setBank c b x).clus = s.clus := rfl
@[simp] theorem State.setBank_epochs (s : State) (c : Nat) (b : Bool) (x : BankSt) : (s.setBank c b x).epochs = s.epochs := rfl
@[simp] theorem State.setBank_lastHeld (s : State) (c : Nat) (b : Bool) (x : BankSt) : (s.setBank c b x).lastHeld = s.lastHeld := rfl
@[simp] theorem State.setBank_msgs (s : State) (c : Nat) (b : Bool) (x : BankSt) : (s.setBank c b x).msgs = s.msgs := rfl
@[simp] theorem State.setBank_cstore (s : State) (c : Nat) (b : Bool) (x : BankSt) : (s.setBank c b x).cstore = s.cstore := rfl
@[simp] theorem State.setBank_press (s : State) (c : Nat) (b : Bool) (x : BankSt) : (s.setBank c b x).press = s.press := rfl
@[simp] theorem State.setBank_smem (s : State) (c : Nat) (b : Bool) (x : BankSt) : (s.setBank c b x).smem = s.smem := rfl
@[simp] theorem State.setBank_adcs (s : State) (c : Nat) (b : Bool) (x : BankSt) : (s.setBank c b x).adcs = s.adcs := rfl
@[simp] theorem State.setBank_td (s : State) (c : Nat) (b : Bool) (x : BankSt) : (s.setBank c b x).td = s.td := rfl
@[simp] theorem State.setBank_lanes (s : State) (c : Nat) (b : Bool) (x : BankSt) : (s.setBank c b x).lanes = s.lanes := rfl
@[simp] theorem State.setBank_lost (s : State) (c : Nat) (b : Bool) (x : BankSt) : (s.setBank c b x).lost = s.lost := rfl
@[simp] theorem State.setBank_pwms (s : State) (c : Nat) (b : Bool) (x : BankSt) : (s.setBank c b x).pwms = s.pwms := rfl
@[simp] theorem State.setBank_pwmPins (s : State) (c : Nat) (b : Bool) (x : BankSt) : (s.setBank c b x).pwmPins = s.pwmPins := rfl
@[simp] theorem State.setBank_safeLatch (s : State) (c : Nat) (b : Bool) (x : BankSt) : (s.setBank c b x).safeLatch = s.safeLatch := rfl
@[simp] theorem State.setBank_bankHold (s : State) (c : Nat) (b : Bool) (x : BankSt) : (s.setBank c b x).bankHold = s.bankHold := rfl
@[simp] theorem State.setBank_taken (s : State) (c : Nat) (b : Bool) (x : BankSt) : (s.setBank c b x).taken = s.taken := rfl
/-! ### What is read through an accessor -/

@[simp] theorem State.setReg_get_page (s : State) (p o : Nat) (w : Word) (p' : Nat) : (s.setReg p o w).page p' = s.page p' := rfl
@[simp] theorem State.setReg_get_clu (s : State) (p o : Nat) (w : Word) (c' : Nat) : (s.setReg p o w).clu c' = s.clu c' := rfl
@[simp] theorem State.setReg_get_chan (s : State) (p o : Nat) (w : Word) (c' : Nat) : (s.setReg p o w).chan c' = s.chan c' := rfl
@[simp] theorem State.setReg_get_adc (s : State) (p o : Nat) (w : Word) (n' : Nat) : (s.setReg p o w).adc n' = s.adc n' := rfl
@[simp] theorem State.setReg_get_mapOf (s : State) (p o : Nat) (w : Word) (u' : Nat) : (s.setReg p o w).mapOf u' = s.mapOf u' := rfl
@[simp] theorem State.setReg_get_pwm (s : State) (p o : Nat) (w : Word) (m' : Nat) : (s.setReg p o w).pwm m' = s.pwm m' := rfl
@[simp] theorem State.setReg_get_lane (s : State) (p o : Nat) (w : Word) (l' : Nat) : (s.setReg p o w).lane l' = s.lane l' := rfl
@[simp] theorem State.setReg_get_wheel (s : State) (p o : Nat) (w : Word) (u' : Nat) : (s.setReg p o w).wheel u' = s.wheel u' := rfl
@[simp] theorem State.setReg_get_eng (s : State) (p o : Nat) (w : Word) (e' : Nat) : (s.setReg p o w).eng e' = s.eng e' := rfl
@[simp] theorem State.setReg_get_itgt (s : State) (p o : Nat) (w : Word) (n' : Nat) : (s.setReg p o w).itgt n' = s.itgt n' := rfl
@[simp] theorem State.setReg_get_isrc (s : State) (p o : Nat) (w : Word) (n' : Nat) : (s.setReg p o w).isrc n' = s.isrc n' := rfl
@[simp] theorem State.setPage_get_reg (s : State) (p : Nat) (x : PageSt) (p' o' : Nat) : (s.setPage p x).reg p' o' = s.reg p' o' := rfl
@[simp] theorem State.setPage_get_clu (s : State) (p : Nat) (x : PageSt) (c' : Nat) : (s.setPage p x).clu c' = s.clu c' := rfl
@[simp] theorem State.setPage_get_chan (s : State) (p : Nat) (x : PageSt) (c' : Nat) : (s.setPage p x).chan c' = s.chan c' := rfl
@[simp] theorem State.setPage_get_adc (s : State) (p : Nat) (x : PageSt) (n' : Nat) : (s.setPage p x).adc n' = s.adc n' := rfl
@[simp] theorem State.setPage_get_mapOf (s : State) (p : Nat) (x : PageSt) (u' : Nat) : (s.setPage p x).mapOf u' = s.mapOf u' := rfl
@[simp] theorem State.setPage_get_pwm (s : State) (p : Nat) (x : PageSt) (m' : Nat) : (s.setPage p x).pwm m' = s.pwm m' := rfl
@[simp] theorem State.setPage_get_lane (s : State) (p : Nat) (x : PageSt) (l' : Nat) : (s.setPage p x).lane l' = s.lane l' := rfl
@[simp] theorem State.setPage_get_wheel (s : State) (p : Nat) (x : PageSt) (u' : Nat) : (s.setPage p x).wheel u' = s.wheel u' := rfl
@[simp] theorem State.setPage_get_eng (s : State) (p : Nat) (x : PageSt) (e' : Nat) : (s.setPage p x).eng e' = s.eng e' := rfl
@[simp] theorem State.setPage_get_itgt (s : State) (p : Nat) (x : PageSt) (n' : Nat) : (s.setPage p x).itgt n' = s.itgt n' := rfl
@[simp] theorem State.setPage_get_isrc (s : State) (p : Nat) (x : PageSt) (n' : Nat) : (s.setPage p x).isrc n' = s.isrc n' := rfl
@[simp] theorem State.bell_get_reg (s : State) (n : Nat) (p' o' : Nat) : (s.bell n).reg p' o' = s.reg p' o' := rfl
@[simp] theorem State.bell_get_page (s : State) (n : Nat) (p' : Nat) : (s.bell n).page p' = s.page p' := rfl
@[simp] theorem State.bell_get_clu (s : State) (n : Nat) (c' : Nat) : (s.bell n).clu c' = s.clu c' := rfl
@[simp] theorem State.bell_get_chan (s : State) (n : Nat) (c' : Nat) : (s.bell n).chan c' = s.chan c' := rfl
@[simp] theorem State.bell_get_adc (s : State) (n : Nat) (n' : Nat) : (s.bell n).adc n' = s.adc n' := rfl
@[simp] theorem State.bell_get_mapOf (s : State) (n : Nat) (u' : Nat) : (s.bell n).mapOf u' = s.mapOf u' := rfl
@[simp] theorem State.bell_get_pwm (s : State) (n : Nat) (m' : Nat) : (s.bell n).pwm m' = s.pwm m' := rfl
@[simp] theorem State.bell_get_lane (s : State) (n : Nat) (l' : Nat) : (s.bell n).lane l' = s.lane l' := rfl
@[simp] theorem State.bell_get_wheel (s : State) (n : Nat) (u' : Nat) : (s.bell n).wheel u' = s.wheel u' := rfl
@[simp] theorem State.bell_get_eng (s : State) (n : Nat) (e' : Nat) : (s.bell n).eng e' = s.eng e' := rfl
@[simp] theorem State.bell_get_itgt (s : State) (n : Nat) (n' : Nat) : (s.bell n).itgt n' = s.itgt n' := rfl
@[simp] theorem State.bell_get_isrc (s : State) (n : Nat) (n' : Nat) : (s.bell n).isrc n' = s.isrc n' := rfl
@[simp] theorem State.setClu_get_reg (s : State) (c : Nat) (x : Clu) (p' o' : Nat) : (s.setClu c x).reg p' o' = s.reg p' o' := rfl
@[simp] theorem State.setClu_get_page (s : State) (c : Nat) (x : Clu) (p' : Nat) : (s.setClu c x).page p' = s.page p' := rfl
@[simp] theorem State.setClu_get_chan (s : State) (c : Nat) (x : Clu) (c' : Nat) : (s.setClu c x).chan c' = s.chan c' := rfl
@[simp] theorem State.setClu_get_adc (s : State) (c : Nat) (x : Clu) (n' : Nat) : (s.setClu c x).adc n' = s.adc n' := rfl
@[simp] theorem State.setClu_get_mapOf (s : State) (c : Nat) (x : Clu) (u' : Nat) : (s.setClu c x).mapOf u' = s.mapOf u' := rfl
@[simp] theorem State.setClu_get_pwm (s : State) (c : Nat) (x : Clu) (m' : Nat) : (s.setClu c x).pwm m' = s.pwm m' := rfl
@[simp] theorem State.setClu_get_lane (s : State) (c : Nat) (x : Clu) (l' : Nat) : (s.setClu c x).lane l' = s.lane l' := rfl
@[simp] theorem State.setClu_get_wheel (s : State) (c : Nat) (x : Clu) (u' : Nat) : (s.setClu c x).wheel u' = s.wheel u' := rfl
@[simp] theorem State.setClu_get_eng (s : State) (c : Nat) (x : Clu) (e' : Nat) : (s.setClu c x).eng e' = s.eng e' := rfl
@[simp] theorem State.setClu_get_itgt (s : State) (c : Nat) (x : Clu) (n' : Nat) : (s.setClu c x).itgt n' = s.itgt n' := rfl
@[simp] theorem State.setClu_get_isrc (s : State) (c : Nat) (x : Clu) (n' : Nat) : (s.setClu c x).isrc n' = s.isrc n' := rfl
@[simp] theorem State.setChan_get_reg (s : State) (c : Nat) (x : Chan) (p' o' : Nat) : (s.setChan c x).reg p' o' = s.reg p' o' := rfl
@[simp] theorem State.setChan_get_page (s : State) (c : Nat) (x : Chan) (p' : Nat) : (s.setChan c x).page p' = s.page p' := rfl
@[simp] theorem State.setChan_get_clu (s : State) (c : Nat) (x : Chan) (c' : Nat) : (s.setChan c x).clu c' = s.clu c' := rfl
@[simp] theorem State.setChan_get_adc (s : State) (c : Nat) (x : Chan) (n' : Nat) : (s.setChan c x).adc n' = s.adc n' := rfl
@[simp] theorem State.setChan_get_mapOf (s : State) (c : Nat) (x : Chan) (u' : Nat) : (s.setChan c x).mapOf u' = s.mapOf u' := rfl
@[simp] theorem State.setChan_get_pwm (s : State) (c : Nat) (x : Chan) (m' : Nat) : (s.setChan c x).pwm m' = s.pwm m' := rfl
@[simp] theorem State.setChan_get_lane (s : State) (c : Nat) (x : Chan) (l' : Nat) : (s.setChan c x).lane l' = s.lane l' := rfl
@[simp] theorem State.setChan_get_wheel (s : State) (c : Nat) (x : Chan) (u' : Nat) : (s.setChan c x).wheel u' = s.wheel u' := rfl
@[simp] theorem State.setChan_get_eng (s : State) (c : Nat) (x : Chan) (e' : Nat) : (s.setChan c x).eng e' = s.eng e' := rfl
@[simp] theorem State.setChan_get_itgt (s : State) (c : Nat) (x : Chan) (n' : Nat) : (s.setChan c x).itgt n' = s.itgt n' := rfl
@[simp] theorem State.setChan_get_isrc (s : State) (c : Nat) (x : Chan) (n' : Nat) : (s.setChan c x).isrc n' = s.isrc n' := rfl
@[simp] theorem State.setAdc_get_reg (s : State) (n : Nat) (x : AdcCore) (p' o' : Nat) : (s.setAdc n x).reg p' o' = s.reg p' o' := rfl
@[simp] theorem State.setAdc_get_page (s : State) (n : Nat) (x : AdcCore) (p' : Nat) : (s.setAdc n x).page p' = s.page p' := rfl
@[simp] theorem State.setAdc_get_clu (s : State) (n : Nat) (x : AdcCore) (c' : Nat) : (s.setAdc n x).clu c' = s.clu c' := rfl
@[simp] theorem State.setAdc_get_chan (s : State) (n : Nat) (x : AdcCore) (c' : Nat) : (s.setAdc n x).chan c' = s.chan c' := rfl
@[simp] theorem State.setAdc_get_mapOf (s : State) (n : Nat) (x : AdcCore) (u' : Nat) : (s.setAdc n x).mapOf u' = s.mapOf u' := rfl
@[simp] theorem State.setAdc_get_pwm (s : State) (n : Nat) (x : AdcCore) (m' : Nat) : (s.setAdc n x).pwm m' = s.pwm m' := rfl
@[simp] theorem State.setAdc_get_lane (s : State) (n : Nat) (x : AdcCore) (l' : Nat) : (s.setAdc n x).lane l' = s.lane l' := rfl
@[simp] theorem State.setAdc_get_wheel (s : State) (n : Nat) (x : AdcCore) (u' : Nat) : (s.setAdc n x).wheel u' = s.wheel u' := rfl
@[simp] theorem State.setAdc_get_eng (s : State) (n : Nat) (x : AdcCore) (e' : Nat) : (s.setAdc n x).eng e' = s.eng e' := rfl
@[simp] theorem State.setAdc_get_itgt (s : State) (n : Nat) (x : AdcCore) (n' : Nat) : (s.setAdc n x).itgt n' = s.itgt n' := rfl
@[simp] theorem State.setAdc_get_isrc (s : State) (n : Nat) (x : AdcCore) (n' : Nat) : (s.setAdc n x).isrc n' = s.isrc n' := rfl
@[simp] theorem State.setMap_get_reg (s : State) (u : Nat) (x : MapSt) (p' o' : Nat) : (s.setMap u x).reg p' o' = s.reg p' o' := rfl
@[simp] theorem State.setMap_get_page (s : State) (u : Nat) (x : MapSt) (p' : Nat) : (s.setMap u x).page p' = s.page p' := rfl
@[simp] theorem State.setMap_get_clu (s : State) (u : Nat) (x : MapSt) (c' : Nat) : (s.setMap u x).clu c' = s.clu c' := rfl
@[simp] theorem State.setMap_get_chan (s : State) (u : Nat) (x : MapSt) (c' : Nat) : (s.setMap u x).chan c' = s.chan c' := rfl
@[simp] theorem State.setMap_get_adc (s : State) (u : Nat) (x : MapSt) (n' : Nat) : (s.setMap u x).adc n' = s.adc n' := rfl
@[simp] theorem State.setMap_get_pwm (s : State) (u : Nat) (x : MapSt) (m' : Nat) : (s.setMap u x).pwm m' = s.pwm m' := rfl
@[simp] theorem State.setMap_get_lane (s : State) (u : Nat) (x : MapSt) (l' : Nat) : (s.setMap u x).lane l' = s.lane l' := rfl
@[simp] theorem State.setMap_get_wheel (s : State) (u : Nat) (x : MapSt) (u' : Nat) : (s.setMap u x).wheel u' = s.wheel u' := rfl
@[simp] theorem State.setMap_get_eng (s : State) (u : Nat) (x : MapSt) (e' : Nat) : (s.setMap u x).eng e' = s.eng e' := rfl
@[simp] theorem State.setMap_get_itgt (s : State) (u : Nat) (x : MapSt) (n' : Nat) : (s.setMap u x).itgt n' = s.itgt n' := rfl
@[simp] theorem State.setMap_get_isrc (s : State) (u : Nat) (x : MapSt) (n' : Nat) : (s.setMap u x).isrc n' = s.isrc n' := rfl
@[simp] theorem State.setPwm_get_reg (s : State) (m : Nat) (x : PwmMod) (p' o' : Nat) : (s.setPwm m x).reg p' o' = s.reg p' o' := rfl
@[simp] theorem State.setPwm_get_page (s : State) (m : Nat) (x : PwmMod) (p' : Nat) : (s.setPwm m x).page p' = s.page p' := rfl
@[simp] theorem State.setPwm_get_clu (s : State) (m : Nat) (x : PwmMod) (c' : Nat) : (s.setPwm m x).clu c' = s.clu c' := rfl
@[simp] theorem State.setPwm_get_chan (s : State) (m : Nat) (x : PwmMod) (c' : Nat) : (s.setPwm m x).chan c' = s.chan c' := rfl
@[simp] theorem State.setPwm_get_adc (s : State) (m : Nat) (x : PwmMod) (n' : Nat) : (s.setPwm m x).adc n' = s.adc n' := rfl
@[simp] theorem State.setPwm_get_mapOf (s : State) (m : Nat) (x : PwmMod) (u' : Nat) : (s.setPwm m x).mapOf u' = s.mapOf u' := rfl
@[simp] theorem State.setPwm_get_lane (s : State) (m : Nat) (x : PwmMod) (l' : Nat) : (s.setPwm m x).lane l' = s.lane l' := rfl
@[simp] theorem State.setPwm_get_wheel (s : State) (m : Nat) (x : PwmMod) (u' : Nat) : (s.setPwm m x).wheel u' = s.wheel u' := rfl
@[simp] theorem State.setPwm_get_eng (s : State) (m : Nat) (x : PwmMod) (e' : Nat) : (s.setPwm m x).eng e' = s.eng e' := rfl
@[simp] theorem State.setPwm_get_itgt (s : State) (m : Nat) (x : PwmMod) (n' : Nat) : (s.setPwm m x).itgt n' = s.itgt n' := rfl
@[simp] theorem State.setPwm_get_isrc (s : State) (m : Nat) (x : PwmMod) (n' : Nat) : (s.setPwm m x).isrc n' = s.isrc n' := rfl
@[simp] theorem State.setLane_get_reg (s : State) (l : Nat) (x : Lane) (p' o' : Nat) : (s.setLane l x).reg p' o' = s.reg p' o' := rfl
@[simp] theorem State.setLane_get_page (s : State) (l : Nat) (x : Lane) (p' : Nat) : (s.setLane l x).page p' = s.page p' := rfl
@[simp] theorem State.setLane_get_clu (s : State) (l : Nat) (x : Lane) (c' : Nat) : (s.setLane l x).clu c' = s.clu c' := rfl
@[simp] theorem State.setLane_get_chan (s : State) (l : Nat) (x : Lane) (c' : Nat) : (s.setLane l x).chan c' = s.chan c' := rfl
@[simp] theorem State.setLane_get_adc (s : State) (l : Nat) (x : Lane) (n' : Nat) : (s.setLane l x).adc n' = s.adc n' := rfl
@[simp] theorem State.setLane_get_mapOf (s : State) (l : Nat) (x : Lane) (u' : Nat) : (s.setLane l x).mapOf u' = s.mapOf u' := rfl
@[simp] theorem State.setLane_get_pwm (s : State) (l : Nat) (x : Lane) (m' : Nat) : (s.setLane l x).pwm m' = s.pwm m' := rfl
@[simp] theorem State.setLane_get_wheel (s : State) (l : Nat) (x : Lane) (u' : Nat) : (s.setLane l x).wheel u' = s.wheel u' := rfl
@[simp] theorem State.setLane_get_eng (s : State) (l : Nat) (x : Lane) (e' : Nat) : (s.setLane l x).eng e' = s.eng e' := rfl
@[simp] theorem State.setLane_get_itgt (s : State) (l : Nat) (x : Lane) (n' : Nat) : (s.setLane l x).itgt n' = s.itgt n' := rfl
@[simp] theorem State.setLane_get_isrc (s : State) (l : Nat) (x : Lane) (n' : Nat) : (s.setLane l x).isrc n' = s.isrc n' := rfl
@[simp] theorem State.setWheel_get_reg (s : State) (u : Nat) (x : Wheel) (p' o' : Nat) : (s.setWheel u x).reg p' o' = s.reg p' o' := rfl
@[simp] theorem State.setWheel_get_page (s : State) (u : Nat) (x : Wheel) (p' : Nat) : (s.setWheel u x).page p' = s.page p' := rfl
@[simp] theorem State.setWheel_get_clu (s : State) (u : Nat) (x : Wheel) (c' : Nat) : (s.setWheel u x).clu c' = s.clu c' := rfl
@[simp] theorem State.setWheel_get_chan (s : State) (u : Nat) (x : Wheel) (c' : Nat) : (s.setWheel u x).chan c' = s.chan c' := rfl
@[simp] theorem State.setWheel_get_adc (s : State) (u : Nat) (x : Wheel) (n' : Nat) : (s.setWheel u x).adc n' = s.adc n' := rfl
@[simp] theorem State.setWheel_get_mapOf (s : State) (u : Nat) (x : Wheel) (u' : Nat) : (s.setWheel u x).mapOf u' = s.mapOf u' := rfl
@[simp] theorem State.setWheel_get_pwm (s : State) (u : Nat) (x : Wheel) (m' : Nat) : (s.setWheel u x).pwm m' = s.pwm m' := rfl
@[simp] theorem State.setWheel_get_lane (s : State) (u : Nat) (x : Wheel) (l' : Nat) : (s.setWheel u x).lane l' = s.lane l' := rfl
@[simp] theorem State.setWheel_get_eng (s : State) (u : Nat) (x : Wheel) (e' : Nat) : (s.setWheel u x).eng e' = s.eng e' := rfl
@[simp] theorem State.setWheel_get_itgt (s : State) (u : Nat) (x : Wheel) (n' : Nat) : (s.setWheel u x).itgt n' = s.itgt n' := rfl
@[simp] theorem State.setWheel_get_isrc (s : State) (u : Nat) (x : Wheel) (n' : Nat) : (s.setWheel u x).isrc n' = s.isrc n' := rfl
@[simp] theorem State.setItgt_get_reg (s : State) (n : Nat) (x : IuTgt) (p' o' : Nat) : (s.setItgt n x).reg p' o' = s.reg p' o' := rfl
@[simp] theorem State.setItgt_get_page (s : State) (n : Nat) (x : IuTgt) (p' : Nat) : (s.setItgt n x).page p' = s.page p' := rfl
@[simp] theorem State.setItgt_get_clu (s : State) (n : Nat) (x : IuTgt) (c' : Nat) : (s.setItgt n x).clu c' = s.clu c' := rfl
@[simp] theorem State.setItgt_get_chan (s : State) (n : Nat) (x : IuTgt) (c' : Nat) : (s.setItgt n x).chan c' = s.chan c' := rfl
@[simp] theorem State.setItgt_get_adc (s : State) (n : Nat) (x : IuTgt) (n' : Nat) : (s.setItgt n x).adc n' = s.adc n' := rfl
@[simp] theorem State.setItgt_get_mapOf (s : State) (n : Nat) (x : IuTgt) (u' : Nat) : (s.setItgt n x).mapOf u' = s.mapOf u' := rfl
@[simp] theorem State.setItgt_get_pwm (s : State) (n : Nat) (x : IuTgt) (m' : Nat) : (s.setItgt n x).pwm m' = s.pwm m' := rfl
@[simp] theorem State.setItgt_get_lane (s : State) (n : Nat) (x : IuTgt) (l' : Nat) : (s.setItgt n x).lane l' = s.lane l' := rfl
@[simp] theorem State.setItgt_get_wheel (s : State) (n : Nat) (x : IuTgt) (u' : Nat) : (s.setItgt n x).wheel u' = s.wheel u' := rfl
@[simp] theorem State.setItgt_get_eng (s : State) (n : Nat) (x : IuTgt) (e' : Nat) : (s.setItgt n x).eng e' = s.eng e' := rfl
@[simp] theorem State.setIsrc_get_reg (s : State) (n : Nat) (x : IuSrc) (p' o' : Nat) : (s.setIsrc n x).reg p' o' = s.reg p' o' := rfl
@[simp] theorem State.setIsrc_get_page (s : State) (n : Nat) (x : IuSrc) (p' : Nat) : (s.setIsrc n x).page p' = s.page p' := rfl
@[simp] theorem State.setIsrc_get_clu (s : State) (n : Nat) (x : IuSrc) (c' : Nat) : (s.setIsrc n x).clu c' = s.clu c' := rfl
@[simp] theorem State.setIsrc_get_chan (s : State) (n : Nat) (x : IuSrc) (c' : Nat) : (s.setIsrc n x).chan c' = s.chan c' := rfl
@[simp] theorem State.setIsrc_get_adc (s : State) (n : Nat) (x : IuSrc) (n' : Nat) : (s.setIsrc n x).adc n' = s.adc n' := rfl
@[simp] theorem State.setIsrc_get_mapOf (s : State) (n : Nat) (x : IuSrc) (u' : Nat) : (s.setIsrc n x).mapOf u' = s.mapOf u' := rfl
@[simp] theorem State.setIsrc_get_pwm (s : State) (n : Nat) (x : IuSrc) (m' : Nat) : (s.setIsrc n x).pwm m' = s.pwm m' := rfl
@[simp] theorem State.setIsrc_get_lane (s : State) (n : Nat) (x : IuSrc) (l' : Nat) : (s.setIsrc n x).lane l' = s.lane l' := rfl
@[simp] theorem State.setIsrc_get_wheel (s : State) (n : Nat) (x : IuSrc) (u' : Nat) : (s.setIsrc n x).wheel u' = s.wheel u' := rfl
@[simp] theorem State.setIsrc_get_eng (s : State) (n : Nat) (x : IuSrc) (e' : Nat) : (s.setIsrc n x).eng e' = s.eng e' := rfl
@[simp] theorem State.setMsix_get_reg (s : State) (v : Nat) (m : Msix) (p' o' : Nat) : (s.setMsix v m).reg p' o' = s.reg p' o' := rfl
@[simp] theorem State.setMsix_get_page (s : State) (v : Nat) (m : Msix) (p' : Nat) : (s.setMsix v m).page p' = s.page p' := rfl
@[simp] theorem State.setMsix_get_clu (s : State) (v : Nat) (m : Msix) (c' : Nat) : (s.setMsix v m).clu c' = s.clu c' := rfl
@[simp] theorem State.setMsix_get_chan (s : State) (v : Nat) (m : Msix) (c' : Nat) : (s.setMsix v m).chan c' = s.chan c' := rfl
@[simp] theorem State.setMsix_get_adc (s : State) (v : Nat) (m : Msix) (n' : Nat) : (s.setMsix v m).adc n' = s.adc n' := rfl
@[simp] theorem State.setMsix_get_mapOf (s : State) (v : Nat) (m : Msix) (u' : Nat) : (s.setMsix v m).mapOf u' = s.mapOf u' := rfl
@[simp] theorem State.setMsix_get_pwm (s : State) (v : Nat) (m : Msix) (m' : Nat) : (s.setMsix v m).pwm m' = s.pwm m' := rfl
@[simp] theorem State.setMsix_get_lane (s : State) (v : Nat) (m : Msix) (l' : Nat) : (s.setMsix v m).lane l' = s.lane l' := rfl
@[simp] theorem State.setMsix_get_wheel (s : State) (v : Nat) (m : Msix) (u' : Nat) : (s.setMsix v m).wheel u' = s.wheel u' := rfl
@[simp] theorem State.setMsix_get_eng (s : State) (v : Nat) (m : Msix) (e' : Nat) : (s.setMsix v m).eng e' = s.eng e' := rfl
@[simp] theorem State.setMsix_get_itgt (s : State) (v : Nat) (m : Msix) (n' : Nat) : (s.setMsix v m).itgt n' = s.itgt n' := rfl
@[simp] theorem State.setMsix_get_isrc (s : State) (v : Nat) (m : Msix) (n' : Nat) : (s.setMsix v m).isrc n' = s.isrc n' := rfl
@[simp] theorem State.setBank_get_reg (s : State) (c : Nat) (b : Bool) (x : BankSt) (p' o' : Nat) :
    (s.setBank c b x).reg p' o' = s.reg p' o' := rfl
@[simp] theorem State.setBank_get_page (s : State) (c : Nat) (b : Bool) (x : BankSt) (p' : Nat) :
    (s.setBank c b x).page p' = s.page p' := rfl
@[simp] theorem State.setBank_get_clu (s : State) (c : Nat) (b : Bool) (x : BankSt) (c' : Nat) : (s.setBank c b x).clu c' = s.clu c' := rfl
@[simp] theorem State.setBank_get_chan (s : State) (c : Nat) (b : Bool) (x : BankSt) (c' : Nat) :
    (s.setBank c b x).chan c' = s.chan c' := rfl
@[simp] theorem State.setBank_get_adc (s : State) (c : Nat) (b : Bool) (x : BankSt) (n' : Nat) : (s.setBank c b x).adc n' = s.adc n' := rfl
@[simp] theorem State.setBank_get_mapOf (s : State) (c : Nat) (b : Bool) (x : BankSt) (u' : Nat) :
    (s.setBank c b x).mapOf u' = s.mapOf u' := rfl
@[simp] theorem State.setBank_get_pwm (s : State) (c : Nat) (b : Bool) (x : BankSt) (m' : Nat) : (s.setBank c b x).pwm m' = s.pwm m' := rfl
@[simp] theorem State.setBank_get_lane (s : State) (c : Nat) (b : Bool) (x : BankSt) (l' : Nat) :
    (s.setBank c b x).lane l' = s.lane l' := rfl
@[simp] theorem State.setBank_get_wheel (s : State) (c : Nat) (b : Bool) (x : BankSt) (u' : Nat) :
    (s.setBank c b x).wheel u' = s.wheel u' := rfl
@[simp] theorem State.setBank_get_eng (s : State) (c : Nat) (b : Bool) (x : BankSt) (e' : Nat) : (s.setBank c b x).eng e' = s.eng e' := rfl
@[simp] theorem State.setBank_get_itgt (s : State) (c : Nat) (b : Bool) (x : BankSt) (n' : Nat) :
    (s.setBank c b x).itgt n' = s.itgt n' := rfl
@[simp] theorem State.setBank_get_isrc (s : State) (c : Nat) (b : Bool) (x : BankSt) (n' : Nat) :
    (s.setBank c b x).isrc n' = s.isrc n' := rfl

/-! ### A register, a page or a unit reads as it was written; the others read as before -/

theorem State.reg_setReg (s : State) (p o p' o' : Nat) (w : Word) :
    (s.setReg p o w).reg p' o' = if adr p o = adr p' o' then w else s.reg p' o' := by
  simp only [State.reg, State.setReg]
  by_cases h : adr p o = adr p' o'
  · simp [h]
  · simp only [h, if_false]
    rw [Store.get_set_ne h]

@[simp] theorem State.reg_setReg_self (s : State) (p o : Nat) (w : Word) : (s.setReg p o w).reg p o = w := by simp [State.reg_setReg]

theorem State.reg_setReg_ne {s : State} {p o p' o' : Nat} {w : Word} (h : adr p o ≠ adr p' o') :
    (s.setReg p o w).reg p' o' = s.reg p' o' := by simp [State.reg_setReg, h]

/-- Registers of different pages lie at different places. -/
theorem adr_ne_of_page {p o p' o' : Nat} (ho : o < 4096) (ho' : o' < 4096) (h : p ≠ p') : adr p o ≠ adr p' o' := by
  simp only [adr]; omega

theorem adr_ne_of_off {p o o' : Nat} (h : o ≠ o') : adr p o ≠ adr p o' := by simp only [adr]; omega

theorem State.page_setPage (s : State) (p p' : Nat) (x : PageSt) : (s.setPage p x).page p' = if p = p' then x else s.page p' := by
  simp only [State.page, State.setPage]
  by_cases h : p = p'
  · subst h; simp
  · simp only [h, if_false]; rw [Store.get_set_ne h]

theorem State.clu_setClu (s : State) (c c' : Nat) (x : Clu) :
    (s.setClu c x).clu c' = if c = c' then x else s.clu c' := Store.get_set _ _ _ _ _
theorem State.chan_setChan (s : State) (c c' : Nat) (x : Chan) : (s.setChan c x).chan c' = if c = c' then x else s.chan c' :=
  Store.get_set _ _ _ _ _
theorem State.adc_setAdc (s : State) (n n' : Nat) (x : AdcCore) : (s.setAdc n x).adc n' = if n = n' then x else s.adc n' :=
  Store.get_set _ _ _ _ _
theorem State.mapOf_setMap (s : State) (u u' : Nat) (x : MapSt) : (s.setMap u x).mapOf u' = if u = u' then x else s.mapOf u' :=
  Store.get_set _ _ _ _ _
theorem State.pwm_setPwm (s : State) (m m' : Nat) (x : PwmMod) : (s.setPwm m x).pwm m' = if m = m' then x else s.pwm m' :=
  Store.get_set _ _ _ _ _
theorem State.lane_setLane (s : State) (l l' : Nat) (x : Lane) : (s.setLane l x).lane l' = if l = l' then x else s.lane l' :=
  Store.get_set _ _ _ _ _
theorem State.wheel_setWheel (s : State) (u u' : Nat) (x : Wheel) : (s.setWheel u x).wheel u' = if u = u' then x else s.wheel u' :=
  Store.get_set _ _ _ _ _
theorem State.itgt_setItgt (s : State) (n n' : Nat) (x : IuTgt) : (s.setItgt n x).itgt n' = if n = n' then x else s.itgt n' :=
  Store.get_set _ _ _ _ _
theorem State.isrc_setIsrc (s : State) (n n' : Nat) (x : IuSrc) : (s.setIsrc n x).isrc n' = if n = n' then x else s.isrc n' :=
  Store.get_set _ _ _ _ _

@[simp] theorem State.clu_setClu_self (s : State) (c : Nat) (x : Clu) : (s.setClu c x).clu c = x := by simp [State.clu_setClu]
@[simp] theorem State.chan_setChan_self (s : State) (c : Nat) (x : Chan) : (s.setChan c x).chan c = x := by simp [State.chan_setChan]
@[simp] theorem State.adc_setAdc_self (s : State) (n : Nat) (x : AdcCore) : (s.setAdc n x).adc n = x := by simp [State.adc_setAdc]
@[simp] theorem State.mapOf_setMap_self (s : State) (u : Nat) (x : MapSt) : (s.setMap u x).mapOf u = x := by simp [State.mapOf_setMap]
@[simp] theorem State.pwm_setPwm_self (s : State) (m : Nat) (x : PwmMod) : (s.setPwm m x).pwm m = x := by simp [State.pwm_setPwm]
@[simp] theorem State.lane_setLane_self (s : State) (l : Nat) (x : Lane) : (s.setLane l x).lane l = x := by simp [State.lane_setLane]
@[simp] theorem State.wheel_setWheel_self (s : State) (u : Nat) (x : Wheel) : (s.setWheel u x).wheel u = x := by simp [State.wheel_setWheel]
@[simp] theorem State.page_setPage_self (s : State) (p : Nat) (x : PageSt) : (s.setPage p x).page p = x := by simp [State.page_setPage]

/-! ### An engine (R179): the trailer of a checked pair follows its leader -/

theorem State.checked_setEng (s : State) (e e' : Nat) (x : Eng) : (s.setEng e x).checked e' = s.checked e' := by
  unfold State.setEng; dsimp only; split <;> rfl

@[simp] theorem State.eng_setEng_self (s : State) (e : Nat) (x : Eng) : (s.setEng e x).eng e = x := by
  unfold State.setEng State.eng
  dsimp only
  split
  · rw [Store.get_set_ne (by omega)]; simp
  · simp

theorem State.eng_setEng_other {s : State} {e e' : Nat} {x : Eng} (h : e' ≠ e) (h2 : ¬ (e' = e + 1 ∧ e % 2 = 0 ∧ s.checked e = true)) :
    (s.setEng e x).eng e' = s.eng e' := by
  unfold State.setEng State.eng
  dsimp only
  split
  · rename_i hc
    have : s.checked e = true := hc.2
    rw [Store.get_set_ne (by intro h3; exact h2 ⟨h3.symm, hc.1, this⟩), Store.get_set_ne (Ne.symm h)]
  · rw [Store.get_set_ne (Ne.symm h)]

/-- Writing an engine touches nothing but the engines. -/
theorem State.setEng_eq (s : State) (e : Nat) (x : Eng) : s.setEng e x = { s with engs := (s.setEng e x).engs } := by
  unfold State.setEng; dsimp only; split <;> rfl

/-- Of two writes of an engine the second stays. -/
theorem State.setEng_engs_eng (s : State) (e : Nat) (x y : Eng) : ((s.setEng e x).setEng e y).eng e = y := State.eng_setEng_self _ _ _

/-! ### Page interrupts and doorbells (R34) -/

/-- A page event writes its register and notes what it changed in the clock. -/
@[simp] theorem State.reg_event_self (s : State) (p o : Nat) (f : Word → Word) : (s.event p o f).reg p o = f (s.reg p o) :=
  State.reg_setReg_self s p o _

theorem State.reg_event_ne {s : State} {p o p' o' : Nat} {f : Word → Word} (h : adr p o ≠ adr p' o') :
    (s.event p o f).reg p' o' = s.reg p' o' := State.reg_setReg_ne (s := s) h

/-- Setting a PAGE_INTSTAT bit is an event on the register, and rings the page's source or nothing. -/
theorem State.intSet_cases (s : State) (p i : Nat) :
    s.intSet p i = s.event p 0x018 (setBit · i) ∨ s.intSet p i = (s.event p 0x018 (setBit · i)).bell (pageSource p) := by
  unfold State.intSet State.ringRise; split
  · exact .inr rfl
  · exact .inl rfl

@[simp] theorem State.reg_intSet_self (s : State) (p i : Nat) : (s.intSet p i).reg p 0x018 = setBit (s.reg p 0x018) i := by
  rcases s.intSet_cases p i with h | h <;> rw [h] <;> simp

theorem State.reg_intSet_other {s : State} {p i p' o' : Nat} (h : adr p 0x018 ≠ adr p' o') : (s.intSet p i).reg p' o' = s.reg p' o' := by
  rcases s.intSet_cases p i with h1 | h1 <;> rw [h1] <;> simp [State.reg_event_ne h]

/-- It touches nothing but that register, the note of the clock's events and the doorbells in flight. -/
theorem State.intSet_eq (s : State) (p i : Nat) :
    s.intSet p i = { s with regs := (s.intSet p i).regs, fresh := (s.intSet p i).fresh, iu := (s.intSet p i).iu } := by
  rcases s.intSet_cases p i with h | h <;> rw [h] <;> rfl

end Sys2Proof.Machine
end

