-- ==== Sys2Proof/Laws/Engine.lean ====
section
/-! SUPPORT. What a slot of a microword does where it may issue, and what writing an engine leaves behind. -/

namespace Sys2Proof.Machine

/-- A slot that may issue hands the word to its operation, with the slot taken. -/
theorem State.slot_eq {s : State} {e : Nat} {x : Bool} {holds : WordSt → Bool} {k : WordSt → State → State} {w : WordSt}
    (hi : s.issues e = true) (ho : s.opened e = some w) (hs : (if x then w.x else w.a) = false) (hh : holds w = true)
    (hf : wordFault (s.eng e) w = none) :
    s.slot e x holds k = k { w with a := w.a || !x, x := w.x || x }
      (s.setEng e { s.eng e with word := some { w with a := w.a || !x, x := w.x || x } }) := by
  simp [State.slot, hi, ho, hs, hh, hf]

/-- A slot whose word is a machine check executes nothing: the engine stops. -/
theorem State.slot_check {s : State} {e : Nat} {x : Bool} {holds : WordSt → Bool} {k : WordSt → State → State} {w : WordSt} {cls : Nat}
    (hi : s.issues e = true) (ho : s.opened e = some w) (hs : (if x then w.x else w.a) = false) (hh : holds w = true)
    (hf : wordFault (s.eng e) w = some cls) : s.slot e x holds k = machineCheck e cls s := by
  simp [State.slot, hi, ho, hs, hh, hf]

/-- Two writes of an engine: the engine is the second, its trailer follows the second and keeps its bank, the others stand. -/
theorem State.eng_trailer {s : State} {e : Nat} {x : Eng} (h : e % 2 = 0) (hc : s.checked e = true) :
    (s.setEng e x).eng (e + 1) = { x with task := none, wait := none, held := none, bank := (s.eng (e + 1)).bank } := by
  unfold State.setEng
  simp only [State.eng] at *
  rw [if_pos ⟨h, hc⟩]
  dsimp only
  rw [Store.get_set_self, Store.get_set_ne (by omega)]

end Sys2Proof.Machine
end

