-- ==== Sys2Proof/Laws/Keeps.lean ====
section
/-! SUPPORT. Every operation keeps `Good`: it leaves the waiting commands alone, keeps the canonical form of every byte memory and keeps
every queue within its bound; the last two each where they are asked for. One lemma per operation, named after it: `X_good`. For a
meaning, `execX_good` says as well that it answers a next state. -/

namespace Sys2Proof.Machine

/-- What is to be kept: the waiting commands; whether the memories, and the bounds of the queues, are asked for. -/
structure Keep where
  queue : List Instr
  mems : Prop
  bounds : Prop

/-- The local memory and the call stack of an engine. -/
structure Eng.Ok (q : Keep) (x : Eng) : Prop where
  mem : q.mems → x.mem.wf = true
  stack : q.bounds → x.stack.length ≤ 4

/-- The shared memory and the queues of a cluster. -/
structure Clu.Ok (q : Keep) (x : Clu) : Prop where
  mem : q.mems → x.shared.wf = true
  msgs : q.bounds → x.msgq.length ≤ 32
  events : q.bounds → x.ecq.length ≤ 256
  checks : q.bounds → x.mclog.length ≤ 8

/-- The queues of a pin channel. -/
structure Chan.Ok (q : Keep) (x : Chan) : Prop where
  compare : q.bounds → x.cq.length ≤ 4
  capture : q.bounds → x.capq.length ≤ 4

/-- The outbound buffers. -/
def MsgsOk (q : Keep) (l : List (Nat × Msg)) : Prop := q.bounds → ∀ c < 16, (l.filter (fun m => m.1 == c)).length ≤ 8

/-- The waiting commands are those of `q`, and the memories and queues are in order as far as `q` asks. -/
structure Good (q : Keep) (s : State) : Prop where
  queue : s.pending = q.queue
  host : q.mems → s.hostMem.wf = true
  smem : q.mems → s.smem.wf = true
  buf : q.mems → s.whey.buf.wf = true
  engs : ∀ e ∈ s.engs, e.2.Ok q
  clus : ∀ e ∈ s.clus, e.2.Ok q
  chans : ∀ e ∈ s.chans, e.2.Ok q
  msgs : MsgsOk q s.msgs

/-- `memOk` and `queuesOk` are what `Good` says. -/
theorem good_iff {q : Keep} {s : State} (hm : q.mems) (hb : q.bounds) :
    Good q s ↔ s.pending = q.queue ∧ s.memOk = true ∧ s.queuesOk = true := by
  simp only [State.memOk, State.queuesOk, Bool.and_eq_true, List.all_eq_true, decide_eq_true_eq, List.mem_range]
  constructor
  · intro h
    exact ⟨h.queue, ⟨⟨⟨⟨h.host hm, h.smem hm⟩, h.buf hm⟩, fun e he => (h.engs e he).mem hm⟩, fun e he => (h.clus e he).mem hm⟩,
      ⟨⟨fun e he => ⟨(h.chans e he).compare hb, (h.chans e he).capture hb⟩, fun e he => (h.engs e he).stack hb⟩,
        fun e he => ⟨⟨(h.clus e he).msgs hb, (h.clus e he).events hb⟩, (h.clus e he).checks hb⟩⟩, h.msgs hb⟩
  · rintro ⟨h0, ⟨⟨⟨⟨h1, h2⟩, h3⟩, h4⟩, h5⟩, ⟨⟨h6, h7⟩, h8⟩, h9⟩
    exact ⟨h0, fun _ => h1, fun _ => h2, fun _ => h3, fun e he => ⟨fun _ => h4 e he, fun _ => h7 e he⟩,
      fun e he => ⟨fun _ => h5 e he, fun _ => (h8 e he).1.1, fun _ => (h8 e he).1.2, fun _ => (h8 e he).2⟩,
      fun e he => ⟨fun _ => (h6 e he).1, fun _ => (h6 e he).2⟩, fun _ => h9⟩

/-- The memories alone. -/
theorem good_mems {l : List Instr} {s : State} : Good ⟨l, True, False⟩ s ↔ s.pending = l ∧ s.memOk = true := by
  simp only [State.memOk, Bool.and_eq_true, List.all_eq_true]
  constructor
  · intro h
    exact ⟨h.queue, ⟨⟨⟨h.host trivial, h.smem trivial⟩, h.buf trivial⟩, fun e he => (h.engs e he).mem trivial⟩,
      fun e he => (h.clus e he).mem trivial⟩
  · rintro ⟨h0, ⟨⟨⟨h1, h2⟩, h3⟩, h4⟩, h5⟩
    exact ⟨h0, fun _ => h1, fun _ => h2, fun _ => h3, fun e he => ⟨fun _ => h4 e he, False.elim⟩,
      fun e he => ⟨fun _ => h5 e he, False.elim, False.elim, False.elim⟩, fun e he => ⟨False.elim, False.elim⟩, False.elim⟩

/-- The bounds alone. -/
theorem good_bounds {l : List Instr} {s : State} : Good ⟨l, False, True⟩ s ↔ s.pending = l ∧ s.queuesOk = true := by
  simp only [State.queuesOk, Bool.and_eq_true, List.all_eq_true, decide_eq_true_eq, List.mem_range]
  constructor
  · intro h
    exact ⟨h.queue, ⟨⟨fun e he => ⟨(h.chans e he).compare trivial, (h.chans e he).capture trivial⟩,
      fun e he => (h.engs e he).stack trivial⟩,
      fun e he => ⟨⟨(h.clus e he).msgs trivial, (h.clus e he).events trivial⟩, (h.clus e he).checks trivial⟩⟩, h.msgs trivial⟩
  · rintro ⟨h0, ⟨⟨h6, h7⟩, h8⟩, h9⟩
    exact ⟨h0, False.elim, False.elim, False.elim, fun e he => ⟨False.elim, fun _ => h7 e he⟩,
      fun e he => ⟨False.elim, fun _ => (h8 e he).1.1, fun _ => (h8 e he).1.2, fun _ => (h8 e he).2⟩,
      fun e he => ⟨fun _ => (h6 e he).1, fun _ => (h6 e he).2⟩, fun _ => h9⟩

/-! ### Composition -/

variable {q : Keep}

theorem Store.get_of_all {α : Type} {P : α → Prop} {m : Store α} {d : α} (h : ∀ e ∈ m, P e.2) (hd : P d) (k : Nat) : P (m.get d k) := by
  induction m with
  | nil => exact hd
  | cons e t ih =>
    simp only [Store.get]
    split
    · exact h e (by simp)
    · exact ih (fun x hx => h x (by simp [hx]))

theorem Store.all_set {α : Type} [DecidableEq α] {P : α → Prop} {d : α} {m : Store α} {k : Nat} {v : α} (h : ∀ e ∈ m, P e.2) (hv : P v) :
    ∀ e ∈ m.set d k v, P e.2 := by
  have he : ∀ e ∈ m.erase k, P e.2 := by
    intro e hx
    apply h
    clear h hv
    induction m with
    | nil => exact hx
    | cons y t ih =>
      simp only [Store.erase] at hx
      split at hx
      · exact List.mem_cons_of_mem _ (ih hx)
      · rcases List.mem_cons.mp hx with rfl | hx
        · simp
        · exact List.mem_cons_of_mem _ (ih hx)
  unfold Store.set
  split
  · exact he
  · generalize m.erase k = n at he
    induction n with
    | nil => intro e hx; simp only [Store.insert, List.mem_singleton] at hx; subst hx; exact hv
    | cons y t ih =>
      intro e hx
      simp only [Store.insert] at hx
      split at hx
      · rcases List.mem_cons.mp hx with rfl | hx
        · exact hv
        · exact he e hx
      · rcases List.mem_cons.mp hx with rfl | hx
        · exact he _ (by simp)
        · exact ih (fun z hz => he z (List.mem_cons_of_mem _ hz)) e hx

theorem Good.eng {s : State} (h : Good q s) (e : Nat) : (s.eng e).Ok q :=
  Store.get_of_all h.engs ⟨fun _ => rfl, fun _ => by decide⟩ e
theorem Good.clu {s : State} (h : Good q s) (c : Nat) : (s.clu c).Ok q :=
  Store.get_of_all h.clus ⟨fun _ => rfl, fun _ => by decide, fun _ => by decide, fun _ => by decide⟩ c
theorem Good.chan {s : State} (h : Good q s) (c : Nat) : (s.chan c).Ok q :=
  Store.get_of_all h.chans ⟨fun _ => by decide, fun _ => by decide⟩ c

/-- A new record with the memory and the stack of an engine. -/
theorem Eng.Ok.keep {x y : Eng} (h : x.Ok q) (h1 : y.mem = x.mem) (h2 : y.stack = x.stack) : y.Ok q :=
  ⟨fun a => by rw [h1]; exact h.mem a, fun a => by rw [h2]; exact h.stack a⟩
theorem Eng.Ok.noStack {x y : Eng} (h : x.Ok q) (h1 : y.mem = x.mem) (h2 : y.stack = []) : y.Ok q :=
  ⟨fun a => by rw [h1]; exact h.mem a, fun _ => by rw [h2]; decide⟩
theorem Eng.Ok.put {x y : Eng} {a : Nat} {ws : List Word} (h : x.Ok q) (h1 : y.mem = x.mem.setWords a ws) (h2 : y.stack = x.stack) : y.Ok q :=
  ⟨fun b => by rw [h1]; exact Memory.setWords_wf (h.mem b), fun b => by rw [h2]; exact h.stack b⟩
theorem Clu.Ok.keep {x y : Clu} (h : x.Ok q) (h1 : y.shared = x.shared) (h2 : y.msgq = x.msgq) (h3 : y.ecq = x.ecq)
    (h4 : y.mclog = x.mclog) : y.Ok q :=
  ⟨fun a => by rw [h1]; exact h.mem a, fun a => by rw [h2]; exact h.msgs a, fun a => by rw [h3]; exact h.events a,
    fun a => by rw [h4]; exact h.checks a⟩
/-- No queue has grown. -/
theorem Clu.Ok.le {x y : Clu} (h : x.Ok q) (h1 : y.shared = x.shared) (h2 : y.msgq.length ≤ x.msgq.length)
    (h3 : y.ecq.length ≤ x.ecq.length) (h4 : y.mclog.length ≤ x.mclog.length) : y.Ok q :=
  ⟨fun a => by rw [h1]; exact h.mem a, fun a => Nat.le_trans h2 (h.msgs a), fun a => Nat.le_trans h3 (h.events a),
    fun a => Nat.le_trans h4 (h.checks a)⟩
theorem Clu.Ok.put {x y : Clu} {a : Nat} {w : Word} (h : x.Ok q) (h1 : y.shared = x.shared.setWord a w) (h2 : y.msgq = x.msgq)
    (h3 : y.ecq = x.ecq) (h4 : y.mclog = x.mclog) : y.Ok q :=
  ⟨fun b => by rw [h1]; exact Memory.setWord_wf (h.mem b), fun a => by rw [h2]; exact h.msgs a, fun a => by rw [h3]; exact h.events a,
    fun a => by rw [h4]; exact h.checks a⟩
theorem Chan.Ok.keep {x y : Chan} (h : x.Ok q) (h1 : y.cq = x.cq) (h2 : y.capq = x.capq) : y.Ok q :=
  ⟨fun a => by rw [h1]; exact h.compare a, fun a => by rw [h2]; exact h.capture a⟩
/-- No queue has grown. -/
theorem Chan.Ok.le {x y : Chan} (h : x.Ok q) (h1 : y.cq.length ≤ x.cq.length) (h2 : y.capq.length ≤ x.capq.length) : y.Ok q :=
  ⟨fun a => Nat.le_trans h1 (h.compare a), fun a => Nat.le_trans h2 (h.capture a)⟩

theorem good_ite {c : Prop} [Decidable c] {a b : State} (h1 : Good q a) (h2 : Good q b) : Good q (if c then a else b) := by
  split <;> assumption
theorem good_ite_snd {α : Type} {c : Prop} [Decidable c] {a b : α × State} (h1 : Good q a.2) (h2 : Good q b.2) :
    Good q (if c then a else b).2 := by split <;> assumption
theorem good_pair {α : Type} {a : α} {b : State} (h : Good q b) : Good q (a, b).2 := h
theorem good_snd_eq {α : Type} {p : α × State} {a : α} {t : State} (he : p = (a, t)) (h : Good q p.2) : Good q t := by
  rw [he] at h; exact h
theorem good_foldl {β : Type} {g : State → β → State} {i : State} {l : List β} (h0 : Good q i)
    (h : ∀ s x, Good q s → Good q (g s x)) : Good q (l.foldl g i) := by
  induction l generalizing i with
  | nil => exact h0
  | cons x t ih => exact ih (h _ _ h0)
theorem good_foldl_snd {α β : Type} {g : α × State → β → α × State} {i : α × State} {l : List β} (h0 : Good q i.2)
    (h : ∀ s x, Good q s.2 → Good q (g s x).2) : Good q (l.foldl g i).2 := by
  induction l generalizing i with
  | nil => exact h0
  | cons x t ih => exact ih (h _ _ h0)
theorem good_run {f : Req → State → List (Nat × Bool)} {g : Req → State → State} {r : Req} {s : State} (h : Good q (g r s)) :
    Good q ((Cmd.mk f g).run r s) := h
theorem good_ite_run {c : Prop} [Decidable c] {a b : Cmd} {r : Req} {s : State} (h1 : Good q (a.run r s)) (h2 : Good q (b.run r s)) :
    Good q ((if c then a else b).run r s) := by split <;> assumption

theorem id_good {s : State} (h : Good q s) : Good q (id s) := h
/-- A meaning answers a next state, and that state keeps what `Good` says. -/
theorem next_good {o : Host.Outcome State Fault Refusal} {t : State} (h : o = .next t) (hg : Good q t) : ∃ u, o = .next u ∧ Good q u :=
  ⟨t, h, hg⟩
/-- A record update that leaves the queue, every memory but the Whey buffer, the engines, clusters, channels and outbound buffers alone. -/
theorem good_upd {t : State} {f1 : Time} {f2 : Nat} {f3 : Store Word} {f4 : Store Word} {f5 : Bool} {f6 : Store Nat} {f7 : Store Nat} {f8 :
    TickSt} {f9 : Store Word} {f10 : List (Nat × Word)} {f11 : Store PageSt} {f12 : List Running} {f13 : List Group} {f14 : HostSt} {f15 :
    RingSt} {f17 : IuSt} {f18 : WheySt} {f19 : EthSt} {f20 : EthSt} {f21 : Store DomSt} {f22 : ModeSt} {f23 : RindSt} {f25 : CalSt} {f26 :
    Store MapSt} {f27 : Nat} {f28 : Store Wheel} {f29 : IdxPort} {f30 : IdxPort} {f31 : Store Int} {f32 : List (Nat × Nat × Int)} {f33 :
    List (Nat × Nat × Int)} {f36 : Store Nat} {f37 : Store Nat} {f39 : Store MicroWord} {f40 : Store BankSt} {f41 : PressSt} {f43 : Store
    AdcCore} {f44 : TdSt} {f45 : Store Lane} {f46 : List (Nat × Bool)} {f47 : Store PwmMod} {f48 : Store Bool} {f49 : Store (Option Bool)}
    {f50 : Store (Option Bool)} {f51 : List Nat} (h : Good q t)
    (hw : Good q t → q.mems → f18.buf.wf = true) : Good q (State.mk t.pending f1 f2 f3 f4 f5 f6 f7 f8 f9 f10 f11 f12 f13 f14 f15 t.hostMem
        f17 f18 f19 f20 f21 f22 f23 t.chans f25 f26 f27 f28 f29 f30 f31 f32 f33 t.engs t.clus f36 f37 t.msgs f39 f40 f41 t.smem f43 f44 f45
        f46 f47 f48 f49 f50 f51) :=
  ⟨h.queue, h.host, h.smem, hw h, h.engs, h.clus, h.chans, h.msgs⟩
/-- A record update that leaves the waiting commands alone. -/
theorem good_mk {t : State} {f1 : Time} {f2 : Nat} {f3 : Store Word} {f4 : Store Word} {f5 : Bool} {f6 : Store Nat} {f7 : Store Nat} {f8 :
    TickSt} {f9 : Store Word} {f10 : List (Nat × Word)} {f11 : Store PageSt} {f12 : List Running} {f13 : List Group} {f14 : HostSt} {f15 :
    RingSt} {f16 : Memory} {f17 : IuSt} {f18 : WheySt} {f19 : EthSt} {f20 : EthSt} {f21 : Store DomSt} {f22 : ModeSt} {f23 : RindSt} {f24 :
    Store Chan} {f25 : CalSt} {f26 : Store MapSt} {f27 : Nat} {f28 : Store Wheel} {f29 : IdxPort} {f30 : IdxPort} {f31 : Store Int} {f32 :
    List (Nat × Nat × Int)} {f33 : List (Nat × Nat × Int)} {f34 : Store Eng} {f35 : Store Clu} {f36 : Store Nat} {f37 : Store Nat} {f38 :
    List (Nat × Msg)} {f39 : Store MicroWord} {f40 : Store BankSt} {f41 : PressSt} {f42 : Memory} {f43 : Store AdcCore} {f44 : TdSt} {f45 :
    Store Lane} {f46 : List (Nat × Bool)} {f47 : Store PwmMod} {f48 : Store Bool} {f49 : Store (Option Bool)} {f50 : Store (Option Bool)}
    {f51 : List Nat} (h : Good q t)
    (h1 : Good q t → q.mems → f16.wf = true) (h2 : Good q t → q.mems → f42.wf = true) (hw : Good q t → q.mems → f18.buf.wf = true)
    (h3 : Good q t → ∀ e ∈ f34, e.2.Ok q) (h4 : Good q t → ∀ e ∈ f35, e.2.Ok q) (h5 : Good q t → ∀ e ∈ f24, e.2.Ok q) (h6 : Good q t →
        MsgsOk q f38) : Good q (State.mk t.pending f1 f2 f3 f4 f5 f6 f7 f8 f9 f10 f11 f12 f13 f14 f15 f16 f17 f18 f19 f20 f21 f22 f23 f24
        f25 f26 f27 f28 f29 f30 f31 f32 f33 f34 f35 f36 f37 f38 f39 f40 f41 f42 f43 f44 f45 f46 f47 f48 f49 f50 f51) :=
  ⟨h.queue, h1 h, h2 h, hw h, h3 h, h4 h, h5 h, h6 h⟩

theorem Cmd.onSecondary_good {wq : Keep} {c : Cmd} {rq : Req} {z : State} (h0 : ∀ r z, Good wq z → Good wq (c.run r z)) (h : Good wq z) :
    Good wq ((Cmd.onSecondary c).run rq z) := by
  unfold Cmd.onSecondary
  exact good_run h



theorem State.alarm_good {wq : Keep} {s : State} {origin : Nat} {kind : Nat} {tb : Nat} {body : List Word} (h0 : Good wq s) :
    Good wq (State.alarm s origin kind tb body) := by
  unfold State.alarm
  exact good_ite (good_upd h0 (fun hg => hg.buf)) (good_upd h0 (fun hg => hg.buf))

theorem State.bell_good {wq : Keep} {s : State} {src : Nat} (h0 : Good wq s) : Good wq (State.bell s src) := by
  unfold State.bell
  exact good_upd h0 (fun hg => hg.buf)

theorem State.bellIf_good {wq : Keep} {s : State} {c : Bool} {src : Nat} (h0 : Good wq s) : Good wq (State.bellIf s c src) := by
  unfold State.bellIf
  exact good_ite (State.bell_good h0) h0

theorem State.drawn_good {wq : Keep} {s : State} (h0 : Good wq s) : Good wq (State.drawn s).2 := by
  unfold State.drawn
  exact good_pair (good_upd h0 (fun hg => hg.buf))

theorem State.drawnBytes_good {wq : Keep} {s : State} {x : Nat} (h0 : Good wq s) : Good wq (s.drawnBytes x).2 := by
  induction x generalizing s with
  | zero => exact h0
  | succ n ih =>
    unfold State.drawnBytes
    exact ih (State.drawn_good h0)

theorem State.drawnCells_good {wq : Keep} {s : State} (h0 : Good wq s) : Good wq (State.drawnCells s).2 := by
  unfold State.drawnCells
  split
  rename_i a0 t1 heq2
  have hm3 : Good wq t1 := by
    exact good_snd_eq heq2 (State.drawnBytes_good h0)
  exact good_pair hm3

theorem State.dropEv_good {wq : Keep} {s : State} {slot : Nat} (h0 : Good wq s) : Good wq (State.dropEv s slot) := by
  unfold State.dropEv
  exact good_upd h0 (fun hg => hg.buf)

theorem State.dropPwmPins_good {wq : Keep} {s : State} (h0 : Good wq s) : Good wq (State.dropPwmPins s) := by
  unfold State.dropPwmPins
  exact good_upd h0 (fun hg => hg.buf)

theorem State.dropShadows_good {wq : Keep} {s : State} {p : Nat} (h0 : Good wq s) : Good wq (State.dropShadows s p) := by
  unfold State.dropShadows
  exact good_upd h0 (fun hg => hg.buf)

theorem Store.all_map {α : Type} {P : α → Prop} {m : Store α} {f : Nat × α → Nat × α} (h : ∀ e ∈ m, P e.2)
    (hf : ∀ e, P e.2 → P (f e).2) : ∀ e ∈ m.map f, P e.2 := by
  intro e he
  obtain ⟨x, hx, rfl⟩ := List.mem_map.mp he
  exact hf x (h x hx)
theorem State.jumpedOver_good {wq : Keep} {v : Nat} {s : State} (h1 : Good wq s) : Good wq (State.jumpedOver v s) := by
  unfold State.jumpedOver
  refine good_mk h1 (·.host) (·.smem) (·.buf) (·.engs) (·.clus) (fun hg => Store.all_map hg.chans ?_) (·.msgs)
  intro e he
  dsimp only
  split
  · exact he.keep rfl rfl
  · exact he

theorem State.keepLast_good {wq : Keep} {s : State} {d : List Nat} (h0 : Good wq s) : Good wq (State.keepLast s d) := by
  unfold State.keepLast
  exact good_upd h0 (fun hg => hg.buf)

theorem State.keepRun_good {wq : Keep} {s : State} {p : Nat} {code : Nat} {d : List Nat} (h0 : Good wq s) :
    Good wq (State.keepRun s p code d) := by
  unfold State.keepRun
  exact good_upd h0 (fun hg => hg.buf)

theorem State.latchSafe_good {wq : Keep} {s : State} (h0 : Good wq s) : Good wq (State.latchSafe s) := by
  unfold State.latchSafe
  exact good_upd h0 (fun hg => hg.buf)

theorem Chan.later_ok {wq : Keep} {j : Nat} {x : Chan} (h : x.Ok wq) : (x.later j).Ok wq :=
  h.le (by simp [Chan.later]) (by simp [Chan.later])
theorem State.later_good {wq : Keep} {j : Nat} {s : State} (h1 : Good wq s) : Good wq (State.later j s) := by
  unfold State.later
  exact good_mk h1 (·.host) (·.smem) (·.buf) (fun hg => Store.all_map hg.engs (fun _ h => h.keep rfl rfl)) (·.clus)
    (fun hg => Store.all_map hg.chans (fun _ h => Chan.later_ok h)) (·.msgs)

theorem State.markWaiting_good {wq : Keep} {s : State} (h0 : Good wq s) : Good wq (State.markWaiting s) := by
  unfold State.markWaiting
  exact good_upd h0 (fun hg => hg.buf)

theorem State.newClock_good {wq : Keep} {s : State} (h0 : Good wq s) : Good wq (State.newClock s) := by
  unfold State.newClock
  exact good_upd h0 (fun hg => hg.buf)

theorem State.nextSeq_good {wq : Keep} {s : State} {cls : Nat} (h0 : Good wq s) : Good wq (State.nextSeq s cls).2 := by
  unfold State.nextSeq
  split
  · exact good_pair (good_upd h0 (fun hg => hg.buf))
  · exact good_pair (good_upd h0 (fun hg => hg.buf))
  · exact good_pair (good_upd h0 (fun hg => hg.buf))
  · exact good_pair (good_upd h0 (fun hg => hg.buf))

theorem State.pcieClosed_good {wq : Keep} {s : State} (h0 : Good wq s) : Good wq (State.pcieClosed s) := by
  unfold State.pcieClosed
  exact good_ite (good_upd h0 (fun hg => hg.buf)) h0

theorem State.putBank_good {wq : Keep} {s : State} {c : Nat} {b : Bool} {ws : List (Nat × MicroWord)} (h0 : Good wq s) :
    Good wq (State.putBank s c b ws) := by
  unfold State.putBank
  exact good_upd h0 (fun hg => hg.buf)

theorem State.putBuf_good {wq : Keep} {s : State} {off : Nat} {ws : List Word} (h0 : Good wq s) : Good wq (s.putBuf off ws) := by
  unfold State.putBuf
  exact good_upd h0 (fun hg hm => Memory.setWords_wf (hg.buf hm))

theorem State.putRead_good {wq : Keep} {s : State} {port : Port} {w : Word} (h0 : Good wq s) : Good wq (State.putRead s port w) := by
  unfold State.putRead
  split
  · exact good_upd h0 (fun hg => hg.buf)
  · exact good_upd h0 (fun hg => hg.buf)
  · exact good_upd h0 (fun hg => hg.buf)

theorem State.putShadow_good {wq : Keep} {s : State} {a : Nat} {w : Word} (h0 : Good wq s) : Good wq (State.putShadow s a w) := by
  unfold State.putShadow
  exact good_upd h0 (fun hg => hg.buf)

theorem State.report_good {wq : Keep} {s : State} {op : Nat} {seq : Nat} {code : Nat} {pend : Bool} {data : Word} (h0 : Good wq s) :
    Good wq (State.report s op seq code pend data) := by
  unfold State.report
  exact good_upd h0 (fun hg => hg.buf)

theorem State.resetRegs_good {wq : Keep} {s : State} {p : Nat} {keep : Nat → Bool} (h0 : Good wq s) :
    Good wq (State.resetRegs s p keep) := by
  unfold State.resetRegs
  exact good_upd h0 (fun hg => hg.buf)

theorem State.restartStreams_good {wq : Keep} {s : State} {p : Nat} (h0 : Good wq s) : Good wq (State.restartStreams s p) := by
  unfold State.restartStreams
  exact good_upd h0 (fun hg => hg.buf)

theorem State.ringRise_good {wq : Keep} {s : State} {p : Nat} {s' : State} (h0 : Good wq s) (h2 : Good wq s') :
    Good wq (State.ringRise s p s') := by
  unfold State.ringRise
  exact good_ite (State.bell_good h2) h2

theorem State.setAdc_good {wq : Keep} {s : State} {n : Nat} {x : AdcCore} (h0 : Good wq s) : Good wq (State.setAdc s n x) := by
  unfold State.setAdc
  exact good_upd h0 (fun hg => hg.buf)

theorem State.setAin_good {wq : Keep} {s : State} {n : Nat} {ch : Nat} {x : AIn} (h0 : Good wq s) : Good wq (State.setAin s n ch x) := by
  unfold State.setAin
  exact State.setAdc_good h0

theorem State.setBank_good {wq : Keep} {s : State} {c : Nat} {b : Bool} {x : BankSt} (h0 : Good wq s) :
    Good wq (State.setBank s c b x) := by
  unfold State.setBank
  exact good_upd h0 (fun hg => hg.buf)

theorem State.setChan_good {wq : Keep} {s : State} {c : Nat} {x : Chan} (h0 : Good wq s) (hx : Good wq s → x.Ok wq) :
    Good wq (s.setChan c x) := by
  unfold State.setChan
  exact good_mk h0 (·.host) (·.smem) (·.buf) (·.engs) (·.clus) (fun hg => Store.all_set hg.chans (hx hg)) (·.msgs)

theorem State.setClk_good {wq : Keep} {s : State} {c : IuClk} (h0 : Good wq s) : Good wq (State.setClk s c) := by
  unfold State.setClk
  exact good_upd h0 (fun hg => hg.buf)

theorem State.setClu_good {wq : Keep} {s : State} {c : Nat} {x : Clu} (h0 : Good wq s) (hx : Good wq s → x.Ok wq) :
    Good wq (s.setClu c x) := by
  unfold State.setClu
  exact good_mk h0 (·.host) (·.smem) (·.buf) (·.engs) (fun hg => Store.all_set hg.clus (hx hg)) (·.chans) (·.msgs)

theorem State.setEng_good {wq : Keep} {s : State} {e : Nat} {x : Eng} (h0 : Good wq s) (hx : Good wq s → x.Ok wq) :
    Good wq (s.setEng e x) := by
  have h1 : Good wq { s with engs := s.engs.set {} e x } :=
    good_mk h0 (·.host) (·.smem) (·.buf) (fun hg => Store.all_set hg.engs (hx hg)) (·.clus) (·.chans) (·.msgs)
  unfold State.setEng
  exact good_ite (good_mk h1 (·.host) (·.smem) (·.buf) (fun hg => Store.all_set hg.engs ((hx h0).keep rfl rfl)) (·.clus) (·.chans) (·.msgs))
    h1

theorem State.setEth_good {wq : Keep} {s : State} {n : Nat} {x : EthSt} (h0 : Good wq s) : Good wq (State.setEth s n x) := by
  unfold State.setEth
  exact good_ite (good_upd h0 (fun hg => hg.buf)) (good_upd h0 (fun hg => hg.buf))

theorem State.setEv_good {wq : Keep} {s : State} {e : CalEv} (h0 : Good wq s) : Good wq (State.setEv s e) := by
  unfold State.setEv
  exact good_upd h0 (fun hg => hg.buf)

theorem State.setIdx_good {wq : Keep} {s : State} {p : Nat} {x : IdxPort} (h0 : Good wq s) : Good wq (State.setIdx s p x) := by
  unfold State.setIdx
  exact good_ite (good_upd h0 (fun hg => hg.buf)) (good_upd h0 (fun hg => hg.buf))

theorem State.setIsrc_good {wq : Keep} {s : State} {n : Nat} {x : IuSrc} (h0 : Good wq s) : Good wq (State.setIsrc s n x) := by
  unfold State.setIsrc
  exact good_upd h0 (fun hg => hg.buf)

theorem State.setItgt_good {wq : Keep} {s : State} {t : Nat} {x : IuTgt} (h0 : Good wq s) : Good wq (State.setItgt s t x) := by
  unfold State.setItgt
  exact good_upd h0 (fun hg => hg.buf)

theorem State.setLane_good {wq : Keep} {s : State} {l : Nat} {x : Lane} (h0 : Good wq s) : Good wq (State.setLane s l x) := by
  unfold State.setLane
  exact good_upd h0 (fun hg => hg.buf)

theorem State.setLock_good {wq : Keep} {s : State} {k : Slot} {t : Nat} (h0 : Good wq s) : Good wq (State.setLock s k t) := by
  unfold State.setLock
  exact good_upd h0 (fun hg => hg.buf)

theorem State.setMap_good {wq : Keep} {s : State} {u : Nat} {x : MapSt} (h0 : Good wq s) : Good wq (State.setMap s u x) := by
  unfold State.setMap
  exact good_upd h0 (fun hg => hg.buf)

theorem State.setMsix_good {wq : Keep} {s : State} {v : Nat} {m : Msix} (h0 : Good wq s) : Good wq (State.setMsix s v m) := by
  unfold State.setMsix
  exact good_upd h0 (fun hg => hg.buf)

theorem State.setPage_good {wq : Keep} {s : State} {p : Nat} {x : PageSt} (h0 : Good wq s) : Good wq (State.setPage s p x) := by
  unfold State.setPage
  exact good_upd h0 (fun hg => hg.buf)

theorem State.setPrepared_good {wq : Keep} {s : State} {p : Nat} {b : Bool} (h0 : Good wq s) : Good wq (State.setPrepared s p b) := by
  unfold State.setPrepared
  exact State.setPage_good h0

theorem State.setPwm_good {wq : Keep} {s : State} {m : Nat} {x : PwmMod} (h0 : Good wq s) : Good wq (State.setPwm s m x) := by
  unfold State.setPwm
  exact good_upd h0 (fun hg => hg.buf)

theorem State.setReg_good {wq : Keep} {s : State} {p : Nat} {o : Nat} {w : Word} (h0 : Good wq s) : Good wq (State.setReg s p o w) := by
  unfold State.setReg
  exact good_upd h0 (fun hg => hg.buf)

theorem State.setReg64_good {wq : Keep} {s : State} {p : Nat} {lo : Nat} {hi : Nat} {v : Nat} (h0 : Good wq s) :
    Good wq (State.setReg64 s p lo hi v) := by
  unfold State.setReg64
  exact State.setReg_good (State.setReg_good h0)

theorem State.setRegs_good {wq : Keep} {s : State} {e : Nat} {l : List (Nat × Word)} (h0 : Good wq s) : Good wq (State.setRegs s e l) := by
  unfold State.setRegs
  extract_lets -useContext v0
  have hv1 : Eng.Ok wq v0 := (h0.eng _)
  clear_value v0
  exact State.setEng_good h0 (fun hg => hv1.keep rfl rfl)

theorem State.setS_good {wq : Keep} {s : State} {e : Nat} {b : Bool} (h0 : Good wq s) : Good wq (State.setS s e b) := by
  unfold State.setS
  extract_lets -useContext v0 v1
  have hv2 : Eng.Ok wq v0 := (h0.eng _)
  clear_value v0 v1
  exact State.setEng_good h0 (fun hg => hv2.keep rfl rfl)

theorem State.setShared_good {wq : Keep} {s : State} {c : Nat} {a : Nat} {w : Word} (h0 : Good wq s) :
    Good wq (State.setShared s c a w) := by
  unfold State.setShared
  exact State.setClu_good h0 (fun hg => (h0.clu _).put rfl rfl rfl rfl)

theorem State.setTask_good {wq : Keep} {s : State} {c : Nat} {t : Nat} {x : TaskSt} (h0 : Good wq s) : Good wq (State.setTask s c t x) := by
  unfold State.setTask
  exact State.setClu_good h0 (fun hg => (h0.clu _).keep rfl rfl rfl rfl)

theorem State.setUnit_good {wq : Keep} {s : State} {c : Nat} {x : ShiftSt} (h0 : Good wq s) : Good wq (State.setUnit s c x) := by
  unfold State.setUnit
  exact State.setChan_good h0 (fun hg => (h0.chan _).keep rfl rfl)

theorem State.setWheel_good {wq : Keep} {s : State} {u : Nat} {x : Wheel} (h0 : Good wq s) : Good wq (State.setWheel s u x) := by
  unfold State.setWheel
  exact good_upd h0 (fun hg => hg.buf)

theorem State.setWring_good {wq : Keep} {s : State} {r : WheyRing} {x : WRing} (h0 : Good wq s) : Good wq (State.setWring s r x) := by
  unfold State.setWring
  split
  · exact good_upd h0 (fun hg => hg.buf)
  · exact good_upd h0 (fun hg => hg.buf)
  · exact good_upd h0 (fun hg => hg.buf)

theorem State.settleSeq_good {wq : Keep} {s : State} (h0 : Good wq s) : Good wq (State.settleSeq s) := by
  unfold State.settleSeq
  exact good_upd h0 (fun hg => hg.buf)

theorem State.settleSrc_good {wq : Keep} {s : State} {n : Nat} (h0 : Good wq s) : Good wq (State.settleSrc s n) := by
  unfold State.settleSrc
  extract_lets -useContext v0 v1 v2
  clear_value v0 v1 v2
  refine good_ite h0 ?_
  refine good_ite ?_ (State.setIsrc_good h0)
  split
  · exact State.setIsrc_good h0
  · exact State.setIsrc_good h0

theorem State.showTarget_good {wq : Keep} {s : State} {t : Nat} (h0 : Good wq s) : Good wq (State.showTarget s t) := by
  unfold State.showTarget
  exact State.setClk_good h0

theorem State.startGroup_good {wq : Keep} {s : State} {n : Nat} (h0 : Good wq s) : Good wq (State.startGroup s n) := by
  unfold State.startGroup
  extract_lets -useContext v0 v1 v2
  clear_value v0 v1 v2
  exact good_ite h0 (good_upd h0 (fun hg => hg.buf))

theorem State.stopPwm_good {wq : Keep} {s : State} {m : Nat} (h0 : Good wq s) : Good wq (State.stopPwm s m) := by
  unfold State.stopPwm
  extract_lets -useContext v0
  clear_value v0
  exact State.setPwm_good h0

theorem State.tapDone_good {wq : Keep} {s : State} {op : Nat} {bar2 : Bool} {a : Nat} {code : Nat} {w : Word} (h0 : Good wq s) :
    Good wq (State.tapDone s op bar2 a code w) := by
  unfold State.tapDone
  exact good_upd h0 (fun hg => hg.buf)

theorem State.tapSelect_good {wq : Keep} {s : State} (h0 : Good wq s) : Good wq (State.tapSelect s) := by
  unfold State.tapSelect
  exact good_upd h0 (fun hg => hg.buf)

theorem State.transmit_good {wq : Keep} {s : State} {p : Nat} {src : BitVec 2} {dst : BitVec 2} {bcast : Bool} {l : Payload} (h0 : Good wq
    s) :
    Good wq (State.transmit s p src dst bcast l) := by
  unfold State.transmit
  extract_lets -useContext v0 v1 v2 v3 v4 v5
  have hv6 : Good wq v5 := State.setReg_good h0
  exact State.setIdx_good hv6

theorem State.triggerSrc_good {wq : Keep} {s : State} {kind : Nat} {evt : Nat} {idx : Nat} {tb : Nat} (h0 : Good wq s) :
    Good wq (State.triggerSrc s kind evt idx tb) := by
  unfold State.triggerSrc
  refine good_foldl h0 ?_
  intro z1 y2 hz0
  refine good_foldl hz0 ?_
  intro z4 y5 hz3
  extract_lets -useContext v6 v7
  clear_value v6 v7
  exact good_ite (State.setAdc_good hz3) hz3

theorem State.unchain_good {wq : Keep} {s : State} {u : Nat} (h0 : Good wq s) : Good wq (State.unchain s u) := by
  unfold State.unchain
  exact good_foldl h0 (fun z1 y2 hz0 => good_ite (State.setMap_good hz0) hz0)

theorem State.unlist_good {wq : Keep} {s : State} {p : Nat} (h0 : Good wq s) : Good wq (State.unlist s p) := by
  unfold State.unlist
  exact good_upd h0 (fun hg => hg.buf)

theorem State.unload_good {wq : Keep} {s : State} {e : CalEv} (h0 : Good wq s) : Good wq (State.unload s e) :=
  State.setChan_good h0 (fun hg => (hg.chan _).le (List.length_filter_le _ _) (Nat.le_refl _))

theorem State.wakeBit_good {wq : Keep} {s : State} {c : Nat} {i : Nat} (h0 : Good wq s) : Good wq (State.wakeBit s c i) := by
  unfold State.wakeBit
  extract_lets -useContext v0
  have hv1 : Clu.Ok wq v0 := (h0.clu _)
  clear_value v0
  exact State.setClu_good h0 (fun hg => hv1.keep rfl rfl rfl rfl)

theorem State.wakeLevels_good {wq : Keep} {s : State} (h0 : Good wq s) : Good wq (State.wakeLevels s) := by
  unfold State.wakeLevels
  exact good_mk h0 (·.host) (·.smem) (·.buf) (·.engs) (fun hg => Store.all_map hg.clus (fun _ h => h.keep rfl rfl rfl rfl)) (·.chans)
    (·.msgs)



theorem adcRelease_good {wq : Keep}  {rq : Req} {z : State}  (h : Good wq z) : Good wq (adcRelease.run rq z) := by
  unfold adcRelease
  exact good_run h

theorem adcSubstitute_good {wq : Keep}  {rq : Req} {z : State}  (h : Good wq z) : Good wq (adcSubstitute.run rq z) := by
  unfold adcSubstitute
  exact good_run (State.keepRun_good h)

theorem addUrgent_good {wq : Keep} {n : Nat} {u : Urg} {s : State} (h2 : Good wq s) : Good wq (addUrgent n u s) := by
  unfold addUrgent
  extract_lets -useContext v0
  clear_value v0
  exact State.setAdc_good h2

theorem applyPeriod_good {wq : Keep} {m : Nat} {s : State} (h1 : Good wq s) : Good wq (applyPeriod m s) := by
  unfold applyPeriod
  extract_lets -useContext v0 v1
  clear_value v0 v1
  exact State.setPwm_good h1

theorem bankSwitch_good {wq : Keep}  {rq : Req} {z : State}  (h : Good wq z) : Good wq (bankSwitch.run rq z) := by
  unfold bankSwitch
  refine good_run ?_
  extract_lets -useContext v0 v1 v2
  clear_value v0 v1
  have hv3 : Good wq v2 := good_upd h (fun hg => hg.buf)
  clear_value v2
  exact State.keepRun_good hv3

theorem beginEntry_good {wq : Keep} {n : Nat} {e : Nat} {beg : Nat} {s : State} (h3 : Good wq s) : Good wq (beginEntry n e beg s) := by
  unfold beginEntry
  extract_lets -useContext v0 v1 v2 v3
  refine good_ite ?_ (State.setAdc_good h3)
  split
  · exact State.setAdc_good h3
  · exact State.setAdc_good h3

theorem bounceEpoch_good {wq : Keep} {addr : Word} {s : State} (h1 : Good wq s) : Good wq (bounceEpoch addr s).2 := by
  unfold bounceEpoch
  extract_lets -useContext v0 v1
  clear_value v0 v1
  exact good_ite_snd (good_pair h1) (good_ite_snd (good_pair h1) (good_pair (State.drawn_good h1)))

theorem camRecall_good {wq : Keep} {u : Nat} {edges : List CamEdgeRec} {s : State} (h2 : Good wq s) : Good wq (camRecall u edges s) := by
  unfold camRecall
  refine good_foldl (State.setWheel_good h2) ?_
  intro z1 y2 hz0
  extract_lets -useContext v3
  clear_value v3
  split
  · exact State.setWheel_good hz0
  · exact State.setWheel_good hz0

theorem chgAuth_good {wq : Keep}  {rq : Req} {z : State}  (h : Good wq z) : Good wq (chgAuth.run rq z) := by
  unfold chgAuth
  exact good_run h

theorem clearLimp_good {wq : Keep} {s : State} (h0 : Good wq s) : Good wq (clearLimp s) := by
  unfold clearLimp
  extract_lets -useContext v0 v1
  have hv2 : Good wq v0 := State.setReg_good h0
  clear_value v0 v1
  exact good_upd hv2 (fun hg => hg.buf)

theorem clearReport_good {wq : Keep} {s : State} (h0 : Good wq s) : Good wq (clearReport s) := by
  unfold clearReport
  exact good_foldl (State.setReg_good h0) (fun z1 y2 hz0 => State.setReg_good hz0)

theorem closeIntake_good {wq : Keep} {s : State} (h0 : Good wq s) : Good wq (closeIntake s) := by
  unfold closeIntake
  exact good_upd h0 (fun hg => hg.buf)

theorem copyBank_good {wq : Keep} {c : Nat} {s : State} (h1 : Good wq s) : Good wq (copyBank c s) := by
  unfold copyBank
  extract_lets -useContext v0 v1
  clear_value v0
  have hv2 : Good wq v1 := good_upd h1 (fun hg => hg.buf)
  clear_value v1
  exact State.setBank_good (State.putBank_good hv2)

theorem copyCore_good {wq : Keep} {src : Nat} {dst : Nat} {cfg : Bool} {s : State} (h3 : Good wq s) : Good wq (copyCore src dst cfg s) := by
  unfold copyCore
  extract_lets -useContext v0 v1
  have hv2 : ∀ w3 w5 w6 w7 w8, Good wq w3 → Good wq (v0 w3 w5 w6 w7 w8) := by
    intro w3 w5 w6 w7 w8 hw4
    unfold v0
    try beta_reduce
    refine good_foldl hw4 ?_
    intro z10 y11 hz9
    extract_lets -useContext v12
    clear_value v12
    exact good_ite hz9 (State.setReg_good hz9)
  clear_value v0
  have hv13 : Good wq v1 := good_ite (hv2 _ _ _ _ _ (hv2 _ _ _ _ _ h3)) h3
  clear_value v1
  exact good_foldl hv13 (fun z15 y16 hz14 => State.setReg_good (State.setReg_good hz14))

theorem copyRole_good {wq : Keep} {c : Nat} {k : Nat} {lost : Bool} {s : State} (h3 : Good wq s) : Good wq (copyRole c k lost s) := by
  unfold copyRole
  extract_lets -useContext v0 v1 v2 v3 v4
  have hv5 : Clu.Ok wq v0 := h3.clu _
  clear_value v0
  have hv6 : Good wq v1 := by
    refine good_foldl h3 ?_
    intro z i hz
    refine good_mk hz (·.host) (·.smem) (·.buf) (fun hg => Store.all_set hg.engs ⟨fun a => ?_, (hg.eng _).stack⟩) (·.clus) (·.chans)
        (·.msgs)
    dsimp only
    split
    · rfl
    · exact (hg.eng _).mem a
  have hv10 : Clu.Ok wq v2 := hv6.clu _
  clear_value v1 v2
  have hv11 : Good wq v3 := by
    refine State.setClu_good hv6 (fun _ => ⟨fun a => ?_, hv10.msgs, fun a => ?_, hv10.checks⟩)
    · dsimp only
      split
      · rfl
      · exact hv5.mem a
    · dsimp only
      split
      · simp
      · exact hv5.events a
  have hv12 : Clu.Ok wq v4 := hv11.clu _
  clear_value v3 v4
  exact State.setClu_good hv11 (fun _ => hv12.le rfl (Nat.le_refl _) (by simp) (Nat.le_refl _))

theorem dispatch_good {wq : Keep} {e : Nat} {s : State} (h1 : Good wq s) : Good wq (dispatch e s) := by
  unfold dispatch
  refine good_ite h1 ?_
  split
  · exact h1
  · extract_lets -useContext v0 v1 v2 v3 v4
    have hv5 : Eng.Ok wq v2 := (h1.eng _)
    clear_value v0 v1 v2 v3
    have hv6 : Good wq v4 := State.setEng_good h1 (fun hg => hv5.noStack rfl rfl)
    clear_value v4
    exact State.setTask_good hv6

theorem domCmd_good {wq : Keep} {code : Nat} {frm : List Nat} {rq : Req} {z : State}  (h : Good wq z) :
    Good wq ((domCmd code frm).run rq z) := by
  unfold domCmd
  refine good_run ?_
  extract_lets -useContext v0
  clear_value v0
  exact good_upd h (fun hg => hg.buf)

theorem domIsolate_good {wq : Keep}  {rq : Req} {z : State}  (h : Good wq z) : Good wq (domIsolate.run rq z) := by
  unfold domIsolate
  exact domCmd_good h

theorem domOff_good {wq : Keep}  {rq : Req} {z : State}  (h : Good wq z) : Good wq (domOff.run rq z) := by
  unfold domOff
  exact domCmd_good h

theorem domOn_good {wq : Keep}  {rq : Req} {z : State}  (h : Good wq z) : Good wq (domOn.run rq z) := by
  unfold domOn
  exact domCmd_good h

theorem domReset_good {wq : Keep}  {rq : Req} {z : State}  (h : Good wq z) : Good wq (domReset.run rq z) := by
  unfold domReset
  exact domCmd_good h

theorem domainResetCore_good {wq : Keep} {p : Nat} {s : State} (h1 : Good wq s) : Good wq (domainResetCore p s) := by
  unfold domainResetCore
  exact good_ite (State.setReg_good (State.setReg_good h1)) h1

theorem drainWaiting_good {wq : Keep} {p x : Nat} {s : State} (h0 : Good wq s) : Good wq (drainWaiting p x s) := by
  induction x generalizing s with
  | zero => exact h0
  | succ n ih =>
    unfold drainWaiting
    dsimp only
    split
    · exact h0
    · exact good_ite h0 (ih (State.transmit_good (State.setIdx_good h0)))

theorem dropRole_good {wq : Keep} {c : Nat} {s : State} (h1 : Good wq s) : Good wq (dropRole c s) := by
  unfold dropRole
  exact State.setClu_good h1 (fun hg => (h1.clu _).keep rfl rfl rfl rfl)

theorem dropRoleMap_good {wq : Keep} {s : State} (h0 : Good wq s) : Good wq (dropRoleMap s) := by
  unfold dropRoleMap
  extract_lets -useContext v0 v1
  have hv2 : Good wq v0 := good_foldl h0 (fun z4 y5 hz3 => State.setReg_good hz3)
  clear_value v0 v1
  exact good_upd hv2 (fun hg => hg.buf)

theorem emptyLane_good {wq : Keep} {l : Nat} {s : State} (h1 : Good wq s) : Good wq (emptyLane l s) := by
  unfold emptyLane
  exact State.setReg_good (State.setReg_good h1)

theorem emptyRing_good {wq : Keep} {n : Nat} {r : Nat} {s : State} (h2 : Good wq s) : Good wq (emptyRing n r s) := by
  unfold emptyRing
  exact State.setReg_good (State.setReg_good h2)

theorem endPulse_good {wq : Keep} {c : Nat} {s : State} (h1 : Good wq s) : Good wq (endPulse c s) := by
  unfold endPulse
  exact State.setChan_good h1 (fun hg => (h1.chan _).keep rfl rfl)

theorem endShift_good {wq : Keep} {e : Nat} {res : Word} {sflag : Bool} {s : State} (h3 : Good wq s) :
    Good wq (endShift e res sflag s) := by
  unfold endShift
  extract_lets -useContext v0 v1
  have hv2 : Eng.Ok wq v0 := (h3.eng _)
  clear_value v0 v1
  split
  · exact h3
  · extract_lets -useContext v3
    have hv4 : Good wq v3 := State.setEng_good h3 (fun hg => hv2.keep rfl rfl)
    clear_value v3
    split
    · exact hv4
    · exact State.setTask_good hv4

theorem endTask_good {wq : Keep} {c : Nat} {t : Nat} {s : State} (h2 : Good wq s) : Good wq (endTask c t s) := by
  unfold endTask
  exact State.setTask_good h2

theorem endWindow_good {wq : Keep} {l : Nat} {w : RWin} {s : State} (h2 : Good wq s) : Good wq (endWindow l w s) := by
  unfold endWindow
  extract_lets -useContext v0 v1 v2
  clear_value v0 v1
  have hv3 : Good wq v2 := State.setLane_good h2
  clear_value v2
  exact State.setReg_good hv3

theorem errBound_good {wq : Keep} {u : Nat} {s : State} (h1 : Good wq s) : Good wq (errBound u s) := by
  unfold errBound
  extract_lets -useContext v0 v1 v2 v3 v4 v5 v6
  clear_value v0 v1 v2 v3 v4 v5 v6
  exact State.setReg_good h1

theorem execCamlost_good {wq : Keep} {u : Fin 8} {s : State} (hst : Good wq s) : ∃ wt, execCamlost u s = .next wt ∧ Good wq wt :=
  next_good rfl (good_ite (State.setWheel_good hst) hst)

theorem execDispatch_good {wq : Keep} {e : Fin 128} {s : State} (hst : Good wq s) : ∃ wt, execDispatch e s = .next wt ∧ Good wq wt :=
  next_good rfl (dispatch_good hst)

theorem failStalls_good {wq : Keep} {c : Nat} {code : Nat} {s : State} (h2 : Good wq s) : Good wq (failStalls c code s) := by
  unfold failStalls
  refine good_foldl h2 ?_
  intro z1 y2 hz0
  split
  · exact endShift_good hz0
  · exact hz0

theorem followPwm_good {wq : Keep} {m : Nat} {s : State} (h1 : Good wq s) : Good wq (followPwm m s) := by
  unfold followPwm
  exact good_upd h1 (fun hg => hg.buf)

theorem frameError_good {wq : Keep} {c : Nat} {s : State} (h1 : Good wq s) : Good wq (frameError c s) := by
  unfold frameError
  extract_lets -useContext v0
  clear_value v0
  exact failStalls_good (State.setUnit_good h1)

theorem freeEngine_good {wq : Keep} {e : Nat} {s : State} (h1 : Good wq s) : Good wq (freeEngine e s) := by
  unfold freeEngine
  exact State.setEng_good h1 (fun hg => (h1.eng _).noStack rfl rfl)

theorem gridStep_good {wq : Keep} {b : Nat} {s : State} (h1 : Good wq s) : Good wq (gridStep b s) := by
  unfold gridStep
  extract_lets -useContext v0 v1 v2 v3
  clear_value v0 v1 v2
  have hv4 : Good wq v3 := State.setReg_good h1
  clear_value v3
  exact good_upd hv4 (fun hg => hg.buf)

theorem groupCmd_good {wq : Keep}  {rq : Req} {z : State}  (h : Good wq z) : Good wq (groupCmd.run rq z) := by
  unfold groupCmd
  exact good_run h

theorem handSample_good {wq : Keep} {r : SampRec} {s : State} (h1 : Good wq s) : Good wq (handSample r s) := by
  unfold handSample
  refine good_foldl h1 ?_
  intro z1 y2 hz0
  extract_lets -useContext v3 v4
  clear_value v3 v4
  exact good_ite hz0 (State.setLane_good hz0)

theorem holdBank_good {wq : Keep} {d : Nat} {s : State} (h1 : Good wq s) : Good wq (holdBank d s) := by
  unfold holdBank
  exact good_ite (good_upd h1 (fun hg => hg.buf)) h1

theorem holdCyc_good {wq : Keep} {u : Nat} {s : State} (h1 : Good wq s) : Good wq (holdCyc u s) := by
  unfold holdCyc
  exact good_ite (State.setWheel_good h1) h1

theorem idleDo_good {wq : Keep} {t : Nat} {s : State} (h1 : Good wq s) : Good wq (idleDo t s) := by
  unfold idleDo
  exact good_ite h1 (State.setItgt_good h1)

theorem idxTick_good {wq : Keep} {s : State} (h0 : Good wq s) : Good wq (idxTick s) := by
  unfold idxTick
  exact good_upd h0 (fun hg => hg.buf)

theorem keepBlanks_good {wq : Keep} {old : State} {s : State} (h0 : Good wq old) (h1 : Good wq s) : Good wq (keepBlanks old s) := by
  unfold keepBlanks
  refine good_foldl h1 ?_
  intro z1 y2 hz0
  extract_lets -useContext v3 v4 v5
  have hv6 : Chan.Ok wq v5 := (hz0.chan _)
  clear_value v3 v4 v5
  exact good_ite hz0 (State.setChan_good hz0 (fun hg => hv6.keep rfl rfl))

theorem keepCycles_good {wq : Keep} {s : State} (h0 : Good wq s) : Good wq (keepCycles s) := by
  unfold keepCycles
  extract_lets -useContext v0
  clear_value v0
  exact good_upd h0 (fun hg => hg.buf)

theorem keepOld_good {wq : Keep} {k : Nat} {s : State} (h1 : Good wq s) : Good wq (keepOld k s) := by
  unfold keepOld
  exact good_upd h1 (fun hg => hg.buf)

theorem levelDue_good {wq : Keep} {cmd : Nat} {level : Nat} {s : State} (h2 : Good wq s) : Good wq (levelDue cmd level s) := by
  unfold levelDue
  exact good_upd h2 (fun hg => hg.buf)

theorem mapsTurn_good {wq : Keep} {s : State} (h0 : Good wq s) : Good wq (mapsTurn s) := by
  unfold mapsTurn
  refine good_foldl h0 ?_
  intro z1 y2 hz0
  extract_lets -useContext v3
  clear_value v3
  exact State.setMap_good hz0

theorem markWheelLanes_good {wq : Keep} {takes : Nat → Bool} {s : State} (h1 : Good wq s) : Good wq (markWheelLanes takes s) := by
  unfold markWheelLanes
  refine good_foldl h1 ?_
  intro z2 y3 hz1
  refine good_ite ?_ hz1
  extract_lets -useContext v4
  clear_value v4
  exact State.setLane_good hz1

theorem mclogPop_good {wq : Keep} {c : Nat} {data : Word} {s : State} (h2 : Good wq s) : Good wq (mclogPop c data s) := by
  unfold mclogPop
  exact good_ite (State.setClu_good h2 (fun hg => (hg.clu _).le rfl (Nat.le_refl _) (Nat.le_refl _) (by simp))) h2

theorem modeCmd_good {wq : Keep} {frm : List Nat} {more : State → List (Nat × Bool)} {act : State → State} {rq : Req} {z : State} (h2 : ∀
    z, Good wq z → Good wq (act z)) (h : Good wq z) :
    Good wq ((modeCmd frm more act).run rq z) := by
  unfold modeCmd
  exact good_run (h2 _ h)

theorem noteLost_good {wq : Keep} {p : Nat} {s : State} (h1 : Good wq s) : Good wq (noteLost p s) := by
  unfold noteLost
  extract_lets -useContext v0
  clear_value v0
  exact good_ite h1 (good_upd h1 (fun hg => hg.buf))

theorem oweDomain_good {wq : Keep} {d : Nat} {s : State} (h1 : Good wq s) : Good wq (oweDomain d s) := by
  unfold oweDomain
  exact good_ite h1 (good_upd h1 (fun hg => hg.buf))

theorem oweRepair_good {wq : Keep} {p : Nat} {s : State} (h1 : Good wq s) : Good wq (oweRepair p s) := by
  unfold oweRepair
  extract_lets -useContext v0
  have hv1 : Good wq v0 := oweDomain_good h1
  clear_value v0
  exact good_ite (oweDomain_good hv1) hv1

theorem passPipe_good {wq : Keep} {src : Nat} {dst : Nat} {s : State} (h2 : Good wq s) : Good wq (passPipe src dst s) := by
  unfold passPipe
  extract_lets -useContext v0 v1 v2 v3
  clear_value v0 v1
  have hv4 : Good wq v2 := State.setAdc_good h2
  clear_value v2 v3
  exact State.setAdc_good hv4

theorem patchLast_good {wq : Keep} {w : RWin} {s : State} (h1 : Good wq s) : Good wq (patchLast w s) := by
  unfold patchLast
  split
  · refine good_mk ?_ (fun hg => ?_) (fun hg => ?_) (fun hg => ?_) (fun hg => ?_) (fun hg => ?_) (fun hg => ?_) (fun hg => ?_)
    · exact h1
    · exact hg.host
    · first | exact fun hm => Memory.setWord_wf (hg.smem hm) | exact fun hm => Memory.setWords_wf (hg.smem hm) | exact fun _ => rfl
    · exact hg.buf
    · exact hg.engs
    · exact hg.clus
    · exact hg.chans
    · exact hg.msgs
  · exact h1

theorem peerMeasured_good {wq : Keep} {n : Nat} {seq : Nat} {t3 : Int} {s : State} (h3 : Good wq s) :
    Good wq (peerMeasured n seq t3 s) := by
  unfold peerMeasured
  extract_lets -useContext v0
  clear_value v0
  split
  · exact h3
  · refine good_ite h3 ?_
    extract_lets -useContext v1
    clear_value v1
    exact State.setEth_good h3

theorem phase_good {wq : Keep} {u : Nat} {half : Nat} {s : State} (h2 : Good wq s) : Good wq (phase u half s) := by
  unfold phase
  extract_lets -useContext v0 v1 v2
  clear_value v0 v1 v2
  exact State.setWheel_good h2

theorem pinsAtBoundary_good {wq : Keep} {s : State} (h0 : Good wq s) : Good wq (pinsAtBoundary s) := by
  unfold pinsAtBoundary
  exact good_foldl h0 (fun z1 y2 hz0 => good_ite (followPwm_good hz0) hz0)

theorem plainWrite_good {wq : Keep} {a : Nat} {w : Word} {s : State} (h2 : Good wq s) : Good wq (plainWrite a w s) := by
  unfold plainWrite
  extract_lets -useContext v0 v1
  clear_value v0 v1
  split
  · exact h2
  · extract_lets -useContext v2
    clear_value v2
    split
    · exact State.setReg_good h2
    · exact State.setReg_good h2
    · exact State.setReg_good h2
    · exact State.setReg_good h2
    · exact h2
    · exact h2
    · exact h2

theorem popCapture_good {wq : Keep} {c : Nat} {s : State} (h1 : Good wq s) : Good wq (popCapture c s).2 := by
  unfold popCapture
  split
  · exact h1
  · rename_i e t he
    exact State.setChan_good h1 (fun hg => (hg.chan c).le (Nat.le_refl _) (by rw [he]; simp))

theorem popHead_good {wq : Keep} {c : Nat} {t : List CmpEntry} {f : Nat} {s : State} (h : Good wq s) (hl : wq.bounds → t.length ≤ 4) :
    Good wq (popHead c t f s) :=
  State.setChan_good h (fun hg => ⟨hl, (hg.chan _).capture⟩)

theorem postedAccept_good {wq : Keep} {a : Nat} {w : Word} {len : Nat} {s : State} (h3 : Good wq s) : Good wq (postedAccept a w len s) := by
  unfold postedAccept
  refine good_ite (State.pcieClosed_good h3) ?_
  refine good_ite h3 ?_
  extract_lets -useContext v0 v1
  clear_value v0 v1
  exact State.settleSeq_good (good_upd h3 (fun hg => hg.buf))

theorem putReport_good {wq : Keep} {l : List CfgFail} {s : State} (h1 : Good wq s) : Good wq (putReport l s) := by
  unfold putReport
  extract_lets -useContext v0
  have hv1 : Good wq v0 := good_foldl h1 (fun z3 y4 hz2 => State.setReg_good hz2)
  clear_value v0
  exact State.setReg_good hv1

theorem putTemp_good {wq : Keep} {t : Int} {s : State} (h1 : Good wq s) : Good wq (putTemp t s) := by
  unfold putTemp
  extract_lets -useContext v0
  clear_value v0
  exact State.setReg_good h1

theorem pwelPop_good {wq : Keep} {w : Word} {s : State} (h1 : Good wq s) : Good wq (pwelPop w s) := by
  unfold pwelPop
  exact good_ite (good_upd h1 (fun hg => hg.buf)) h1

theorem pwmRelease_good {wq : Keep}  {rq : Req} {z : State}  (h : Good wq z) : Good wq (pwmRelease.run rq z) := by
  unfold pwmRelease
  exact good_run h

theorem pwmSubstitute_good {wq : Keep}  {rq : Req} {z : State}  (h : Good wq z) : Good wq (pwmSubstitute.run rq z) := by
  unfold pwmSubstitute
  exact good_run (State.keepRun_good h)

theorem pwmUpdate_good {wq : Keep} {m : Nat} {f : Nat} {g : State → State} {s : State} (h2 : ∀ w0, Good wq w0 → Good wq (g w0)) (h3 : Good
    wq s) :
    Good wq (pwmUpdate m f g s) := by
  unfold pwmUpdate
  extract_lets -useContext v1 v2
  clear_value v1
  have hv3 : Good wq v2 := h2 _ h3
  clear_value v2
  exact good_foldl hv3 (fun z5 y6 hz4 => good_ite hz4 (State.triggerSrc_good hz4))

theorem qpossetDo_good {wq : Keep} {u : Nat} {v : Nat} {s : State} (h2 : Good wq s) : Good wq (qpossetDo u v s) := by
  unfold qpossetDo
  exact State.setWheel_good h2

theorem readout_good {wq : Keep}  {rq : Req} {z : State}  (h : Good wq z) : Good wq (readout.run rq z) := by
  unfold readout
  exact good_run h

theorem readyTask_good {wq : Keep} {c : Nat} {t : Nat} {s : State} (h2 : Good wq s) : Good wq (readyTask c t s) := by
  unfold readyTask
  extract_lets -useContext v0
  clear_value v0
  exact good_ite (good_ite (State.setTask_good h2) h2) (good_ite (State.setTask_good h2) (State.setTask_good h2))

theorem reboot_good {wq : Keep}  {rq : Req} {z : State}  (h : Good wq z) : Good wq (reboot.run rq z) := by
  unfold reboot
  exact modeCmd_good (fun w0 hw0 => id_good hw0) h

theorem regrid_good {wq : Keep} {s : State} (h0 : Good wq s) : Good wq (regrid s) := by
  unfold regrid
  extract_lets -useContext v0 v1
  clear_value v0 v1
  exact good_upd h0 (fun hg => hg.buf)

theorem resetCluster_good {wq : Keep} {c : Nat} {mem : Bool} {s : State} (h2 : Good wq s) : Good wq (resetCluster c mem s) := by
  unfold resetCluster
  extract_lets -useContext v0 v1 v2 v3
  have hv4 : Clu.Ok wq v0 := h2.clu _
  clear_value v0
  have hv5 : Good wq v1 :=
    good_mk h2 (·.host) (·.smem) (·.buf) (·.engs) (·.clus) (·.chans) (fun hg b c hc =>
      Nat.le_trans (List.Sublist.length_le (List.Sublist.filter _ (List.filter_sublist))) (hg.msgs b c hc))
  clear_value v1
  have hv6 : Good wq v2 := by
    refine good_foldl hv5 ?_
    intro z i hz
    refine good_mk hz (·.host) (·.smem) (·.buf) (fun hg => Store.all_set hg.engs ⟨fun a => ?_, fun _ => by simp⟩) (·.clus) (·.chans)
        (·.msgs)
    dsimp only
    split
    · rfl
    · exact (hg.eng _).mem a
  clear_value v2 v3
  refine State.setClu_good hv6 (fun _ => ⟨fun a => ?_, fun _ => by simp, fun _ => by simp, fun _ => by simp⟩)
  dsimp only
  split
  · rfl
  · exact hv4.mem a

theorem resetCore_good {wq : Keep} {n : Nat} {s : State} (h1 : Good wq s) : Good wq (resetCore n s) := by
  unfold resetCore
  extract_lets -useContext v0
  clear_value v0
  exact good_foldl (State.setAdc_good h1) (fun z2 y3 hz1 => emptyRing_good hz1)

theorem resetPwm_good {wq : Keep} {m : Nat} {s : State} (h1 : Good wq s) : Good wq (resetPwm m s) := by
  unfold resetPwm
  exact State.setPwm_good h1

theorem resolveHeld_good {wq : Keep} {u : Nat} {s : State} (h1 : Good wq s) : Good wq (resolveHeld u s) := by
  unfold resolveHeld
  split
  · exact h1
  · exact good_foldl h1 (fun z1 y2 hz0 => State.setEv_good hz0)

theorem resume_good {wq : Keep}  {rq : Req} {z : State}  (h : Good wq z) : Good wq (resume.run rq z) := by
  unfold resume
  exact modeCmd_good (fun w0 hw0 => id_good hw0) h

theorem revert_good {wq : Keep} {s : State} {o : Nat} (h0 : Good wq s) : Good wq (revert s o) := by
  unfold revert
  extract_lets -useContext v0 v1 v2
  clear_value v0 v1
  have hv3 : Good wq v2 := good_ite (State.setReg_good h0) h0
  clear_value v2
  exact good_upd hv3 (fun hg => hg.buf)

theorem ringReset_good {wq : Keep}  {rq : Req} {z : State}  (h : Good wq z) : Good wq (ringReset.run rq z) := by
  unfold ringReset
  exact good_run (State.keepRun_good h)

theorem sampleCells_good {wq : Keep} {s : State} (h0 : Good wq s) : Good wq (sampleCells s) := by
  unfold sampleCells
  split
  rename_i a0 t1 heq2
  have hm3 : Good wq t1 := by
    exact good_snd_eq heq2 (State.drawnCells_good h0)
  exact good_upd hm3 (fun hg => hg.buf)

theorem samplePreload_good {wq : Keep} {s : State} (h0 : Good wq s) : Good wq (samplePreload s) := by
  unfold samplePreload
  split
  rename_i a0 t1 heq2
  have hm3 : Good wq t1 := by
    exact good_snd_eq heq2 (State.drawnCells_good (sampleCells_good h0))
  exact good_upd hm3 (fun hg => hg.buf)

theorem sampleRead_good {wq : Keep} {e : Nat} {xd : Nat} {a : Nat} {quad : Bool} {s : State} (h4 : Good wq s) :
    Good wq (sampleRead e xd a quad s) := by
  unfold sampleRead
  extract_lets -useContext v0
  clear_value v0
  exact State.setRegs_good h4

theorem scrKeyDo_good {wq : Keep} {i : Nat} {w : Word} {s : State} (h2 : Good wq s) : Good wq (scrKeyDo i w s) := by
  unfold scrKeyDo
  exact good_upd h2 (fun hg => hg.buf)

theorem sealRecall_good {wq : Keep} {s : State} (h0 : Good wq s) : Good wq (sealRecall s) := by
  unfold sealRecall
  split
  · exact h0
  · refine good_ite h0 ?_
    extract_lets -useContext v0
    have hv1 : Good wq v0 := by
      unfold v0
      refine good_foldl h0 ?_
      intro z3 y4 hz2
      split
      · exact hz2
      · extract_lets -useContext v5
        have hv6 : Good wq v5 := good_foldl hz2 (fun z8 y9 hz7 => State.setReg_good hz7)
        clear_value v5
        exact State.setReg_good hv6
    clear_value v0
    exact good_foldl hv1 (fun z11 y12 hz10 => State.setReg_good hz10)

theorem selftest_good {wq : Keep}  {rq : Req} {z : State}  (h : Good wq z) : Good wq (selftest.run rq z) := by
  unfold selftest
  exact good_run h

theorem sendMsg_good {wq : Keep} {e : Nat} {xd : Nat} {addr : Word} {lo : Word} {hi : Word} {s : State} (h5 : Good wq s) :
    Good wq (sendMsg e xd addr lo hi s) := by
  unfold sendMsg
  extract_lets -useContext v0 v1 v2 v3
  clear_value v2
  have hv4 : Good wq v3 := by
    unfold v3
    split
    · rename_i hc
      refine good_mk h5 (·.host) (·.smem) (·.buf) (·.engs) (·.clus) (·.chans) (fun hg b c hc16 => ?_)
      rw [List.filter_append, List.length_append]
      by_cases he : v0 = c
      · have hl : ¬ 8 ≤ (s.msgs.filter (fun m => m.1 == v0)).length := by
          intro h8
          simp only [v1, firstErr, List.find?, h8, decide_true] at hc
          revert hc
          cases (fieldOf addr 14 18 != 0) <;> cases (fieldOf addr 0 8 == 0) <;> decide
        subst he
        have : ([(v0, ({ addr := addr, sender := v2, lo := lo, hi := hi } : Msg))].filter (fun m => m.1 == v0)).length ≤ 1 :=
          List.length_filter_le _ _
        omega
      · have : [(v0, ({ addr := addr, sender := v2, lo := lo, hi := hi } : Msg))].filter (fun m => m.1 == c) = [] := by
          simp [he]
        rw [this]
        exact hg.msgs b c hc16
    · exact h5
  clear_value v3
  exact State.setS_good (State.setRegs_good hv4)

theorem seqRestart_good {wq : Keep}  {rq : Req} {z : State}  (h : Good wq z) : Good wq (seqRestart.run rq z) := by
  unfold seqRestart
  exact good_run h

theorem serveStall_good {wq : Keep} {c : Nat} {e : Nat} {s : State} (h2 : Good wq s) : Good wq (serveStall c e s) := by
  unfold serveStall
  split
  · exact h2
  · extract_lets -useContext v0
    clear_value v0
    exact good_ite (good_ite (endShift_good (State.setUnit_good h2)) h2) (good_ite (endShift_good (State.setUnit_good h2)) h2)

theorem serveStalls_good {wq : Keep} {c : Nat} {s : State} (h1 : Good wq s) : Good wq (serveStalls c s) := by
  unfold serveStalls
  exact good_foldl h1 (fun z1 y2 hz0 => serveStall_good hz0)

theorem setRate_good {wq : Keep} {s : State} (h0 : Good wq s) : Good wq (setRate s) := by
  unfold setRate
  extract_lets -useContext v0 v1 v2
  clear_value v0 v1 v2
  exact good_upd h0 (fun hg => hg.buf)

theorem setWins_good {wq : Keep} {a : Nat} {old : State} {s : State} (h1 : Good wq old) (h2 : Good wq s) : Good wq (setWins a old s) := by
  unfold setWins
  extract_lets -useContext v0 v1
  clear_value v0 v1
  exact good_ite (State.setReg_good h2) h2

theorem settleIdle_good {wq : Keep} {t : Nat} {s : State} (h1 : Good wq s) : Good wq (settleIdle t s) := by
  unfold settleIdle
  exact good_ite (idleDo_good h1) h1

theorem shiftCfg_good {wq : Keep} {e : Nat} {xd : Nat} {c : Nat} {w0 : Word} {w1 : Word} {s : State} (h5 : Good wq s) :
    Good wq (shiftCfg e xd c w0 w1 s) := by
  unfold shiftCfg
  extract_lets -useContext v0 v1 v2 v3 v4
  clear_value v0 v1 v2
  have hv5 : Good wq v3 := failStalls_good h5
  clear_value v3
  have hv6 : Good wq v4 := good_ite (State.wakeLevels_good (State.setUnit_good hv5)) h5
  clear_value v4
  exact State.setS_good (State.setRegs_good hv6)

theorem showMap_good {wq : Keep} {s : State} {u : Nat} {e : Nat} {m : Model} {x : MapMade} (h0 : Good wq s) :
    Good wq (showMap s u e m x) := by
  unfold showMap
  extract_lets -useContext v0 v1 v2 v3 v4 v5 v6 v7 v8 v9
  clear_value v0 v1 v2
  have hv10 : Good wq v3 := State.setReg_good h0
  clear_value v3
  have hv11 : Good wq v4 := State.setReg64_good hv10
  clear_value v4
  have hv12 : Good wq v5 := State.setReg_good hv11
  clear_value v5
  have hv13 : Good wq v6 := State.setReg_good hv12
  clear_value v6
  have hv14 : Good wq v7 := State.setReg_good hv13
  clear_value v7
  have hv15 : Good wq v8 := State.setReg_good hv14
  clear_value v8
  have hv16 : Good wq v9 := State.setReg_good hv15
  clear_value v9
  exact State.setReg_good hv16

theorem sleep_good {wq : Keep}  {rq : Req} {z : State}  (h : Good wq z) : Good wq (sleep.run rq z) := by
  unfold sleep
  exact modeCmd_good (fun w0 hw0 => good_upd hw0 (fun hg => hg.buf)) h

theorem spiReadComplete_good {wq : Keep} {s : State} (h0 : Good wq s) : Good wq (spiReadComplete s) := by
  unfold spiReadComplete
  exact good_upd h0 (fun hg => hg.buf)

theorem spiRespond_good {wq : Keep} {s : State} (h0 : Good wq s) : Good wq (spiRespond s) := by
  unfold spiRespond
  extract_lets -useContext v0 v1 v2 v3
  clear_value v0 v1 v2 v3
  exact good_upd h0 (fun hg => hg.buf)

theorem stagedWord_good {wq : Keep} {base par : Nat} {s : State} (h0 : Good wq s) : Good wq (stagedWord base par s).2 := by
  unfold stagedWord
  extract_lets v0
  have hs : ∀ (a : Nat × State) (i : Nat), Good wq a.2 → Good wq (v0 a i).2 := by
    intro a i ha
    simp only [v0]
    split
    · exact ha
    · exact State.drawn_good ha
  have hf : Good wq ((List.range 4).foldl v0 (0, s)).2 := good_foldl_snd h0 hs
  exact good_upd (t := ((List.range 4).foldl v0 (0, s)).2) hf (fun hg => hg.buf)

theorem stagger_good {wq : Keep}  {rq : Req} {z : State}  (h : Good wq z) : Good wq (stagger.run rq z) := by
  unfold stagger
  refine good_run ?_
  extract_lets -useContext v0 v1
  clear_value v0 v1
  exact State.keepRun_good h

theorem staggerLoad_good {wq : Keep} {n : Nat} {top : Nat} {psc : Nat} {k : Nat} {c : Nat} {s : State} (h5 : Good wq s) :
    Good wq (staggerLoad n top psc k c s) := by
  unfold staggerLoad
  extract_lets -useContext v0 v1
  have hv2 : Chan.Ok wq v1 := (h5.chan _)
  clear_value v0 v1
  exact State.setChan_good h5 (fun hg => hv2.keep rfl rfl)

theorem stallShift_good {wq : Keep} {e : Nat} {w : ShiftWait} {s : State} (h2 : Good wq s) : Good wq (stallShift e w s) := by
  unfold stallShift
  extract_lets -useContext v0 v1
  have hv2 : Eng.Ok wq v0 := (h2.eng _)
  clear_value v0
  have hv3 : Good wq v1 := State.setEng_good h2 (fun hg => hv2.keep rfl rfl)
  clear_value v1
  split
  · exact hv3
  · exact State.setTask_good hv3

theorem startCore_good {wq : Keep} {n : Nat} {s : State} (h1 : Good wq s) : Good wq (startCore n s) := by
  unfold startCore
  extract_lets -useContext v0
  clear_value v0
  exact State.setReg_good (State.setAdc_good h1)

theorem startCounters_good {wq : Keep} {p : Nat} {s : State} (h1 : Good wq s) : Good wq (startCounters p s) := by
  unfold startCounters
  refine good_foldl h1 ?_
  intro z1 y2 hz0
  extract_lets -useContext v3 v4 v5
  have hv6 : Chan.Ok wq v4 := (hz0.chan _)
  have hv7 : Chan.Ok wq v5 := (by unfold v5; split; exact hv6; exact hv6.keep rfl rfl)
  clear_value v3 v4 v5
  exact State.setChan_good hz0 (fun hg => hv7.keep rfl rfl)

theorem good_foldl_fst {α β : Type} {q : Keep} {g : State × α → β → State × α} {i : State × α} {l : List β} (h0 : Good q i.1)
    (h : ∀ s x, Good q s.1 → Good q (g s x).1) : Good q (l.foldl g i).1 := by
  induction l generalizing i with
  | nil => exact h0
  | cons x t ih => exact ih (h _ _ h0)
theorem startGroup_good {wq : Keep} {q : Req} {part : Bool} {s : State} (h0 : Good wq s) : Good wq (startGroup q part s) := by
  unfold startGroup
  refine good_upd (good_foldl_fst (State.setPage_good h0) ?_) (fun hg => hg.buf)
  intro r p hr
  dsimp only
  split
  · exact State.setPrepared_good hr
  · exact hr

theorem startRings_good {wq : Keep} {s : State} (h0 : Good wq s) : Good wq (startRings s) := by
  unfold startRings
  extract_lets -useContext v0
  have hv1 : Good wq v0 := good_foldl h0 (fun z3 y4 hz2 => State.setReg_good hz2)
  clear_value v0
  exact good_upd hv1 (fun hg => hg.buf)

theorem stepRun_good {wq : Keep} {r : Running} {n : Nat} {s : State} (h2 : Good wq s) : Good wq (stepRun r n s) := by
  unfold stepRun
  exact good_upd h2 (fun hg => hg.buf)

theorem switchEngine_good {wq : Keep} {b : Bool} {e : Nat} {s : State} (h2 : Good wq s) : Good wq (switchEngine b e s) := by
  unfold switchEngine
  extract_lets -useContext v0 v1 v2
  have hv3 : Eng.Ok wq v1 := (h2.eng _)
  clear_value v0 v1
  have hv4 : Good wq v2 := by
    unfold v2
    refine good_mk ?_ (fun hg => ?_) (fun hg => ?_) (fun hg => ?_) (fun hg => ?_) (fun hg => ?_) (fun hg => ?_) (fun hg => ?_)
    · exact h2
    · exact hg.host
    · exact hg.smem
    · exact hg.buf
    · exact Store.all_set hg.engs (hv3.keep rfl rfl)
    · exact hg.clus
    · exact hg.chans
    · exact hg.msgs
  clear_value v2
  exact good_foldl hv4 (fun z6 y7 hz5 => good_ite (State.setTask_good hz5) hz5)

theorem synStart_good {wq : Keep}  {rq : Req} {z : State}  (h : Good wq z) : Good wq (synStart.run rq z) := by
  unfold synStart
  exact good_run h

theorem synStop_good {wq : Keep}  {rq : Req} {z : State}  (h : Good wq z) : Good wq (synStop.run rq z) := by
  unfold synStop
  exact good_run h

theorem takeRole_good {wq : Keep} {c : Nat} {s : State} (h1 : Good wq s) : Good wq (takeRole c s) := by
  unfold takeRole
  extract_lets -useContext v0 v1
  have hv2 : Clu.Ok wq v0 := (h1.clu _)
  clear_value v0
  have hv3 : Good wq v1 := State.setClu_good h1 (fun hg => hv2.keep rfl rfl rfl rfl)
  clear_value v1
  exact good_upd hv3 (fun hg => hg.buf)

theorem takeover_good {wq : Keep} {kind : Nat} {src : Nat} {tgt : Nat} {w7 : Nat} {s : State} (h4 : Good wq s) :
    Good wq (takeover kind src tgt w7 s) := by
  unfold takeover
  extract_lets -useContext v0
  have hv1 : Good wq v0 := good_upd h4 (fun hg => hg.buf)
  clear_value v0
  exact State.bell_good (State.alarm_good hv1)

theorem taskControl_good {wq : Keep} {e : Nat} {t : Nat} {op : TaskCtl} {next : Nat} {s : State} (h4 : Good wq s) :
    Good wq (taskControl e t op next s) := by
  unfold taskControl
  extract_lets -useContext v0 v1 v2 v3
  have hv4 : Eng.Ok wq v1 := (h4.eng _)
  clear_value v0 v1 v2 v3
  split
  · exact h4
  · exact State.setTask_good (freeEngine_good h4)
  · exact State.setTask_good (freeEngine_good h4)
  · extract_lets -useContext v5 v6 v7
    clear_value v5
    have hv8 : Good wq v6 := State.setTask_good (freeEngine_good h4)
    have hv9 : Clu.Ok wq v7 := (hv8.clu _)
    clear_value v6 v7
    exact State.setClu_good hv8 (fun hg => hv9.keep rfl rfl rfl rfl)

theorem tbPreset_good {wq : Keep}  {rq : Req} {z : State}  (h : Good wq z) : Good wq (tbPreset.run rq z) := by
  unfold tbPreset
  exact good_run h

theorem tdCollect_good {wq : Keep} {r : SampRec} {s : State} (h1 : Good wq s) : Good wq (tdCollect r s) := by
  unfold tdCollect
  exact good_ite (good_upd h1 (fun hg => hg.buf)) h1

theorem tdCompare_good {wq : Keep}  {rq : Req} {z : State}  (h : Good wq z) : Good wq (tdCompare.run rq z) := by
  unfold tdCompare
  exact good_run (good_upd h (fun hg => hg.buf))

theorem teamKeyDo_good {wq : Keep} {i : Nat} {w : Word} {s : State} (h2 : Good wq s) : Good wq (teamKeyDo i w s) := by
  unfold teamKeyDo
  exact good_upd h2 (fun hg => hg.buf)

theorem tickReady_good {wq : Keep} {s : State} (h0 : Good wq s) : Good wq (tickReady s) := by
  unfold tickReady
  refine good_ite h0 ?_
  refine good_foldl h0 ?_
  intro z1 y2 hz0
  extract_lets -useContext v3 v4
  clear_value v3 v4
  exact good_ite (readyTask_good hz0) hz0

theorem tidleDo_good {wq : Keep} {t : Nat} {s : State} (h1 : Good wq s) : Good wq (tidleDo t s) := by
  unfold tidleDo
  refine good_ite h1 ?_
  extract_lets -useContext v0 v1
  have hv2 : Good wq v0 := idleDo_good h1
  clear_value v0 v1
  exact good_ite hv2 (State.setItgt_good hv2)

theorem trackEdge_good {wq : Keep} {u : Nat} {t : Nat} {s : State} (h2 : Good wq s) : Good wq (trackEdge u t s) := by
  unfold trackEdge
  extract_lets -useContext v0
  clear_value v0
  exact State.setWheel_good h2

theorem undefinedCmd_good {wq : Keep}  {rq : Req} {z : State}  (h : Good wq z) : Good wq (undefinedCmd.run rq z) := by
  unfold undefinedCmd
  exact good_run h

theorem unitOff_good {wq : Keep} {c : Nat} {s : State} (h1 : Good wq s) : Good wq (unitOff c s) := by
  unfold unitOff
  exact State.setUnit_good (failStalls_good h1)

theorem unprepare_good {wq : Keep} {g : Group} {s : State} (h1 : Good wq s) : Good wq (unprepare g s) := by
  unfold unprepare
  exact good_foldl h1 (fun z1 y2 hz0 => State.setPrepared_good hz0)

theorem urgent_good {wq : Keep}  {rq : Req} {z : State}  (h : Good wq z) : Good wq (urgent.run rq z) := by
  unfold urgent
  exact good_run (addUrgent_good h)

theorem useSpare_good {wq : Keep} {r : Nat} {s : State} (h1 : Good wq s) : Good wq (useSpare r s) := by
  unfold useSpare
  exact good_upd h1 (fun hg => hg.buf)

theorem wakeAll_good {wq : Keep} {i : Nat} {s : State} (h1 : Good wq s) : Good wq (wakeAll i s) := by
  unfold wakeAll
  exact good_foldl h1 (fun z1 y2 hz0 => State.wakeBit_good hz0)

theorem wakeBells_good {wq : Keep} {s : State} (h0 : Good wq s) : Good wq (wakeBells s) := by
  unfold wakeBells
  refine good_ite ?_ h0
  extract_lets -useContext v0 v1
  have hv2 : Good wq v0 := good_foldl h0 (fun z4 y5 hz3 => State.bellIf_good hz3)
  clear_value v0 v1
  exact good_upd hv2 (fun hg => hg.buf)

theorem wakeBy_good {wq : Keep} {bitNo : Nat} {s : State} (h1 : Good wq s) : Good wq (wakeBy bitNo s) := by
  unfold wakeBy
  exact good_ite (good_upd h1 (fun hg => hg.buf)) h1

theorem wakeInput_good {wq : Keep} {w : Nat} {rising : Bool} {s : State} (h2 : Good wq s) : Good wq (wakeInput w rising s) := by
  unfold wakeInput
  refine good_ite ?_ h2
  extract_lets -useContext v0 v1 v2
  clear_value v0
  have hv3 : Good wq v1 := good_upd h2 (fun hg => hg.buf)
  clear_value v1 v2
  exact good_ite (good_upd hv3 (fun hg => hg.buf)) hv3

theorem wdCount_good {wq : Keep} {s : State} (h0 : Good wq s) : Good wq (wdCount s) := by
  unfold wdCount
  exact good_ite (good_upd h0 (fun hg => hg.buf)) h0

theorem wdkickDo_good {wq : Keep} {w : Word} {s : State} (h1 : Good wq s) : Good wq (wdkickDo w s) := by
  unfold wdkickDo
  exact good_ite (good_upd h1 (fun hg => hg.buf)) h1

theorem wheelStart_good {wq : Keep} {u : Nat} {s : State} (h1 : Good wq s) : Good wq (wheelStart u s) := by
  unfold wheelStart
  exact State.setWheel_good h1

theorem winClose_good {wq : Keep}  {rq : Req} {z : State}  (h : Good wq z) : Good wq (winClose.run rq z) := by
  unfold winClose
  exact good_run (State.keepRun_good h)

theorem withdraw_good {wq : Keep} {p : Nat} {s : State} (h1 : Good wq s) : Good wq (withdraw p s) := by
  unfold withdraw
  extract_lets -useContext v0
  have hv1 : Good wq v0 := good_upd h1 (fun hg => hg.buf)
  clear_value v0
  exact State.setPrepared_good hv1

theorem Cmd.also_good {wq : Keep} {c : Cmd} {e : Nat × Bool} {rq : Req} {z : State} (h0 : ∀ r z, Good wq z → Good wq (c.run r z)) (h : Good
    wq z) :
    Good wq ((Cmd.also c e).run rq z) := by
  unfold Cmd.also
  exact good_run (h0 _ _ h)

theorem State.accept_good {wq : Keep} {s : State} {code : Nat} {q : Req} (h0 : Good wq s) : Good wq (State.accept s code q) := by
  unfold State.accept
  extract_lets -useContext v0 v1
  clear_value v0
  have hv2 : Good wq v1 := State.setPage_good h0
  clear_value v1
  exact good_upd hv2 (fun hg => hg.buf)

theorem State.applyCounter_good {wq : Keep} {s : State} {c : Nat} (h0 : Good wq s) : Good wq (State.applyCounter s c) := by
  unfold State.applyCounter
  extract_lets -useContext v0 v1 v2 v3
  have hv4 : Chan.Ok wq v3 := (h0.chan _)
  clear_value v0 v1 v2 v3
  exact State.setChan_good h0 (fun hg => hv4.keep rfl rfl)

theorem State.clearAuth_good {wq : Keep} {s : State} (h0 : Good wq s) : Good wq (State.clearAuth s) := by
  unfold State.clearAuth
  extract_lets -useContext v0 v1
  have hv2 : Good wq v0 := State.setReg_good h0
  clear_value v0 v1
  exact good_upd hv2 (fun hg => hg.buf)

theorem State.clearTerr_good {wq : Keep} {s : State} {u : Nat} (h0 : Good wq s) : Good wq (State.clearTerr s u) := by
  unfold State.clearTerr
  exact good_foldl h0 (fun z1 y2 hz0 => State.setReg_good hz0)

theorem State.clockAt_good {wq : Keep} {s : State} {v : Time} (h0 : Good wq s) : Good wq (State.clockAt s v) := by
  unfold State.clockAt
  extract_lets -useContext v0 v1
  have hv2 : Good wq v0 := State.newClock_good h0
  clear_value v0 v1
  exact good_upd hv2 (fun hg => hg.buf)

theorem State.dropFollow_good {wq : Keep} {s : State} (h0 : Good wq s) : Good wq (State.dropFollow s) := by
  unfold State.dropFollow
  exact good_foldl h0 (fun z1 y2 hz0 => good_ite (State.setChan_good hz0 (fun hg => (hz0.chan _).keep rfl rfl)) hz0)

theorem State.event_good {wq : Keep} {s : State} {p : Nat} {o : Nat} {f : Word → Word} (h0 : Good wq s) :
    Good wq (State.event s p o f) := by
  unfold State.event
  extract_lets -useContext v1
  have hv2 : Good wq v1 := State.setReg_good h0
  clear_value v1
  exact good_upd hv2 (fun hg => hg.buf)

theorem State.idxSend_good {wq : Keep} {s : State} {p : Nat} {src : BitVec 2} {dst : BitVec 2} {bcast : Bool} {l : Payload} (h0 : Good wq
    s) :
    Good wq (State.idxSend s p src dst bcast l) := by
  unfold State.idxSend
  extract_lets -useContext v0
  clear_value v0
  split
  · exact State.transmit_good h0
  · exact good_ite (State.setIdx_good h0) (State.transmit_good h0)

theorem State.intSet_good {wq : Keep} {s : State} {p : Nat} {i : Nat} (h0 : Good wq s) : Good wq (State.intSet s p i) := by
  unfold State.intSet
  exact State.ringRise_good h0 (State.event_good h0)

theorem State.lineOccurs_good {wq : Keep} {s : State} {c : Nat} {i : Nat} (h0 : Good wq s) : Good wq (State.lineOccurs s c i) := by
  unfold State.lineOccurs
  exact good_ite (State.wakeBit_good h0) (State.setClu_good h0 (fun hg => (h0.clu _).keep rfl rfl rfl rfl))

theorem State.mapsOff_good {wq : Keep} {s : State} {u : Nat} (h0 : Good wq s) : Good wq (State.mapsOff s u) := by
  unfold State.mapsOff
  exact good_foldl h0 (fun z1 y2 hz0 => good_ite (State.setMap_good hz0) hz0)

theorem State.markReject_good {wq : Keep} {s : State} {p : Nat} {off : Nat} {code : Nat} {cmd : Nat} {tag : Nat} (h0 : Good wq s) :
    Good wq (State.markReject s p off code cmd tag) := by
  unfold State.markReject
  refine good_ite h0 ?_
  extract_lets -useContext v0 v1
  have hv2 : Good wq v0 := State.setReg_good h0
  clear_value v0
  have hv3 : Good wq v1 := State.setReg_good hv2
  clear_value v1
  exact State.intSet_good hv3

theorem State.markWritten_good {wq : Keep} {s : State} {c : Nat} {x : BankSt} (h0 : Good wq s) : Good wq (State.markWritten s c x) := by
  unfold State.markWritten
  extract_lets -useContext v0 v1
  clear_value v0 v1
  exact State.setBank_good (State.setBank_good h0)

theorem State.occur_good {wq : Keep} {s : State} {kind : Nat} {idx : Nat} (h0 : Good wq s) : Good wq (State.occur s kind idx) := by
  unfold State.occur
  exact good_foldl h0 (fun z1 y2 hz0 => good_ite hz0 (good_foldl hz0 (fun z4 y5 hz3 => good_ite (State.lineOccurs_good hz3) hz3)))

theorem State.pushEntry_good {wq : Keep} {s : State} {c : Nat} {k : CmpEntry} (h0 : Good wq s) : Good wq (State.pushEntry s c k) := by
  unfold State.pushEntry
  extract_lets -useContext v0
  have hv1 : Chan.Ok wq v0 := h0.chan _
  clear_value v0
  split
  · exact h0
  · rename_i hl
    exact State.setChan_good h0 (fun _ => ⟨fun _ => by simp only [List.length_append, List.length_singleton]; omega, hv1.capture⟩)

theorem State.pushHeld_good {wq : Keep} {s : State} {n : Nat} {h : Held} (h0 : Good wq s) : Good wq (State.pushHeld s n h) := by
  unfold State.pushHeld
  exact State.setAdc_good h0

theorem State.putLocal_good {wq : Keep} {s : State} {e : Nat} {a : Nat} {ws : List Word} (h0 : Good wq s) :
    Good wq (State.putLocal s e a ws) := by
  unfold State.putLocal
  extract_lets -useContext v0
  have hv1 : Eng.Ok wq v0 := (h0.eng _)
  clear_value v0
  exact State.setEng_good h0 (fun hg => hv1.put rfl rfl)

theorem State.regrant_good {wq : Keep} {old : State} {s : State} (h0 : Good wq old) (h1 : Good wq s) : Good wq (State.regrant old s) := by
  unfold State.regrant
  exact good_ite h1 (State.intSet_good h1)

theorem State.rindCrc_good {wq : Keep} {s : State} (h0 : Good wq s) : Good wq (State.rindCrc s) := by
  unfold State.rindCrc
  exact State.setReg_good h0

theorem State.setCamAng_good {wq : Keep} {s : State} {u : Nat} {secB : Bool} {pos : Int} (h0 : Good wq s) :
    Good wq (State.setCamAng s u secB pos) := by
  unfold State.setCamAng
  exact State.setReg_good h0

theorem State.setDecim_good {wq : Keep} {s : State} (h0 : Good wq s) : Good wq (State.setDecim s) := by
  unfold State.setDecim
  extract_lets -useContext v0 v1 v2 v3 v4 v5
  clear_value v0 v1 v2 v3
  have hv6 : Good wq v5 := good_upd h0 (fun hg => by first | exact hg.buf | exact fun _ => rfl)
  clear_value v5
  exact good_ite (State.intSet_good hv6) hv6

theorem State.setEnpend_good {wq : Keep} {s : State} {p : Nat} {b : Bool} (h0 : Good wq s) : Good wq (State.setEnpend s p b) := by
  unfold State.setEnpend
  exact State.setPage_good h0

theorem State.setFld_good {wq : Keep} {s : State} {p : Nat} {o : Nat} {lo : Nat} {len : Nat} {v : Nat} (h0 : Good wq s) :
    Good wq (State.setFld s p o lo len v) := by
  unfold State.setFld
  exact State.setReg_good h0

theorem State.setNonce_good {wq : Keep} {s : State} {k : Slot} {v : Nat} (h0 : Good wq s) : Good wq (State.setNonce s k v) := by
  unfold State.setNonce
  exact State.setReg64_good h0

theorem State.setPeak_good {wq : Keep} {s : State} {u : Nat} {amp : Nat} (h0 : Good wq s) : Good wq (State.setPeak s u amp) := by
  unfold State.setPeak
  exact State.setReg_good h0

theorem State.setRoleMap_good {wq : Keep} {s : State} {c : Nat} {v : Nat} (h0 : Good wq s) : Good wq (State.setRoleMap s c v) := by
  unfold State.setRoleMap
  exact State.setFld_good h0

theorem State.setSession_good {wq : Keep} {s : State} {k : Slot} {on : Bool} (h0 : Good wq s) : Good wq (State.setSession s k on) := by
  unfold State.setSession
  extract_lets -useContext v0 v1
  clear_value v0 v1
  exact State.regrant_good h0 (good_upd h0 (fun hg => hg.buf))

theorem State.setSt_good {wq : Keep} {s : State} {p : Nat} {x : Nat} (h0 : Good wq s) : Good wq (State.setSt s p x) := by
  unfold State.setSt
  exact good_ite h0 (good_foldl (State.setPage_good h0) (fun z1 y2 hz0 => State.intSet_good hz0))

theorem State.setSynced_good {wq : Keep} {s : State} {n : Nat} {on : Bool} (h0 : Good wq s) : Good wq (State.setSynced s n on) := by
  unfold State.setSynced
  exact good_ite h0 (State.intSet_good (State.setFld_good h0))

theorem State.setTerr_good {wq : Keep} {s : State} {u : Nat} {k : Nat} {c : Int} (h0 : Good wq s) : Good wq (State.setTerr s u k c) := by
  unfold State.setTerr
  exact State.setFld_good h0

theorem State.settle_good {wq : Keep} {s : State} (h0 : Good wq s) : Good wq (State.settle s) := by
  unfold State.settle
  exact good_foldl h0 (fun z1 y2 hz0 => State.settleSrc_good hz0)

theorem State.spend_good {wq : Keep} {s : State} {k : Nat} (h0 : Good wq s) : Good wq (State.spend s k) := by
  unfold State.spend
  exact State.setFld_good h0

theorem State.triggerFrom_good {wq : Keep} {s : State} {chan : Nat} {tb : Nat} (h0 : Good wq s) :
    Good wq (State.triggerFrom s chan tb) := by
  unfold State.triggerFrom
  exact State.triggerSrc_good h0

theorem State.wrap_good {wq : Keep} {s : State} (h0 : Good wq s) : Good wq (State.wrap s) := by
  unfold State.wrap
  refine State.intSet_good ?_
  extract_lets -useContext v0
  have hv1 : Good wq v0 := State.clockAt_good h0
  clear_value v0
  exact good_upd hv1 (fun hg => hg.buf)

theorem acknowledge_good {wq : Keep} {p : Nat} {h : FrameHdr} {s : State} (h2 : Good wq s) : Good wq (acknowledge p h s) := by
  unfold acknowledge
  extract_lets -useContext v0 v1
  clear_value v0 v1
  exact good_ite (State.idxSend_good (State.setIdx_good h2)) (State.setIdx_good h2)

theorem applyIdle_good {wq : Keep} {c : Nat} {s : State} (h1 : Good wq s) : Good wq (applyIdle c s) := by
  unfold applyIdle
  refine good_ite h1 ?_
  extract_lets -useContext v0 v1
  have hv2 : Good wq v0 := State.applyCounter_good h1
  have hv3 : Chan.Ok wq v1 := (hv2.chan _)
  clear_value v0 v1
  exact good_ite (State.setChan_good hv2 (fun hg => hv3.keep rfl rfl)) hv2

theorem applyIdleCounters_good {wq : Keep} {p : Nat} {s : State} (h1 : Good wq s) : Good wq (applyIdleCounters p s) := by
  unfold applyIdleCounters
  exact good_foldl h1 (fun z1 y2 hz0 => applyIdle_good hz0)

theorem arm_good {wq : Keep}  {rq : Req} {z : State}  (h : Good wq z) : Good wq (arm.run rq z) := by
  unfold arm
  refine modeCmd_good ?_ h
  intro w0 hw0
  extract_lets -useContext v0 v1
  have hv2 : Good wq v0 := clearReport_good hw0
  clear_value v0 v1
  exact good_upd hv2 (fun hg => hg.buf)

theorem beforeBrown_good {wq : Keep} {s : State} (h0 : Good wq s) : Good wq (beforeBrown s) := by
  unfold beforeBrown
  exact State.setFld_good h0

theorem boundaryWork_good {wq : Keep} {e : Nat} {t : Nat} {op : TaskCtl} {next : Nat} {s : State} (h4 : Good wq s) :
    Good wq (boundaryWork e t op next s) := by
  unfold boundaryWork
  exact good_ite (freeEngine_good (endTask_good h4)) (taskControl_good h4)

theorem calibrate_good {wq : Keep}  {rq : Req} {z : State}  (h : Good wq z) : Good wq (calibrate.run rq z) := by
  unfold calibrate
  refine good_run ?_
  extract_lets -useContext v0
  clear_value v0
  exact State.setSt_good (State.keepRun_good h)

theorem capRead_good {wq : Keep} {e : Nat} {xd : Nat} {c : Nat} {s : State} (h3 : Good wq s) : Good wq (capRead e xd c s) := by
  unfold capRead
  extract_lets -useContext v0 v1
  have hv2 : ∀ w3 w4 w5 w6 w7 w8, Good wq w8 → Good wq (v0 w3 w4 w5 w6 w7 w8) := by
    intro w3 w4 w5 w6 w7 w8 hw9
    unfold v0
    try beta_reduce
    exact State.setS_good (State.setRegs_good hw9)
  have hv10 : ∀ w11 w12, Good wq w12 → Good wq (v1 w11 w12) := by
    intro w11 w12 hw13
    unfold v1
    try beta_reduce
    split
    rename_i a14 t15 heq16
    have hm17 : Good wq t15 := by
      exact good_snd_eq heq16 (State.drawn_good hw13)
    split
    rename_i a18 t19 heq20
    have hm21 : Good wq t19 := by
      exact good_snd_eq heq20 (State.drawn_good hm17)
    exact hv2 _ _ _ _ _ _ hm21
  clear_value v0 v1
  refine good_ite (hv10 _ _ h3) ?_
  split
  · rename_i t23 heq24
    have hm22 : Good wq t23 := by
      exact good_snd_eq heq24 (popCapture_good h3)
    exact hv10 _ _ hm22
  · rename_i t26 heq27
    have hm25 : Good wq t26 := by
      exact good_snd_eq heq27 (popCapture_good h3)
    exact hv2 _ _ _ _ _ _ hm25

theorem checkerLost_good {wq : Keep} {c : Nat} {p : Nat} {cause : Nat} {s : State} (h3 : Good wq s) :
    Good wq (checkerLost c p cause s) := by
  unfold checkerLost
  refine good_ite h3 ?_
  extract_lets -useContext v0 v1 v2
  have hv3 : Good wq v0 := State.intSet_good (State.setFld_good h3)
  clear_value v0
  have hv4 : Good wq v1 := State.alarm_good (State.bell_good hv3)
  have hv5 : Clu.Ok wq v2 := (hv4.clu _)
  clear_value v1 v2
  exact good_ite hv4 (State.setClu_good hv4 (fun hg => hv5.keep rfl rfl rfl rfl))

theorem clearPages_good {wq : Keep} {d : Nat} {s : State} (h1 : Good wq s) : Good wq (clearPages d s) := by
  unfold clearPages
  refine good_foldl h1 ?_
  intro z1 y2 hz0
  extract_lets -useContext v3 v4
  have hv5 : Good wq v3 := good_foldl hz0 (fun z7 y8 hz6 => State.resetRegs_good hz6)
  clear_value v3
  have hv9 : Good wq v4 := good_ite (State.rindCrc_good hv5) hv5
  clear_value v4
  exact State.setPage_good (domainResetCore_good (State.dropShadows_good hv9))

theorem copyClusterCfg_good {wq : Keep} {c : Nat} {k : Nat} {s : State} (h2 : Good wq s) : Good wq (copyClusterCfg c k s) := by
  unfold copyClusterCfg
  extract_lets -useContext v0 v1 v2
  have hv3 : ∀ w4 w5 w6, Good wq w6 → Good wq (v0 w4 w5 w6) := by
    intro w4 w5 w6 hw7
    unfold v0
    try beta_reduce
    exact good_foldl hw7 (fun z9 y10 hz8 => State.setReg_good hz8)
  clear_value v0
  have hv11 : Good wq v1 := hv3 _ _ _ (hv3 _ _ _ h2)
  clear_value v1
  have hv12 : Good wq v2 := State.setFld_good (State.setFld_good hv11)
  clear_value v2
  exact good_foldl hv12 (fun z14 y15 hz13 => State.setReg_good hz13)

theorem copyPwmCfg_good {wq : Keep} {src : Nat} {dst : Nat} {s : State} (h2 : Good wq s) : Good wq (copyPwmCfg src dst s) := by
  unfold copyPwmCfg
  extract_lets -useContext v0 v1
  clear_value v0
  have hv2 : Good wq v1 := good_foldl h2 (fun z4 y5 hz3 => State.setReg_good hz3)
  clear_value v1
  exact State.setFld_good hv2

theorem countBell_good {wq : Keep} {n : Nat} {s : State} (h1 : Good wq s) : Good wq (countBell n s) := by
  unfold countBell
  extract_lets -useContext v0 v1 v2 v3 v4 v5 v6
  clear_value v0 v1 v2 v3
  have hv7 : Good wq v4 := State.setClk_good h1
  clear_value v4
  have hv8 : Good wq v5 := good_ite (State.intSet_good (State.event_good hv7)) hv7
  clear_value v5 v6
  exact State.settleSrc_good (State.setIsrc_good hv8)

theorem disarm_good {wq : Keep}  {rq : Req} {z : State}  (h : Good wq z) : Good wq (disarm.run rq z) := by
  unfold disarm
  exact modeCmd_good (fun w0 hw0 => id_good hw0) h

theorem doorbell_good {wq : Keep} {n : Nat} {s : State} (h1 : Good wq s) : Good wq (doorbell n s) := by
  unfold doorbell
  extract_lets -useContext v0 v1
  have hv2 : Good wq v1 := good_upd h1 (fun hg => hg.buf)
  exact good_ite hv2 (countBell_good hv2)

theorem endInstr_good {wq : Keep} {e : Nat} {op : TaskCtl} {next : Nat} {s : State} (h3 : Good wq s) : Good wq (endInstr e op next s) := by
  unfold endInstr
  extract_lets -useContext v0
  have hv1 : Eng.Ok wq v0 := (h3.eng _)
  clear_value v0
  split
  · exact h3
  · exact good_ite (State.setEng_good h3 (fun hg => hv1.keep rfl rfl)) (good_ite (State.setEng_good h3 (fun hg => hv1.keep rfl rfl))
        (boundaryWork_good h3))

theorem endWord_good {wq : Keep} {e : Nat} {next : Nat} {stack : List Nat} {last : Bool} {op : TaskCtl} {s : State} (h5 : Good wq s)
    (hs : wq.bounds → stack.length ≤ 4) : Good wq (endWord e next stack last op s) := by
  unfold endWord
  extract_lets -useContext v0 v1
  have hv2 : Eng.Ok wq v0 := h5.eng _
  clear_value v0
  have hv3 : Good wq v1 := State.setEng_good h5 (fun _ => ⟨hv2.mem, hs⟩)
  clear_value v1
  exact good_ite (endInstr_good hv3) hv3
/-- The call stack a word leaves is within its bound where the engine's was. -/
theorem nextAddr_stack {x : Eng} {nxt : Nat} {n : NFields} {c : Bool} {pc : Nat} {stack : List Nat}
    (he : nextAddr x nxt n c = .go pc stack) (hx : x.stack.length ≤ 4) : stack.length ≤ 4 := by
  have hi : ∀ {p l}, incAddr x = .go p l → l.length ≤ 4 := by
    intro p l h
    unfold incAddr at h
    split at h
    · cases h
    · cases h; exact hx
  have hcall : ∀ {p l}, callAddr x n = .go p l → l.length ≤ 4 := by
    intro p l h
    unfold callAddr at h
    split at h
    · cases h
    · cases h; simp only [List.length_cons]; omega
  have hr : ∀ {p l}, retAddr x = .go p l → l.length ≤ 4 := by
    intro p l h
    unfold retAddr at h
    split at h
    · cases h
    · rename_i hl; cases h; rw [hl] at hx; simp only [List.length_cons] at hx; omega
  unfold nextAddr at he
  repeat' split at he
  all_goals first | exact hi he | exact hcall he | exact hr he | (cases he; exact hx)

theorem engineClockReturn_good {wq : Keep} {s : State} (h0 : Good wq s) : Good wq (engineClockReturn s) := by
  unfold engineClockReturn
  exact good_ite (regrid_good (good_upd h0 (fun hg => hg.buf))) h0

theorem engineEventCompletion_good {wq : Keep} {r : Nat} {s : State} (h1 : Good wq s) : Good wq (engineEventCompletion r s) := by
  unfold engineEventCompletion
  split
  · split
    · exact h1
    · rename_i hl
      have hv4 := State.setClu_good (c := ‹Nat›) (x := { s.clu ‹Nat› with ecq := (s.clu ‹Nat›).ecq ++ [engineRecord ‹CalEv› (s.epoch r)] })
          h1
        (fun hg => ⟨(hg.clu _).mem, (hg.clu _).msgs, fun _ => by simp only [List.length_append, List.length_singleton]; omega,
          (hg.clu _).checks⟩)
      exact State.wakeLevels_good (State.dropEv_good (good_ite (State.intSet_good hv4) hv4))
  · exact h1

theorem enterEvent_good {wq : Keep} {e : EntryF} {owner : Nat} {epoch : Nat} {cpl : Bool} {s : State} (h4 : Good wq s) :
    Good wq (enterEvent e owner epoch cpl s).2 := by
  unfold enterEvent
  split
  · exact good_pair h4
  · extract_lets -useContext v0 v1 v2 v3 v4 v5 v6
    have hv7 : Good wq v5 := good_upd h4 (fun hg => hg.buf)
    have hv8 : Good wq v6 := good_ite (State.intSet_good hv7) hv7
    exact good_pair hv8

theorem enterLimp_good {wq : Keep}  {rq : Req} {z : State}  (h : Good wq z) : Good wq (enterLimp.run rq z) := by
  unfold enterLimp
  exact modeCmd_good (fun w0 hw0 => id_good hw0) h

theorem eoiDo_good {wq : Keep} {t : Nat} {s : State} (h1 : Good wq s) : Good wq (eoiDo t s) := by
  unfold eoiDo
  extract_lets -useContext v0 v1 v2
  clear_value v0 v1 v2
  exact State.settle_good (State.setClk_good (State.setItgt_good h1))

theorem execDelayRegisterParityError_good {wq : Keep} {c : Fin 16} {p : Fin 4} {s : State} (hst : Good wq s) :
    ∃ wt, execDelayRegisterParityError c p s = .next wt ∧ Good wq wt :=
  next_good rfl (good_ite (checkerLost_good hst) hst)

theorem execDoorbell_good {wq : Keep} {src : BitVec 12} {s : State} (hst : Good wq s) : ∃ wt, execDoorbell src s = .next wt ∧ Good wq wt :=
  next_good rfl (doorbell_good hst)

theorem execEngineClockReturn_good {wq : Keep} {s : State} (hst : Good wq s) : ∃ wt, execEngineClockReturn s = .next wt ∧ Good wq wt :=
  next_good rfl (engineClockReturn_good hst)

theorem execEngineEventCompletion_good {wq : Keep} {role : Fin 16} {s : State} (hst : Good wq s) :
    ∃ wt, execEngineEventCompletion role s = .next wt ∧ Good wq wt :=
  next_good rfl (engineEventCompletion_good hst)

theorem execPostedWriteAccept_good {wq : Keep} {addr : BitVec 24} {data : Word} {len : Nat} {s : State} (hst : Good wq s) :
    ∃ wt, execPostedWriteAccept addr data len s = .next wt ∧ Good wq wt :=
  next_good rfl (postedAccept_good hst)

theorem execSlowokChange_good {wq : Keep} {ok : Bool} {s : State} (hst : Good wq s) : ∃ wt, execSlowokChange ok s = .next wt ∧ Good wq wt :=
  next_good rfl (State.setFld_good hst)

theorem execSpiReadComplete_good {wq : Keep} {s : State} (hst : Good wq s) : ∃ wt, execSpiReadComplete s = .next wt ∧ Good wq wt :=
  next_good rfl (spiReadComplete_good hst)

theorem execSpiWake_good {wq : Keep} {s : State} (hst : Good wq s) : ∃ wt, execSpiWake s = .next wt ∧ Good wq wt :=
  next_good rfl (wakeBy_good hst)

theorem execTripDeassert_good {wq : Keep} {i : Fin 16} {pin : Bool} {clocks : Nat} {s : State} (hst : Good wq s) :
    ∃ wt, execTripDeassert i pin clocks s = .next wt ∧ Good wq wt :=
  next_good rfl (good_ite (State.setFld_good hst) hst)

theorem execWakeInput_good {wq : Keep} {w : Fin 16} {rising : Bool} {s : State} (hst : Good wq s) :
    ∃ wt, execWakeInput w rising s = .next wt ∧ Good wq wt :=
  next_good rfl (wakeInput_good hst)

theorem execWakeTimer_good {wq : Keep} {s : State} (hst : Good wq s) : ∃ wt, execWakeTimer s = .next wt ∧ Good wq wt :=
  next_good rfl (wakeBy_good hst)

theorem fatal_good {wq : Keep} {cause : Nat} {page : Nat} {s : State} (h2 : Good wq s) : Good wq (fatal cause page s) := by
  unfold fatal
  refine good_ite h2 ?_
  refine good_ite (State.alarm_good h2) ?_
  extract_lets -useContext v0 v1 v2
  have hv3 : Good wq v0 := good_ite h2 (State.setReg_good h2)
  clear_value v0
  have hv4 : Good wq v1 := State.bell_good (State.alarm_good hv3)
  clear_value v1 v2
  exact State.dropPwmPins_good (State.dropFollow_good (good_upd hv4 (fun hg => hg.buf)))

theorem forceSafe_good {wq : Keep}  {rq : Req} {z : State}  (h : Good wq z) : Good wq (forceSafe.run rq z) := by
  unfold forceSafe
  exact modeCmd_good (fun w0 hw0 => fatal_good hw0) h

theorem frameDone_good {wq : Keep} {c : Nat} {l : List Bool} {drop : Bool} {s : State} (h3 : Good wq s) :
    Good wq (frameDone c l drop s) := by
  unfold frameDone
  extract_lets -useContext v0 v1
  clear_value v0
  have hv2 : Good wq v1 := State.setUnit_good h3
  clear_value v1
  exact good_ite (State.setUnit_good h3) (State.wakeLevels_good (serveStalls_good hv2))

theorem hidleAssert_good {wq : Keep} {t : Nat} {held : Bool} {s : State} (h2 : Good wq s) : Good wq (hidleAssert t held s) := by
  unfold hidleAssert
  extract_lets -useContext v0 v1 v2 v3
  clear_value v0
  have hv4 : Good wq v1 := good_upd h2 (fun hg => hg.buf)
  clear_value v1
  have hv5 : Good wq v2 := settleIdle_good hv4
  clear_value v2 v3
  exact good_ite hv5 (good_upd hv5 (fun hg => hg.buf))

theorem hostPop_good {wq : Keep} {c : Nat} {s : State} (h1 : Good wq s) : Good wq (hostPop c s).2 := by
  unfold hostPop
  split
  · rename_i t1 heq2
    have hm0 : Good wq t1 := by
      exact good_snd_eq heq2 (popCapture_good h1)
    exact good_pair hm0
  · rename_i t4 heq5
    have hm3 : Good wq t4 := by
      exact good_snd_eq heq5 (popCapture_good h1)
    extract_lets -useContext v6 v7 v8 v9
    clear_value v6 v7
    have hv10 : Good wq v8 := State.setReg64_good hm3
    clear_value v8
    have hv11 : Good wq v9 := State.setReg_good hv10
    clear_value v9
    exact good_pair hv11

theorem hostWatchdogExpiry_good {wq : Keep} {s : State} (h0 : Good wq s) : Good wq (hostWatchdogExpiry s) := by
  unfold hostWatchdogExpiry
  extract_lets -useContext v0 v1
  clear_value v0 v1
  exact good_ite (fatal_good (good_upd h0 (fun hg => hg.buf))) h0

theorem keepMatches_good {wq : Keep} {old : State} {s : State} (h0 : Good wq old) (h1 : Good wq s) : Good wq (keepMatches old s) := by
  unfold keepMatches
  exact good_foldl h1 (fun z1 y2 hz0 => good_ite (State.setFld_good (good_upd hz0 (fun hg => hg.buf))) hz0)

theorem laneReady_good {wq : Keep} {l : Nat} {s : State} (h1 : Good wq s) : Good wq (laneReady l s) := by
  unfold laneReady
  extract_lets -useContext v0 v1 v2 v3 v4 v5 v6
  have hv7 : ∀ w8 w10 w11, Good wq w8 → Good wq (v2 w8 w10 w11) := by
    intro w8 w10 w11 hw9
    unfold v2
    try beta_reduce
    refine good_mk ?_ (fun hg => ?_) (fun hg => ?_) (fun hg => ?_) (fun hg => ?_) (fun hg => ?_) (fun hg => ?_) (fun hg => ?_)
    · exact hw9
    · exact hg.host
    · first | exact fun hm => Memory.setWord_wf (hg.smem hm) | exact fun hm => Memory.setWords_wf (hg.smem hm) | exact fun _ => rfl
    · exact hg.buf
    · exact hg.engs
    · exact hg.clus
    · exact hg.chans
    · exact hg.msgs
  clear_value v0 v1 v2
  have hv12 : Good wq v3 := hv7 _ _ _ h1
  clear_value v3
  have hv13 : Good wq v4 := hv7 _ _ _ hv12
  clear_value v4
  have hv14 : Good wq v5 := hv7 _ _ _ hv13
  clear_value v5 v6
  exact State.bell_good (State.occur_good (State.setLane_good hv14))

theorem lateRole_good {wq : Keep} {c : Nat} {s : State} (h1 : Good wq s) : Good wq (lateRole c s) := by
  unfold lateRole
  exact good_ite (takeRole_good h1) h1

theorem limpBegin_good {wq : Keep} {s : State} (h0 : Good wq s) : Good wq (limpBegin s) := by
  unfold limpBegin
  extract_lets -useContext v0 v1
  clear_value v0
  have hv2 : Good wq v1 := good_upd h0 (fun hg => hg.buf)
  clear_value v1
  exact State.alarm_good (State.intSet_good hv2)

theorem lineSample_good {wq : Keep} {l : Bool} {c : Nat} {s : State} (h2 : Good wq s) : Good wq (lineSample l c s) := by
  unfold lineSample
  extract_lets -useContext v0 v1 v2
  clear_value v0 v1 v2
  exact good_ite h2 (good_ite (State.setUnit_good h2) (good_ite (frameError_good (State.setUnit_good h2)) (good_ite (frameDone_good
      (State.setUnit_good h2)) (State.setUnit_good h2))))

theorem load_good {wq : Keep}  {rq : Req} {z : State}  (h : Good wq z) : Good wq (load.run rq z) := by
  unfold load
  refine good_run ?_
  extract_lets -useContext v0 v1
  have hv2 : Good wq v0 := State.keepRun_good h
  clear_value v0
  have hv3 : Good wq v1 := State.setReg_good hv2
  clear_value v1
  exact good_foldl hv3 (fun z5 y6 hz4 => State.markWritten_good hz4)

theorem lockSeen_good {wq : Keep} {p : Nat} {s : State} (h1 : Good wq s) : Good wq (lockSeen p s) := by
  unfold lockSeen
  refine good_ite h1 ?_
  extract_lets -useContext v0 v1
  clear_value v0
  have hv2 : Good wq v1 := State.setIdx_good h1
  clear_value v1
  exact good_ite (State.setFld_good hv2) hv2

theorem matchArm_good {wq : Keep} {n : Nat} {hi : Word} {s : State} (h2 : Good wq s) : Good wq (matchArm n hi s) := by
  unfold matchArm
  extract_lets -useContext v0 v1
  have hv2 : Good wq v0 := State.setReg_good h2
  clear_value v0 v1
  exact State.setFld_good (good_upd hv2 (fun hg => hg.buf))

theorem mirrorAtRun_good {wq : Keep} {s : State} (h0 : Good wq s) : Good wq (mirrorAtRun s) := by
  unfold mirrorAtRun
  extract_lets -useContext v0 v1
  clear_value v0 v1
  exact good_foldl (good_upd h0 (fun hg => hg.buf)) (fun z3 y4 hz2 => State.markWritten_good hz2)

theorem mirrorCopy_good {wq : Keep}  {rq : Req} {z : State}  (h : Good wq z) : Good wq (mirrorCopy.run rq z) := by
  unfold mirrorCopy
  exact good_run (good_foldl (State.keepRun_good h) (fun z1 y2 hz0 => State.markWritten_good hz0))

theorem pairFault_good {wq : Keep} {e : Nat} {s : State} (h1 : Good wq s) : Good wq (pairFault e s) := by
  unfold pairFault
  extract_lets -useContext v0 v1 v2 v3 v4 v5 v6 v7
  clear_value v0 v1
  have hv8 : Good wq v2 := by
    unfold v2
    split
    · exact endTask_good h1
    · exact h1
  clear_value v2
  have hv9 : Good wq v3 := freeEngine_good hv8
  clear_value v3
  have hv10 : Good wq v4 := by
    unfold v4
    refine good_foldl hv9 ?_
    intro z12 y13 hz11
    refine good_mk ?_ (fun hg => ?_) (fun hg => ?_) (fun hg => ?_) (fun hg => ?_) (fun hg => ?_) (fun hg => ?_) (fun hg => ?_)
    · exact hz11
    · exact hg.host
    · exact hg.smem
    · exact hg.buf
    · exact Store.all_set hg.engs ((hz11.eng _).keep rfl rfl)
    · exact hg.clus
    · exact hg.chans
    · exact hg.msgs
  clear_value v4
  have hv14 : Good wq v5 := State.intSet_good (State.setFld_good hv10)
  clear_value v5
  have hv15 : Good wq v6 := State.alarm_good (State.bell_good hv14)
  have hv16 : Clu.Ok wq v7 := (hv15.clu _)
  clear_value v6 v7
  exact State.setClu_good hv15 (fun hg => hv16.keep rfl rfl rfl rfl)

theorem pendDo_good {wq : Keep} {p : Nat} {o : Nat} {data : Word} {s : State} (h3 : Good wq s) : Good wq (pendDo p o data s) := by
  unfold pendDo
  extract_lets -useContext v0
  clear_value v0
  refine State.settle_good ?_
  refine good_foldl h3 ?_
  intro z2 y3 hz1
  extract_lets -useContext v4 v5 v6 v7
  clear_value v4 v5
  have hv8 : Good wq v6 := State.setIsrc_good hz1
  clear_value v6 v7
  exact State.setClk_good hv8

theorem postEntry_good {wq : Keep} {e : Nat} {xd : Nat} {ws : List Word} {s : State} (h3 : Good wq s) : Good wq (postEntry e xd ws s) := by
  unfold postEntry
  extract_lets -useContext v0 v1 v2 v3
  clear_value v0 v1 v2 v3
  refine good_ite ?_ (State.setRegs_good h3)
  split
  rename_i a4 t5 heq6
  have hm7 : Good wq t5 := by
    exact good_snd_eq heq6 (enterEvent_good h3)
  exact State.setRegs_good hm7

theorem pressCmd_good {wq : Keep} {code : Nat} {rq : Req} {z : State}  (h : Good wq z) : Good wq ((pressCmd code).run rq z) := by
  unfold pressCmd
  split
  · exact load_good h
  · exact bankSwitch_good h
  · exact mirrorCopy_good h
  · exact undefinedCmd_good h

theorem ptpMessage_good {wq : Keep} {n : Nat} {m : PtpMsg} {s : State} (h2 : Good wq s) : Good wq (ptpMessage n m s) := by
  unfold ptpMessage
  extract_lets -useContext v0 v1
  clear_value v0 v1
  refine good_ite h2 ?_
  split
  · exact State.setEth_good h2
  · exact State.setEth_good h2
  · exact State.setEth_good h2
  · split
    · exact good_ite (State.setEth_good h2) h2
    · exact h2
  · exact peerMeasured_good h2
  · split
    · exact h2
    · extract_lets -useContext v2 v3 v4 v5 v6 v7 v8
      clear_value v2 v3
      have hv9 : Good wq v4 := State.setEth_good h2
      clear_value v4
      have hv10 : Good wq v5 := State.setReg64_good hv9
      clear_value v5
      have hv11 : Good wq v6 := State.setReg_good hv10
      clear_value v6
      have hv12 : Good wq v7 := State.setReg64_good hv11
      clear_value v7
      have hv13 : Good wq v8 := State.setReg_good hv12
      clear_value v8
      exact State.setSynced_good hv13

theorem putCal_good {wq : Keep} {n : Nat} {r : CalResult} {s : State} (h2 : Good wq s) : Good wq (putCal n r s) := by
  unfold putCal
  extract_lets -useContext v0 v1 v2 v3
  clear_value v0
  have hv4 : Good wq v1 := good_foldl h2 (fun z6 y7 hz5 => good_ite (State.setFld_good hz5) hz5)
  clear_value v1
  have hv8 : Good wq v2 := good_foldl hv4 (fun z10 y11 hz9 => good_ite (State.setFld_good hz9) hz9)
  clear_value v2
  have hv12 : Good wq v3 := good_foldl hv8 (fun z14 y15 hz13 => good_ite (State.setFld_good hz13) hz13)
  clear_value v3
  exact good_upd hv12 (fun hg => hg.buf)

theorem putPcieCfg_good {wq : Keep} {c : PcieCfg} {s : State} (h1 : Good wq s) : Good wq (putPcieCfg c s) := by
  unfold putPcieCfg
  exact State.setFld_good (good_upd h1 (fun hg => hg.buf))

theorem putSealOld_good {wq : Keep} {o : SealOld} {s : State} (h1 : Good wq s) : Good wq (putSealOld o s) := by
  unfold putSealOld
  extract_lets -useContext v0 v1
  have hv2 : Good wq v0 := good_foldl (State.setFld_good h1) (fun z4 y5 hz3 => State.setReg_good hz3)
  clear_value v0 v1
  exact good_upd hv2 (fun hg => hg.buf)

theorem pwmCmd_good {wq : Keep} {code : Nat} {rq : Req} {z : State}  (h : Good wq z) : Good wq ((pwmCmd code).run rq z) := by
  unfold pwmCmd
  split
  · exact pwmSubstitute_good h
  · exact pwmRelease_good h
  · exact undefinedCmd_good h

theorem pwmGive_good {wq : Keep} {k : Nat} {l : Nat} {s : State} (h2 : Good wq s) : Good wq (pwmGive k l s) := by
  unfold pwmGive
  extract_lets -useContext v0 v1 v2 v3 v4
  have hv5 : Good wq v0 := copyPwmCfg_good h2
  clear_value v0
  have hv6 : Good wq v1 := State.setReg_good hv5
  clear_value v1 v2
  have hv7 : Good wq v3 := State.setSt_good (State.setPwm_good hv6)
  clear_value v3
  have hv8 : Good wq v4 := State.setSt_good (State.setPwm_good hv7)
  clear_value v4
  exact State.intSet_good (State.intSet_good hv8)

theorem pwrCmd_good {wq : Keep} {code : Nat} {rq : Req} {z : State}  (h : Good wq z) : Good wq ((pwrCmd code).run rq z) := by
  unfold pwrCmd
  split
  · exact domOff_good h
  · exact domOn_good h
  · exact domIsolate_good h
  · exact domReset_good h
  · exact undefinedCmd_good h

theorem qheadDo_good {wq : Keep} {t : Nat} {v : Nat} {s : State} (h2 : Good wq s) : Good wq (qheadDo t v s) := by
  unfold qheadDo
  extract_lets -useContext v0 v1
  have hv2 : Good wq v0 := State.setFld_good h2
  clear_value v0 v1
  exact State.setItgt_good hv2

theorem quadIndex_good {wq : Keep} {u : Nat} {s : State} (h1 : Good wq s) : Good wq (quadIndex u s) := by
  unfold quadIndex
  refine good_ite h1 ?_
  extract_lets -useContext v0 v1 v2 v3
  clear_value v0 v1
  have hv4 : Good wq v2 := State.setReg_good h1
  clear_value v2
  have hv5 : Good wq v3 := State.intSet_good (State.setFld_good hv4)
  clear_value v3
  exact good_ite (State.setWheel_good hv5) hv5

theorem ratioWindow_good {wq : Keep} {count : Nat} {s : State} (h1 : Good wq s) : Good wq (ratioWindow count s) := by
  unfold ratioWindow
  exact good_ite h1 (State.setFld_good (State.setReg_good h1))

theorem refDo_good {wq : Keep} {n : Nat} {data : Word} {s : State} (h2 : Good wq s) : Good wq (refDo n data s) := by
  unfold refDo
  extract_lets -useContext v0 v1 v2 v3
  clear_value v0 v1
  have hv4 : Good wq v2 := State.setReg_good h2
  clear_value v2 v3
  exact good_ite (State.setAdc_good (State.setFld_good hv4)) (good_ite hv4 (State.setAdc_good hv4))

theorem relayCast_good {wq : Keep} {p : Nat} {h : FrameHdr} {l : Payload} {s : State} (h3 : Good wq s) : Good wq (relayCast p h l s) := by
  unfold relayCast
  exact good_ite (State.idxSend_good h3) h3

theorem releaseHeld_good {wq : Keep} {e : Nat} {s : State} (h1 : Good wq s) : Good wq (releaseHeld e s) := by
  unfold releaseHeld
  extract_lets -useContext v0
  have hv1 : Eng.Ok wq v0 := (h1.eng _)
  clear_value v0
  split
  · exact boundaryWork_good (State.setEng_good h1 (fun hg => hv1.keep rfl rfl))
  · exact h1

theorem resumeHeld_good {wq : Keep} {s : State} (h0 : Good wq s) : Good wq (resumeHeld s) := by
  unfold resumeHeld
  exact good_foldl h0 (fun z1 y2 hz0 => good_ite (releaseHeld_good hz0) hz0)

theorem revCeiling_good {wq : Keep} {s : State} (h0 : Good wq s) : Good wq (revCeiling s) := by
  unfold revCeiling
  extract_lets -useContext v0 v1 v2 v3
  clear_value v0 v1 v2 v3
  exact State.dropPwmPins_good (State.dropFollow_good (good_upd h0 (fun hg => hg.buf)))

theorem rsmpCmd_good {wq : Keep} {code : Nat} {rq : Req} {z : State}  (h : Good wq z) : Good wq ((rsmpCmd code).run rq z) := by
  unfold rsmpCmd
  split
  · exact winClose_good h
  · exact ringReset_good h
  · exact undefinedCmd_good h

theorem sentInterval_good {wq : Keep} {c : Nat} {s : State} {i : Nat} (h1 : Good wq s) : Good wq (sentInterval c s i) := by
  unfold sentInterval
  extract_lets -useContext v0 v1
  clear_value v0 v1
  refine good_ite (State.setUnit_good h1) ?_
  split
  · exact frameError_good h1
  · extract_lets -useContext v2 v3 v4 v5 v6
    clear_value v2 v3
    have hv7 : Good wq v4 := State.setUnit_good h1
    clear_value v4 v5
    have hv8 : Good wq v6 := State.setUnit_good hv7
    clear_value v6
    exact good_ite (good_ite (frameDone_good hv8) hv7) (good_ite h1 (frameError_good (State.setUnit_good h1)))

theorem setDst_good {wq : Keep} {d : Nat} {x : Nat} {s : State} (h2 : Good wq s) : Good wq (setDst d x s) := by
  unfold setDst
  extract_lets -useContext v0
  have hv1 : Good wq v0 := good_foldl h2 (fun z3 y4 hz2 => good_upd hz2 (fun hg => hg.buf))
  clear_value v0
  exact State.intSet_good hv1

theorem settleEngines_good {wq : Keep} {c : Nat} {s : State} (h1 : Good wq s) : Good wq (settleEngines c s) := by
  unfold settleEngines
  refine good_foldl h1 ?_
  intro z1 y2 hz0
  extract_lets -useContext v3
  have hv4 : Good wq v3 := releaseHeld_good hz0
  clear_value v3
  split
  · exact freeEngine_good (endTask_good hv4)
  · exact hv4

theorem shiftRx_good {wq : Keep} {e : Nat} {xd : Nat} {c : Nat} {n : Nat} {s : State} (h4 : Good wq s) : Good wq (shiftRx e xd c n s) := by
  unfold shiftRx
  extract_lets -useContext v0 v1
  clear_value v0 v1
  exact good_ite (State.setS_good (State.setRegs_good h4)) (good_ite (State.setS_good (State.setRegs_good (State.setUnit_good h4)))
      (stallShift_good h4))

theorem shiftTx_good {wq : Keep} {e : Nat} {xd : Nat} {c : Nat} {n : Nat} {d : Word} {s : State} (h5 : Good wq s) :
    Good wq (shiftTx e xd c n d s) := by
  unfold shiftTx
  extract_lets -useContext v0
  clear_value v0
  exact good_ite (State.setS_good (State.setRegs_good h5)) (good_ite (State.setS_good (State.setRegs_good (State.setUnit_good h5)))
      (stallShift_good h5))

theorem showEdge_good {wq : Keep} {u : Nat} {t : Nat} {per : Nat} {s : State} (h3 : Good wq s) : Good wq (showEdge u t per s) := by
  unfold showEdge
  extract_lets -useContext v0 v1 v2 v3 v4 v5 v6 v7 v8 v9 v10 v11 v12 v13
  clear_value v0 v1 v2 v3 v4 v5 v6
  have hv14 : Good wq v7 := State.setWheel_good h3
  clear_value v7
  have hv15 : Good wq v8 := State.setReg64_good hv14
  clear_value v8
  have hv16 : Good wq v9 := good_ite hv15 (State.setReg_good hv15)
  clear_value v9
  have hv17 : Good wq v10 := State.setReg_good hv16
  clear_value v10 v11 v12
  have hv18 : Good wq v13 := State.setWheel_good hv17
  clear_value v13
  exact good_ite (State.intSet_good hv18) hv18

theorem showPeak_good {wq : Keep} {i : SecInput} {s : State} (h1 : Good wq s) : Good wq (showPeak i s) := by
  unfold showPeak
  split
  · exact h1
  · exact good_ite h1 (State.setPeak_good h1)

theorem spiNop_good {wq : Keep} {seq : Nat} {s : State} (h1 : Good wq s) : Good wq (spiNop seq s) := by
  unfold spiNop
  refine good_ite h1 ?_
  extract_lets -useContext v0
  have hv1 : Good wq v0 := spiRespond_good h1
  clear_value v0
  exact good_ite hv1 (State.report_good hv1)

theorem storeRoleMap_good {wq : Keep} {k : SealPkg} {s : State} (h1 : Good wq s) : Good wq (storeRoleMap k s) := by
  unfold storeRoleMap
  refine good_ite ?_ h1
  extract_lets -useContext v0 v1
  have hv2 : Good wq v0 := good_foldl h1 (fun z4 y5 hz3 => State.setRoleMap_good hz3)
  clear_value v0 v1
  exact good_upd hv2 (fun hg => hg.buf)

theorem synEnd_good {wq : Keep} {u : Nat} {s : State} (h1 : Good wq s) : Good wq (synEnd u s) := by
  unfold synEnd
  extract_lets -useContext v0 v1 v2
  clear_value v0 v1
  have hv3 : Good wq v2 := State.setWheel_good h1
  clear_value v2
  exact State.setSt_good (State.setFld_good hv3)

theorem tbClock_good {wq : Keep} {s : State} (h0 : Good wq s) : Good wq (tbClock s) := by
  unfold tbClock
  refine good_ite h0 ?_
  refine good_ite ?_ ?_
  · extract_lets -useContext v0 v1
    have hv2 : Good wq v0 := State.newClock_good h0
    clear_value v0 v1
    exact good_upd hv2 (fun hg => hg.buf)
  · refine good_ite ?_ (good_ite (State.wrap_good h0) (State.clockAt_good h0))
    extract_lets -useContext v3 v4
    have hv5 : Good wq v3 := State.newClock_good h0
    clear_value v3 v4
    exact good_upd hv5 (fun hg => hg.buf)

theorem tbWrap_good {wq : Keep} {s : State} (h0 : Good wq s) : Good wq (tbWrap s) := by
  unfold tbWrap
  exact good_ite h0 (State.wrap_good h0)

theorem tdcfgDo_good {wq : Keep} {data : Word} {s : State} (h1 : Good wq s) : Good wq (tdcfgDo data s) := by
  unfold tdcfgDo
  extract_lets -useContext v0 v1 v2 v3
  clear_value v0
  have hv4 : Good wq v1 := State.setReg_good h1
  clear_value v1
  have hv5 : Good wq v2 := State.setFld_good hv4
  clear_value v2 v3
  exact good_ite (good_upd hv5 (fun hg => hg.buf)) (good_ite (good_upd hv5 (fun hg => hg.buf)) hv4)

theorem tempwarn_good {wq : Keep} {t : Int} {s : State} (h1 : Good wq s) : Good wq (tempwarn t s) := by
  unfold tempwarn
  refine good_ite h1 ?_
  extract_lets -useContext v0
  have hv1 : Good wq v0 := putTemp_good h1
  clear_value v0
  exact good_ite (State.intSet_good hv1) hv1

theorem timeExchange_good {wq : Keep} {p : Nat} {t1 : BitVec 64} {s : State} (h2 : Good wq s) : Good wq (timeExchange p t1 s) := by
  unfold timeExchange
  exact good_ite h2 (State.idxSend_good (good_upd h2 (fun hg => hg.buf)))

theorem timeRequest_good {wq : Keep} {p : Nat} {h : FrameHdr} {f : TimeF} {rx : BitVec 64} {s : State} (h4 : Good wq s) :
    Good wq (timeRequest p h f rx s) := by
  unfold timeRequest
  exact State.idxSend_good h4

theorem tornChange_good {wq : Keep} {s : State} (h0 : Good wq s) : Good wq (tornChange s) := by
  unfold tornChange
  split
  · exact h0
  · extract_lets -useContext v0 v1 v2
    have hv3 : Good wq v0 := good_foldl h0 (fun z5 y6 hz4 => State.setReg_good hz4)
    clear_value v0
    have hv7 : Good wq v1 := by
      unfold v1
      split
      · exact putSealOld_good hv3
      · exact hv3
    clear_value v1 v2
    exact State.rindCrc_good (good_upd hv7 (fun hg => hg.buf))

theorem tripcfgDo_good {wq : Keep} {i : Nat} {s : State} (h1 : Good wq s) : Good wq (tripcfgDo i s) := by
  unfold tripcfgDo
  exact good_ite h1 (State.setFld_good h1)

theorem twinTake_good {wq : Keep} {u : Nat} {v : Nat} {d : Int} {s : State} (h3 : Good wq s) : Good wq (twinTake u v d s) := by
  unfold twinTake
  extract_lets -useContext v0 v1 v2
  clear_value v0
  have hv3 : Good wq v1 := good_upd h3 (fun hg => hg.buf)
  clear_value v1
  have hv4 : Good wq v2 := good_ite hv3 (State.setSt_good hv3)
  clear_value v2
  exact oweRepair_good (takeover_good hv4)

theorem unlose_good {wq : Keep} {n : Nat} {r : Nat} {s : State} (h2 : Good wq s) : Good wq (unlose n r s) := by
  unfold unlose
  refine good_ite h2 ?_
  extract_lets -useContext v0 v1 v2 v3 v4 v5 v6 v7 v8 v9 v10 v11
  clear_value v0 v1 v2 v3 v4 v5 v6
  have hv12 : Good wq v7 := State.setReg_good (State.setClk_good h2)
  clear_value v7
  have hv13 : Good wq v8 := good_upd hv12 (fun hg => hg.buf)
  clear_value v8
  have hv14 : Good wq v9 := State.setFld_good hv13
  clear_value v9
  have hv15 : Good wq v10 := good_upd hv14 (fun hg => hg.buf)
  clear_value v10 v11
  exact good_ite hv13 (good_ite (good_upd hv15 (fun hg => hg.buf)) hv15)

theorem unspared_good {wq : Keep} {p : Nat} {s : State} (h1 : Good wq s) : Good wq (unspared p s) := by
  unfold unspared
  extract_lets -useContext v0 v1 v2
  have hv3 : Good wq v0 := State.bell_good (State.alarm_good h1)
  clear_value v0
  have hv4 : Good wq v1 := good_ite hv3 (State.setFld_good (State.setFld_good hv3))
  clear_value v1 v2
  exact good_ite (fatal_good hv3) (good_ite (good_upd hv4 (fun hg => hg.buf)) hv3)

theorem wcfgDo_good {wq : Keep} {u : Nat} {old : Word} {new : Word} {s : State} (h3 : Good wq s) : Good wq (wcfgDo u old new s) := by
  unfold wcfgDo
  exact good_ite h3 (State.clearTerr_good h3)

theorem State.addSat_good {wq : Keep} {s : State} {p : Nat} {o : Nat} {lo : Nat} {len : Nat} {n : Nat} (h0 : Good wq s) :
    Good wq (State.addSat s p o lo len n) := by
  unfold State.addSat
  exact State.event_good h0

theorem State.blockFault_good {wq : Keep} {s : State} {p : Nat} (h0 : Good wq s) : Good wq (State.blockFault s p) := by
  unfold State.blockFault
  extract_lets -useContext v0 v1 v2 v3
  clear_value v0 v1
  have hv4 : Good wq v2 := good_ite (State.stopPwm_good h0) h0
  clear_value v2
  have hv5 : Good wq v3 := State.setSt_good hv4
  clear_value v3
  exact good_upd hv5 (fun hg => hg.buf)

theorem State.chStat_good {wq : Keep} {s : State} {c : Nat} {i : Nat} (h0 : Good wq s) : Good wq (State.chStat s c i) := by
  unfold State.chStat
  extract_lets -useContext v0 v1 v2
  clear_value v0 v1
  have hv3 : Good wq v2 := State.event_good h0
  clear_value v2
  exact State.bellIf_good hv3

theorem State.countEnd_good {wq : Keep} {s : State} {status : Nat} (h0 : Good wq s) : Good wq (State.countEnd s status) := by
  unfold State.countEnd
  exact good_ite (State.intSet_good (State.addSat_good h0)) (good_ite (State.intSet_good (State.addSat_good h0)) (good_ite
      (State.intSet_good (State.addSat_good h0)) h0))

theorem State.dma_good {wq : Keep} {s : State} {a : Nat} {ws : List Word} (h0 : Good wq s) : Good wq (State.dma s a ws) := by
  unfold State.dma
  refine good_ite ?_ (State.addSat_good h0)
  refine good_mk ?_ (fun hg => ?_) (fun hg => ?_) (fun hg => ?_) (fun hg => ?_) (fun hg => ?_) (fun hg => ?_) (fun hg => ?_)
  · exact h0
  · exact fun hm => Memory.setWords_wf (hg.host hm)
  · exact hg.smem
  · exact hg.buf
  · exact hg.engs
  · exact hg.clus
  · exact hg.chans
  · exact hg.msgs

theorem State.dmaFail_good {wq : Keep} {s : State} {p : Nat} {code : Nat} (h0 : Good wq s) : Good wq (State.dmaFail s p code) := by
  unfold State.dmaFail
  extract_lets -useContext v0 v1
  have hv2 : Good wq v0 := State.addSat_good h0
  clear_value v0
  have hv3 : Good wq v1 := State.event_good hv2
  clear_value v1
  exact State.intSet_good hv3

theorem State.dropOldest_good {wq : Keep} {s : State} {r : WheyRing} (h0 : Good wq s) : Good wq (State.dropOldest s r) := by
  unfold State.dropOldest
  extract_lets -useContext v0
  clear_value v0
  split
  · exact h0
  · extract_lets -useContext v1 v2
    have hv3 : Good wq v1 := State.setWring_good h0
    clear_value v1
    have hv4 : Good wq v2 := good_ite (State.addSat_good hv3) hv3
    clear_value v2
    exact good_ite (State.addSat_good hv4) hv4

theorem State.endSessions_good {wq : Keep} {s : State} (h0 : Good wq s) : Good wq (State.endSessions s) := by
  unfold State.endSessions
  exact State.setSession_good (State.setSession_good h0)

theorem State.freeRing_good {wq : Keep} {s : State} {r : WheyRing} {x : Nat} (h0 : Good wq s) : Good wq (s.freeRing r x) := by
  induction x generalizing s with
  | zero => exact h0
  | succ n ih =>
    unfold State.freeRing
    split
    · exact h0
    · exact good_ite h0 (ih (good_ite (State.setWring_good (State.dropOldest_good h0)) (State.dropOldest_good h0)))

theorem State.headOn_good {wq : Keep} {s : State} (h0 : Good wq s) : Good wq (State.headOn s) := by
  unfold State.headOn
  extract_lets -useContext v0 v1 v2
  clear_value v0
  have hv3 : Good wq v1 := State.setFld_good h0
  clear_value v1 v2
  exact good_upd hv3 (fun hg => hg.buf)

theorem State.idxCast_good {wq : Keep} {s : State} {l : Payload} (h0 : Good wq s) : Good wq (State.idxCast s l) := by
  unfold State.idxCast
  extract_lets -useContext v0 v1
  clear_value v0
  have hv2 : Good wq v1 := good_ite (State.idxSend_good h0) h0
  clear_value v1
  exact good_ite (State.idxSend_good hv2) hv2

theorem State.limpWheel_good {wq : Keep} {s : State} {u : Nat} (h0 : Good wq s) : Good wq (State.limpWheel s u) := by
  unfold State.limpWheel
  extract_lets -useContext v0 v1
  have hv2 : Good wq v0 := State.setFld_good h0
  clear_value v0 v1
  exact good_upd hv2 (fun hg => hg.buf)

theorem State.lose_good {wq : Keep} {s : State} {cls : Nat} {origin : Nat} {item : Bool} {kind : Nat} {count : Nat} {tb : Nat} (h0 : Good
    wq s) :
    Good wq (State.lose s cls origin item kind count tb) := by
  unfold State.lose
  extract_lets -useContext v0 v1 v2 v3 v4 v5 v6
  clear_value v0 v1 v2
  have hv7 : Good wq v4 := good_upd h0 (fun hg => by first | exact hg.buf | exact fun _ => rfl)
  clear_value v4
  have hv8 : Good wq v6 := good_ite (good_upd hv7 (fun hg => by first | exact hg.buf | exact fun _ => rfl)) hv7
  clear_value v6
  exact good_ite (State.addSat_good hv8) hv8

theorem State.makeRoom_good {wq : Keep} {s : State} {r : WheyRing} {need x : Nat} (h0 : Good wq s) :
    Good wq (s.makeRoom r need x) := by
  induction x generalizing s with
  | zero => exact h0
  | succ n ih =>
    unfold State.makeRoom
    exact good_ite h0 (ih (State.dropOldest_good h0))

theorem State.missHistory_good {wq : Keep} {old : State} {s : State} {n : Nat} (h0 : Good wq old) (h1 : Good wq s) :
    Good wq (State.missHistory old s n) := by
  unfold State.missHistory
  exact good_ite (State.addSat_good h1) h1

theorem State.ringPut_good {wq : Keep} {s : State} {r : WheyRing} {cls : Nat} {len : Nat} {ws : List Word} (h0 : Good wq s) :
    Good wq (State.ringPut s r cls len ws) := by
  unfold State.ringPut
  extract_lets -useContext v0 v1 v2 v3 v4 v5
  clear_value v0
  have hv6 : Good wq v1 := State.makeRoom_good h0
  clear_value v1 v2 v3
  have hv7 : Good wq v4 := good_ite (State.setWring_good (State.putBuf_good hv6)) (State.setWring_good hv6)
  clear_value v4 v5
  exact State.setWring_good (State.putBuf_good hv7)

theorem State.ringStore_good {wq : Keep} {s : State} {host : Bool} {full : Bool} {a : Nat} {r : SampRec} (h0 : Good wq s) :
    Good wq (State.ringStore s host full a r) := by
  unfold State.ringStore
  extract_lets -useContext v0
  clear_value v0
  refine good_ite (good_ite (State.dma_good h0) (State.dma_good h0)) ?_
  refine good_ite ?_ ?_
  · refine good_mk ?_ (fun hg => ?_) (fun hg => ?_) (fun hg => ?_) (fun hg => ?_) (fun hg => ?_) (fun hg => ?_) (fun hg => ?_)
    · exact h0
    · exact hg.host
    · first | exact fun hm => Memory.setWord_wf (hg.smem hm) | exact fun hm => Memory.setWords_wf (hg.smem hm) | exact fun _ => rfl
    · exact hg.buf
    · exact hg.engs
    · exact hg.clus
    · exact hg.chans
    · exact hg.msgs
  · refine good_mk ?_ (fun hg => ?_) (fun hg => ?_) (fun hg => ?_) (fun hg => ?_) (fun hg => ?_) (fun hg => ?_) (fun hg => ?_)
    · exact h0
    · exact hg.host
    · first | exact fun hm => Memory.setWord_wf (hg.smem hm) | exact fun hm => Memory.setWords_wf (hg.smem hm) | exact fun _ => rfl
    · exact hg.buf
    · exact hg.engs
    · exact hg.clus
    · exact hg.chans
    · exact hg.msgs

theorem State.sendMsix_good {wq : Keep} {s : State} {v : Nat} {m : Msix} (h0 : Good wq s) : Good wq (State.sendMsix s v m) := by
  unfold State.sendMsix
  exact good_ite (State.setMsix_good h0) (State.addSat_good (State.setMsix_good h0))

theorem State.setFails_good {wq : Keep} {s : State} {k : Slot} {n : Nat} (h0 : Good wq s) : Good wq (State.setFails s k n) := by
  unfold State.setFails
  split
  · exact State.setFld_good h0
  · exact good_upd h0 (fun hg => hg.buf)

theorem State.takeLog_good {wq : Keep} {s : State} {r : WRec} (h0 : Good wq s) : Good wq (State.takeLog s r) := by
  unfold State.takeLog
  split
  rename_i a0 t1 heq2
  have hm3 : Good wq t1 := by
    exact good_snd_eq heq2 (State.nextSeq_good h0)
  exact good_ite (State.ringPut_good hm3) (State.lose_good hm3)

theorem State.takeTrace_good {wq : Keep} {s : State} {r : WRec} (h0 : Good wq s) : Good wq (State.takeTrace s r) := by
  unfold State.takeTrace
  split
  rename_i a0 t1 heq2
  have hm3 : Good wq t1 := by
    exact good_snd_eq heq2 (State.nextSeq_good h0)
  split
  · extract_lets -useContext v4 v5 v6 v7 v8 v9
    have hv10 : Good wq v5 := good_upd hm3 (fun hg => by first | exact hg.buf | exact fun _ => rfl)
    have hv11 : Good wq v9 := good_upd hv10 (fun hg => by first | exact hg.buf | exact fun _ => rfl)
    exact good_ite (State.lose_good hv10) (good_ite (State.ringPut_good hv11) (State.intSet_good (State.lose_good hv10)))

theorem State.upTo_good {wq : Keep} {s : State} {t : Nat} (h0 : Good wq s) : Good wq (State.upTo s t) := by
  unfold State.upTo
  exact good_ite h0 (good_ite (State.clockAt_good h0) (State.clockAt_good (State.wrap_good h0)))

theorem State.writeAlarm_good {wq : Keep} {s : State} {a : WRec} (h0 : Good wq s) : Good wq (State.writeAlarm s a) := by
  unfold State.writeAlarm
  split
  rename_i a0 t1 heq2
  have hm3 : Good wq t1 := by
    exact good_snd_eq heq2 (State.nextSeq_good h0)
  exact State.intSet_good (State.ringPut_good hm3)

theorem State.writeLoss_good {wq : Keep} {s : State} {origin : Nat} {kind : Nat} {word6 : Nat} {count : Nat} {first : Nat} {last : Nat} (h0
    : Good wq s) :
    Good wq (State.writeLoss s origin kind word6 count first last) := by
  unfold State.writeLoss
  split
  rename_i a0 t1 heq2
  have hm3 : Good wq t1 := by
    exact good_snd_eq heq2 (State.nextSeq_good h0)
  extract_lets -useContext v4
  clear_value v4
  exact State.intSet_good (State.ringPut_good hm3)

theorem State.writeRecord_good {wq : Keep} {s : State} {w0 : Nat} {w1 : Nat} {tb : Nat} {res : List Word} (h0 : Good wq s) :
    Good wq (State.writeRecord s w0 w1 tb res) := by
  unfold State.writeRecord
  extract_lets -useContext v0 v1 v2 v3 v4 v5 v6 v7
  clear_value v0 v1
  have hv8 : Good wq v2 := State.dma_good h0
  clear_value v2
  have hv9 : Good wq v3 := State.dma_good hv8
  clear_value v3
  have hv10 : Good wq v4 := State.dma_good hv9
  clear_value v4 v5
  have hv11 : Good wq v6 := State.setFld_good hv10
  clear_value v6 v7
  exact good_upd hv11 (fun hg => hg.buf)

theorem adcCmd_good {wq : Keep} {n : Nat} {code : Nat} {rq : Req} {z : State}  (h : Good wq z) : Good wq ((adcCmd n code).run rq z) := by
  unfold adcCmd
  split
  · exact calibrate_good h
  · exact urgent_good h
  · exact seqRestart_good h
  · exact good_ite_run (adcSubstitute_good h) (undefinedCmd_good h)
  · exact good_ite_run (adcRelease_good h) (undefinedCmd_good h)
  · exact undefinedCmd_good h

theorem authFail_good {wq : Keep} {k : Slot} {s : State} (h1 : Good wq s) : Good wq (authFail k s) := by
  unfold authFail
  extract_lets -useContext v0 v1 v2 v3
  clear_value v0
  have hv4 : Good wq v1 := State.setFails_good h1
  clear_value v1
  have hv5 : Good wq v2 := good_ite (State.setLock_good hv4) hv4
  clear_value v2
  have hv6 : Good wq v3 := State.alarm_good hv5
  clear_value v3
  exact State.intSet_good hv6

theorem bar2Reject_good {wq : Keep} {s : State} (h0 : Good wq s) : Good wq (bar2Reject s) := by
  unfold bar2Reject
  exact State.intSet_good (State.addSat_good h0)

theorem bootCal_good {wq : Keep} {n : Nat} {r : CalResult} {s : State} (h2 : Good wq s) : Good wq (bootCal n r s) := by
  unfold bootCal
  extract_lets -useContext v0
  have hv1 : Good wq v0 := State.setFld_good h2
  clear_value v0
  exact good_ite (State.setFld_good (putCal_good hv1)) (State.setSt_good (State.intSet_good hv1))

theorem bounceIn_good {wq : Keep} {c : Nat} {ws : List Word} {s : State} (h2 : Good wq s) : Good wq (bounceIn c ws s) := by
  unfold bounceIn
  extract_lets -useContext v0 v1 v2
  clear_value v0 v1
  have hv3 : Good wq v2 := good_foldl h2 (fun z5 y6 hz4 => State.setShared_good hz4)
  clear_value v2
  exact good_ite (State.intSet_good (State.addSat_good h2)) (State.wakeLevels_good (State.intSet_good (State.setShared_good hv3)))

theorem bounceLocal_good {wq : Keep} {r : Nat} {ws : List Word} {s : State} (h2 : Good wq s) : Good wq (bounceLocal r ws s) := by
  unfold bounceLocal
  split
  · exact bounceIn_good h2
  · exact State.lose_good h2

theorem bounceRx_good {wq : Keep} {p : Nat} {h : FrameHdr} {ws : List Word} {r : Nat} {s : State} (h4 : Good wq s) :
    Good wq (bounceRx p h ws r s) := by
  unfold bounceRx
  refine good_ite h4 ?_
  extract_lets -useContext v0
  clear_value v0
  exact good_ite (bounceLocal_good h4) (good_ite (State.idxSend_good h4) h4)

theorem catchUp_good {wq : Keep} {d : Nat} {s : State} (h1 : Good wq s) : Good wq (catchUp d s) := by
  unfold catchUp
  extract_lets -useContext v0 v1 v2 v3 v4 v5 v6 v7 v8
  clear_value v0 v1 v2
  have hv9 : Good wq v3 := State.upTo_good h1
  clear_value v3
  have hv10 : Good wq v4 := good_upd hv9 (fun hg => hg.buf)
  clear_value v4
  have hv11 : Good wq v5 := State.event_good hv10
  clear_value v5
  have hv12 : Good wq v6 := State.setReg_good hv11
  clear_value v6
  have hv13 : Good wq v7 := State.setReg_good hv12
  clear_value v7
  have hv14 : Good wq v8 := State.setReg_good hv13
  clear_value v8
  exact regrid_good (State.intSet_good hv14)

theorem closeLane_good {wq : Keep} {l : Nat} {t : Nat} {sync : Bool} {s : State} (h3 : Good wq s) : Good wq (closeLane l t sync s) := by
  unfold closeLane
  extract_lets -useContext v0 v1 v2 v3 v4
  clear_value v0 v1 v2
  have hv5 : Good wq v3 := State.setLane_good h3
  clear_value v3
  have hv6 : Good wq v4 := good_foldl hv5 (fun z8 y9 hz7 => good_ite (patchLast_good hz7) hz7)
  clear_value v4
  exact good_ite h3 (State.intSet_good (State.addSat_good hv6))

theorem closeWheelLanes_good {wq : Keep} {loses : Nat → Bool} {s : State} (h1 : Good wq s) : Good wq (closeWheelLanes loses s) := by
  unfold closeWheelLanes
  exact good_foldl h1 (fun z2 y3 hz1 => good_ite (closeLane_good hz1) hz1)

theorem cntdecDo_good {wq : Keep} {v : Nat} {s : State} (h1 : Good wq s) : Good wq (cntdecDo v s) := by
  unfold cntdecDo
  extract_lets -useContext v0 v1 v2 v3 v4 v5 v6 v7 v8
  clear_value v0 v1 v2 v3 v4
  have hv9 : Good wq v5 := unlose_good h1
  clear_value v5 v6
  have hv10 : Good wq v7 := State.setClk_good hv9
  clear_value v7 v8
  exact State.setIsrc_good hv10

theorem comparatorSelftest_good {wq : Keep} {failed : List (Nat × Nat)} {s : State} (h1 : Good wq s) :
    Good wq (comparatorSelftest failed s) := by
  unfold comparatorSelftest
  extract_lets -useContext v0
  have hv1 : Good wq v0 := State.upTo_good h1
  clear_value v0
  refine good_foldl hv1 ?_
  intro z3 y4 hz2
  extract_lets -useContext v5 v6 v7
  have hv8 : Clu.Ok wq v6 := (hz2.clu _)
  clear_value v5 v6
  have hv9 : Good wq v7 := good_ite hz2 (State.setClu_good hz2 (fun hg => hv8.keep rfl rfl rfl rfl))
  clear_value v7
  exact good_ite (good_foldl (lateRole_good hv9) (fun z11 y12 hz10 => checkerLost_good hz10)) (good_ite (State.blockFault_good hv9) hv9)

theorem countInvalid_good {wq : Keep} {u : Nat} {s : State} (h1 : Good wq s) : Good wq (countInvalid u s) := by
  unfold countInvalid
  exact State.intSet_good (State.addSat_good h1)

theorem counterStep_good {wq : Keep} {c : Nat} {s : State} (h1 : Good wq s) : Good wq (counterStep c s) := by
  unfold counterStep
  refine good_ite h1 ?_
  extract_lets -useContext v0 v1 v2 v3 v4 v5 v6
  have hv7 : Chan.Ok wq v0 := (h1.chan _)
  clear_value v0
  have hv8 : Good wq v1 := State.upTo_good h1
  clear_value v1 v2 v3
  have hv9 : Good wq v4 := State.setChan_good hv8 (fun hg => hv7.keep rfl rfl)
  clear_value v4
  have hv10 : Good wq v5 := good_ite (State.triggerSrc_good (State.chStat_good hv9)) hv9
  clear_value v5
  have hv11 : Good wq v6 := good_ite (State.triggerSrc_good (State.chStat_good hv10)) hv10
  clear_value v6
  exact good_ite (State.applyCounter_good (State.triggerSrc_good (State.chStat_good hv11))) hv11

theorem cutPair_good {wq : Keep} {m : Nat} {p : Nat} {f : Nat} {s : State} (h3 : Good wq s) : Good wq (cutPair m p f s) := by
  unfold cutPair
  exact State.intSet_good (State.addSat_good (State.setPwm_good h3))

theorem deadTimeExpiry_good {wq : Keep} {m : Nat} {p : Nat} {s : State} (h2 : Good wq s) : Good wq (deadTimeExpiry m p s) := by
  unfold deadTimeExpiry
  extract_lets -useContext v0 v1 v2
  clear_value v0 v1 v2
  exact good_ite h2 (pwmUpdate_good (fun w3 hw4 => State.setPwm_good hw4) (State.upTo_good h2))

theorem drainCutoff_good {wq : Keep} {s : State} (h0 : Good wq s) : Good wq (drainCutoff s) := by
  unfold drainCutoff
  extract_lets -useContext v0 v1 v2 v3
  have hv4 : Good wq v0 := State.upTo_good h0
  clear_value v0 v1
  have hv5 : Good wq v2 := good_ite (State.setReg_good (good_foldl hv4 (fun z7 y8 hz6 => State.setEv_good hz6))) hv4
  clear_value v2 v3
  exact good_upd hv5 (fun hg => hg.buf)

theorem endSynthesis_good {wq : Keep} {s : State} (h0 : Good wq s) : Good wq (endSynthesis s) := by
  unfold endSynthesis
  exact good_foldl h0 (fun z1 y2 hz0 => good_ite (synEnd_good hz0) hz0)

theorem excTimeout_good {wq : Keep} {kind : Nat} {cause : Nat} {limit : Nat} {s : State} (h3 : Good wq s) :
    Good wq (excTimeout kind cause limit s) := by
  unfold excTimeout
  refine good_ite ?_ h3
  extract_lets -useContext v0 v1
  have hv2 : Good wq v0 := State.upTo_good h3
  clear_value v0 v1
  exact fatal_good (good_upd hv2 (fun hg => hg.buf))

theorem execDeadTimeExpiry_good {wq : Keep} {m : Fin 10} {p : Fin 4} {s : State} (hst : Good wq s) :
    ∃ wt, execDeadTimeExpiry m p s = .next wt ∧ Good wq wt :=
  next_good rfl (deadTimeExpiry_good hst)

theorem execDrainCutoff_good {wq : Keep} {s : State} (hst : Good wq s) : ∃ wt, execDrainCutoff s = .next wt ∧ Good wq wt :=
  next_good rfl (drainCutoff_good hst)

theorem execHidleAssert_good {wq : Keep} {t : Fin 4} {held : Bool} {s : State} (hst : Good wq s) :
    ∃ wt, execHidleAssert t held s = .next wt ∧ Good wq wt :=
  next_good rfl (hidleAssert_good hst)

theorem execHostWatchdogExpiry_good {wq : Keep} {s : State} (hst : Good wq s) : ∃ wt, execHostWatchdogExpiry s = .next wt ∧ Good wq wt :=
  next_good rfl (hostWatchdogExpiry_good hst)

theorem execOvervoltageTimeout_good {wq : Keep} {s : State} (hst : Good wq s) : ∃ wt, execOvervoltageTimeout s = .next wt ∧ Good wq wt :=
  next_good rfl (excTimeout_good hst)

theorem execPtpMessage_good {wq : Keep} {n : Fin 2} {m : PtpMsg} {s : State} (hst : Good wq s) :
    ∃ wt, execPtpMessage n m s = .next wt ∧ Good wq wt :=
  next_good rfl (ptpMessage_good hst)

theorem execQuadratureIndex_good {wq : Keep} {u : Fin 8} {s : State} (hst : Good wq s) :
    ∃ wt, execQuadratureIndex u s = .next wt ∧ Good wq wt :=
  next_good rfl (quadIndex_good hst)

theorem execReceivedFrameDiscard_good {wq : Keep} {n : Fin 2} {s : State} (hst : Good wq s) :
    ∃ wt, execReceivedFrameDiscard n s = .next wt ∧ Good wq wt :=
  next_good rfl (good_ite (State.addSat_good hst) hst)

theorem execSlowRatioWindow_good {wq : Keep} {count : Time} {s : State} (hst : Good wq s) :
    ∃ wt, execSlowRatioWindow count s = .next wt ∧ Good wq wt :=
  next_good rfl (ratioWindow_good hst)

theorem execSpiNop_good {wq : Keep} {seq : BitVec 4} {s : State} (hst : Good wq s) : ∃ wt, execSpiNop seq s = .next wt ∧ Good wq wt :=
  next_good rfl (spiNop_good hst)

theorem execTbWrap_good {wq : Keep} {s : State} (hst : Good wq s) : ∃ wt, execTbWrap s = .next wt ∧ Good wq wt :=
  next_good rfl (tbWrap_good hst)

theorem execTempwarn_good {wq : Keep} {t : BitVec 16} {s : State} (hst : Good wq s) : ∃ wt, execTempwarn t s = .next wt ∧ Good wq wt :=
  next_good rfl (tempwarn_good hst)

theorem execTimeExchange_good {wq : Keep} {p : Fin 2} {t1 : BitVec 64} {s : State} (hst : Good wq s) :
    ∃ wt, execTimeExchange p t1 s = .next wt ∧ Good wq wt :=
  next_good rfl (timeExchange_good hst)

theorem execUndervoltageTimeout_good {wq : Keep} {s : State} (hst : Good wq s) : ∃ wt, execUndervoltageTimeout s = .next wt ∧ Good wq wt :=
  next_good rfl (excTimeout_good hst)

theorem fireAct_good {wq : Keep} {c : Nat} {k : CmpEntry} {f : Nat} {s : State} (h3 : Good wq s) : Good wq (fireAct c k f s) := by
  unfold fireAct
  refine good_ite ?_ (good_ite (State.triggerFrom_good h3) (State.occur_good (State.chStat_good h3)))
  extract_lets -useContext v0 v1 v2
  have hv3 : Chan.Ok wq v0 := (h3.chan _)
  clear_value v0
  have hv4 : Good wq v1 := good_ite (State.chStat_good (State.setChan_good h3 (fun hg => hv3.keep rfl rfl))) h3
  have hv5 : Chan.Ok wq v2 := (hv4.chan _)
  clear_value v1 v2
  exact State.setChan_good hv4 (fun hg => hv5.keep rfl rfl)

theorem groupExpiry_good {wq : Keep} {g : Nat} {s : State} (h1 : Good wq s) : Good wq (groupExpiry g s) := by
  unfold groupExpiry
  extract_lets -useContext v0 v1
  have hv2 : Good wq v0 := State.upTo_good h1
  clear_value v0 v1
  exact good_upd hv2 (fun hg => hg.buf)

theorem holdExpiry_good {wq : Keep} {t : Nat} {s : State} (h1 : Good wq s) : Good wq (holdExpiry t s) := by
  unfold holdExpiry
  split
  · exact h1
  · exact State.setItgt_good (State.upTo_good h1)

theorem hottimeMinute_good {wq : Keep} {s : State} (h0 : Good wq s) : Good wq (hottimeMinute s) := by
  unfold hottimeMinute
  exact good_ite (State.addSat_good h0) h0

theorem junctionOvertemp_good {wq : Keep} {t : Int} {s : State} (h1 : Good wq s) : Good wq (junctionOvertemp t s) := by
  unfold junctionOvertemp
  refine good_ite h1 ?_
  extract_lets -useContext v0
  have hv1 : Good wq v0 := tempwarn_good h1
  clear_value v0
  exact good_ite (fatal_good hv1) hv1

theorem laneChanged_good {wq : Keep} {l : Nat} {closes : Bool} {left : Option (Nat × Bool)} {ring : Bool} {s : State} (h4 : Good wq s) :
    Good wq (laneChanged l closes left ring s) := by
  unfold laneChanged
  extract_lets -useContext v0 v1 v2
  have hv3 : Good wq v0 := good_ite (closeLane_good h4) h4
  clear_value v0 v1
  have hv4 : Good wq v2 := by
    unfold v2
    split
    · exact State.setLane_good hv3
    · exact hv3
  clear_value v2
  exact good_ite (emptyLane_good hv4) hv4

theorem lanePut_good {wq : Keep} {l : Nat} {w0 : Word} {w1 : Nat} {s : State} (h3 : Good wq s) : Good wq (lanePut l w0 w1 s).2 := by
  unfold lanePut
  extract_lets -useContext v0 v1 v2 v3 v4 v5 v6 v7 v8
  clear_value v0 v1 v2 v3 v4 v5
  have hv9 : Good wq v6 := by
    unfold v6
    refine good_mk ?_ (fun hg => ?_) (fun hg => ?_) (fun hg => ?_) (fun hg => ?_) (fun hg => ?_) (fun hg => ?_) (fun hg => ?_)
    · exact h3
    · exact hg.host
    · first | exact fun hm => Memory.setWord_wf (hg.smem hm) | exact fun hm => Memory.setWords_wf (hg.smem hm) | exact fun _ => rfl
    · exact hg.buf
    · exact hg.engs
    · exact hg.clus
    · exact hg.chans
    · exact hg.msgs
  clear_value v6
  have hv10 : Good wq v7 := State.setReg_good hv9
  clear_value v7 v8
  exact good_ite_snd (good_pair (State.intSet_good (State.addSat_good h3))) (good_pair (State.setLane_good hv10))

theorem learnEdge_good {wq : Keep} {u : Nat} {t : Nat} {s : State} (h2 : Good wq s) : Good wq (learnEdge u t s) := by
  unfold learnEdge
  extract_lets -useContext v0 v1 v2 v3 v4
  clear_value v0 v1 v2
  have hv5 : Good wq v3 := by
    unfold v3
    split
    · exact h2
    · extract_lets -useContext v6
      have hv7 : Good wq v6 := State.setWheel_good h2
      clear_value v6
      exact State.intSet_good (State.addSat_good hv7)
  clear_value v3 v4
  exact good_ite (State.setWheel_good h2) (State.setWheel_good hv5)

theorem levelEffect_good {wq : Keep} {cmd : Nat} {s : State} (h1 : Good wq s) : Good wq (levelEffect cmd s) := by
  unfold levelEffect
  refine good_ite (good_upd h1 (fun hg => hg.buf)) ?_
  refine good_ite ?_ (good_ite (dropRoleMap_good (good_upd h1 (fun hg => hg.buf))) h1)
  split
  · exact h1
  · extract_lets -useContext v0 v1
    clear_value v0
    have hv2 : Good wq v1 := storeRoleMap_good (good_upd h1 (fun hg => hg.buf))
    clear_value v1
    exact good_foldl hv2 (fun z4 y5 hz3 => State.setFld_good hz3)

theorem lineRun_good {wq : Keep} {c : Nat} {s : State} {r : Bool × Nat} (h1 : Good wq s) : Good wq (lineRun c s r) := by
  unfold lineRun
  extract_lets -useContext v0 v1 v2 v3 v4 v5 v6
  clear_value v0 v1 v2 v3 v4 v5 v6
  exact good_foldl (State.setUnit_good h1) (fun z8 y9 hz7 => lineSample_good hz7)

theorem lockExpiry_good {wq : Keep} {k : Slot} {s : State} (h1 : Good wq s) : Good wq (lockExpiry k s) := by
  unfold lockExpiry
  exact good_ite h1 (State.setLock_good (State.upTo_good h1))

theorem logCheck_good {wq : Keep} {c : Nat} {stat : Nat} {s : State} (h2 : Good wq s) : Good wq (logCheck c stat s) := by
  unfold logCheck
  extract_lets -useContext v0
  have hv1 : Clu.Ok wq v0 := h2.clu _
  clear_value v0
  split
  · rename_i hl
    exact State.setClu_good h2 (fun _ => ⟨hv1.mem, hv1.msgs, hv1.events, fun _ => by
      simp only [List.length_append, List.length_singleton]; omega⟩)
  · exact State.intSet_good (State.addSat_good h2)

theorem logFailed_good {wq : Keep} {e : Posted} {code : Nat} {s : State} (h2 : Good wq s) : Good wq (logFailed e code s) := by
  unfold logFailed
  extract_lets -useContext v0 v1
  clear_value v0
  have hv2 : Good wq v1 := good_ite (good_upd h2 (fun hg => hg.buf)) (State.addSat_good h2)
  clear_value v1
  exact State.bell_good hv2

theorem logHalt_good {wq : Keep} {k : Slot} {s : State} (h1 : Good wq s) : Good wq (logHalt k s) := by
  unfold logHalt
  exact good_ite (State.alarm_good (State.addSat_good h1)) h1

theorem loseHeld_good {wq : Keep} {n : Nat} {s : State} (h1 : Good wq s) : Good wq (loseHeld n s) := by
  unfold loseHeld
  extract_lets -useContext v0 v1 v2
  clear_value v0
  have hv3 : Good wq v1 := by
    unfold v1
    refine good_foldl h1 ?_
    intro z5 y6 hz4
    split
    · exact State.lose_good (State.addSat_good hz4)
    · exact hz4
  clear_value v1 v2
  exact State.setAdc_good hv3

theorem loseLanes_good {wq : Keep} {s : State} (h0 : Good wq s) : Good wq (loseLanes s) := by
  unfold loseLanes
  extract_lets -useContext v0
  have hv1 : Good wq v0 := by
    unfold v0
    refine good_foldl h0 ?_
    intro z3 y4 hz2
    extract_lets -useContext v5
    exact good_ite hz2 (State.lose_good hz2)
  exact good_upd hv1 (fun hg => hg.buf)

theorem machineCheck_good {wq : Keep} {e : Nat} {cls : Nat} {s : State} (h2 : Good wq s) : Good wq (machineCheck e cls s) := by
  unfold machineCheck
  extract_lets -useContext v0 v1
  have hv2 : Eng.Ok wq v1 := (h2.eng _)
  clear_value v0 v1
  split
  · exact h2
  · split
    · extract_lets -useContext v3 v4 v5 v6 v7 v8
      clear_value v3
      have hv9 : Good wq v4 := endTask_good h2
      clear_value v4
      have hv10 : Good wq v5 := State.setEng_good hv9 (fun hg => hv2.noStack rfl rfl)
      clear_value v5
      have hv11 : Good wq v6 := State.intSet_good (logCheck_good hv10)
      clear_value v6
      have hv12 : Good wq v7 := State.alarm_good (State.bell_good hv11)
      have hv13 : Clu.Ok wq v8 := (hv12.clu _)
      clear_value v7 v8
      exact good_ite (State.setClu_good hv12 (fun hg => hv13.keep rfl rfl rfl rfl)) hv12

theorem matchReached_good {wq : Keep} {n : Nat} {s : State} (h1 : Good wq s) : Good wq (matchReached n s) := by
  unfold matchReached
  refine good_ite h1 ?_
  extract_lets -useContext v0 v1 v2
  have hv3 : Good wq v0 := State.upTo_good h1
  clear_value v0
  have hv4 : Good wq v1 := State.event_good hv3
  clear_value v1
  have hv5 : Good wq v2 := State.setFld_good hv4
  clear_value v2
  exact State.occur_good (State.bellIf_good hv5)

theorem midPeriodPoint_good {wq : Keep} {m : Nat} {s : State} (h1 : Good wq s) : Good wq (midPeriodPoint m s) := by
  unfold midPeriodPoint
  extract_lets -useContext v0 v1 v2 v3 v4 v5
  clear_value v0 v1 v2
  have hv6 : Good wq v3 := State.upTo_good h1
  clear_value v3 v4
  have hv7 : Good wq v5 := by
    unfold v5
    refine pwmUpdate_good ?_ hv6
    intro w8 hw9
    extract_lets -useContext v10 v11 v12
    clear_value v10 v11 v12
    exact State.setPwm_good hw9
  clear_value v5
  exact good_ite h1 (good_foldl hv7 (fun z14 y15 hz13 => State.triggerSrc_good hz13))

theorem msixRelease_good {wq : Keep} {v : Nat} {s : State} (h1 : Good wq s) : Good wq (msixRelease v s) := by
  unfold msixRelease
  extract_lets -useContext v0
  clear_value v0
  exact good_ite (State.sendMsix_good h1) h1

theorem msixReleaseAll_good {wq : Keep} {s : State} (h0 : Good wq s) : Good wq (msixReleaseAll s) := by
  unfold msixReleaseAll
  exact good_foldl h0 (fun z1 y2 hz0 => msixRelease_good hz0)

theorem overrun_good {wq : Keep} {e : Nat} {s : State} (h1 : Good wq s) : Good wq (overrun e s) := by
  unfold overrun
  extract_lets -useContext v0 v1 v2 v3 v4
  clear_value v0 v1
  have hv5 : Good wq v2 := State.alarm_good (State.bell_good h1)
  clear_value v2
  have hv6 : Good wq v3 := State.intSet_good (State.addSat_good hv5)
  have hv7 : Eng.Ok wq v4 := (hv6.eng _)
  clear_value v3 v4
  exact State.setEng_good hv6 (fun hg => hv7.keep rfl rfl)

theorem pauseFrame_good {wq : Keep} {n : Nat} {quanta : Nat} {s : State} (h2 : Good wq s) : Good wq (pauseFrame n quanta s) := by
  unfold pauseFrame
  exact good_ite h2 (good_ite (State.setEth_good h2) (State.addSat_good h2))

theorem pcieLinkUp_good {wq : Keep} {speed : Nat} {width : Nat} {s : State} (h2 : Good wq s) : Good wq (pcieLinkUp speed width s) := by
  unfold pcieLinkUp
  refine good_ite h2 ?_
  extract_lets -useContext v0 v1
  clear_value v0
  have hv2 : Good wq v1 := good_upd h2 (fun hg => hg.buf)
  clear_value v1
  exact putPcieCfg_good (State.setReg_good hv2)

theorem periodStart_good {wq : Keep} {m : Nat} {f : Nat} {s : State} (h2 : Good wq s) : Good wq (periodStart m f s) := by
  unfold periodStart
  extract_lets -useContext v0 v1
  have hv2 : Good wq v0 := by
    unfold v0
    refine pwmUpdate_good ?_ h2
    intro w3 hw4
    extract_lets -useContext v5 v6 v7 v8 v9 v10 v11 v12 v13
    clear_value v5
    have hv14 : Good wq v6 := State.setPwm_good hw4
    clear_value v6
    have hv15 : Good wq v7 := applyPeriod_good hv14
    clear_value v7 v8 v9 v10 v11 v12
    have hv16 : Good wq v13 := State.setPwm_good hv15
    clear_value v13
    exact good_foldl hv16 (fun z18 y19 hz17 => good_ite (State.addSat_good hz17) hz17)
  clear_value v0
  have hv20 : Good wq v1 := good_foldl hv2 (fun z22 y23 hz21 => State.triggerSrc_good hz21)
  clear_value v1
  exact followPwm_good hv20

theorem pulseEnd_good {wq : Keep} {c : Nat} {s : State} (h1 : Good wq s) : Good wq (pulseEnd c s) := by
  unfold pulseEnd
  split
  · exact h1
  · exact good_ite (endPulse_good (State.upTo_good h1)) h1

theorem putCurd_good {wq : Keep} {l : Nat} {w : RWin} {w0 : Word} {w1 : Nat} {rest : List GPoint} {s : State} (h5 : Good wq s) :
    Good wq (putCurd l w w0 w1 rest s) := by
  unfold putCurd
  split
  rename_i a0 t1 heq2
  have hm3 : Good wq t1 := by
    exact good_snd_eq heq2 (lanePut_good h5)
  extract_lets -useContext v4
  clear_value v4
  exact State.setLane_good hm3

theorem pwmCopyMismatch_good {wq : Keep} {m : Nat} {s : State} (h1 : Good wq s) : Good wq (pwmCopyMismatch m s) := by
  unfold pwmCopyMismatch
  extract_lets -useContext v0 v1 v2
  clear_value v0 v1
  have hv3 : Good wq v2 := State.setPwm_good (State.intSet_good h1)
  clear_value v2
  exact good_ite h1 (State.dropPwmPins_good (State.blockFault_good hv3))

theorem quadChange_good {wq : Keep} {u : Nat} {a : Bool} {b : Bool} {s : State} (h3 : Good wq s) : Good wq (quadChange u a b s) := by
  unfold quadChange
  refine good_ite h3 ?_
  extract_lets -useContext v0 v1 v2 v3 v4 v5
  clear_value v0 v1 v2 v3 v4
  have hv6 : Good wq v5 := State.intSet_good (State.addSat_good h3)
  clear_value v5
  exact good_ite h3 (good_ite (State.setWheel_good h3) (good_ite (State.setWheel_good h3) (good_ite (State.setWheel_good hv6)
      (State.setWheel_good hv6))))

theorem readEffect_good {wq : Keep} {port : Port} {a : Nat} {meets : Bool} {s : State} (h3 : Good wq s) :
    Good wq (readEffect port a meets s).2 := by
  unfold readEffect
  extract_lets -useContext v0 v1
  clear_value v0 v1
  refine good_ite_snd (good_pair h3) ?_
  refine good_ite_snd (hostPop_good h3) ?_
  refine good_ite_snd ?_ ?_
  · split
    · exact good_pair (State.setReg_good h3)
    · exact good_pair (State.setReg_good h3)
    · exact good_pair h3
  · refine good_ite_snd (good_pair h3) ?_
    split
    · exact good_ite_snd (good_pair h3) (good_ite_snd (good_pair (State.setReg_good h3)) (good_pair (State.setReg_good h3)))
    · exact good_pair h3

theorem readReg_good {wq : Keep} {port : Port} {a : Nat} {meets : Bool} {s : State} (h3 : Good wq s) :
    Good wq (readReg port a meets s) := by
  unfold readReg
  extract_lets -useContext v0
  have hv1 : Good wq v0.2 := readEffect_good h3
  clear_value v0
  exact State.putRead_good hv1

theorem referenceFall_good {wq : Keep} {m : Nat} {c : Nat} {s : State} (h2 : Good wq s) : Good wq (referenceFall m c s) := by
  unfold referenceFall
  extract_lets -useContext v0 v1 v2 v3
  have hv4 : Good wq v0 := good_ite (midPeriodPoint_good h2) h2
  clear_value v0 v1 v2 v3
  exact good_ite hv4 (pwmUpdate_good (fun w5 hw6 => State.setPwm_good hw6) (State.upTo_good hv4))

theorem referenceFault_good {wq : Keep} {n : Nat} {s : State} (h1 : Good wq s) : Good wq (referenceFault n s) := by
  unfold referenceFault
  exact good_ite (State.blockFault_good (State.setFld_good h1)) h1

theorem referenceReady_good {wq : Keep} {n : Nat} {s : State} (h1 : Good wq s) : Good wq (referenceReady n s) := by
  unfold referenceReady
  split
  · exact h1
  · extract_lets -useContext v0 v1
    clear_value v0
    have hv2 : Good wq v1 := State.setAdc_good (State.upTo_good h1)
    clear_value v1
    exact State.intSet_good (State.setFld_good hv2)

theorem resampleMap_good {wq : Keep} {u : Nat} {m : AMap} {broken : Bool} {s : State} (h3 : Good wq s) :
    Good wq (resampleMap u m broken s) := by
  unfold resampleMap
  refine good_ite h3 ?_
  extract_lets -useContext v0
  have hv1 : Good wq v0 := good_ite (markWheelLanes_good h3) h3
  clear_value v0
  refine good_foldl hv1 ?_
  intro z3 y4 hz2
  refine good_ite hz2 ?_
  extract_lets -useContext v5 v6
  clear_value v5
  have hv7 : Good wq v6 := State.setLane_good hz2
  clear_value v6
  split
  · exact hv7
  · extract_lets -useContext v8 v9 v10
    have hv11 : Good wq v8 := good_ite (closeLane_good hv7) hv7
    clear_value v8 v9 v10
    exact State.setLane_good hv11

theorem ringPut_good {wq : Keep} {n : Nat} {r : Nat} {rec : SampRec} {s : State} (h3 : Good wq s) : Good wq (ringPut n r rec s) := by
  unfold ringPut
  extract_lets -useContext v0 v1 v2 v3 v4 v5 v6 v7 v8 v9 v10 v11
  clear_value v0 v1 v2 v3 v4 v5 v6 v7
  have hv12 : Good wq v8 := State.ringStore_good h3
  clear_value v8
  have hv13 : Good wq v9 := State.setReg_good hv12
  clear_value v9
  have hv14 : Good wq v10 := by
    unfold v10
    refine good_ite hv13 ?_
    refine good_mk ?_ (fun hg => ?_) (fun hg => ?_) (fun hg => ?_) (fun hg => ?_) (fun hg => ?_) (fun hg => ?_) (fun hg => ?_)
    · exact hv13
    · exact hg.host
    · first | exact fun hm => Memory.setWord_wf (hg.smem hm) | exact fun hm => Memory.setWords_wf (hg.smem hm) | exact fun _ => rfl
    · exact hg.buf
    · exact hg.engs
    · exact hg.clus
    · exact hg.chans
    · exact hg.msgs
  clear_value v10 v11
  exact good_ite h3 (good_ite (State.intSet_good (State.addSat_good h3)) (State.bellIf_good hv14))

theorem rxFrame_good {wq : Keep} {c : Nat} {f : RxFrame} {s : State} (h2 : Good wq s) : Good wq (rxFrame c f s) := by
  unfold rxFrame
  extract_lets -useContext v0
  clear_value v0
  refine good_ite h2 ?_
  split
  · exact good_ite (good_foldl h2 (fun z2 y3 hz1 => sentInterval_good hz1)) h2
  · exact good_ite h2 (good_foldl h2 (fun z5 y6 hz4 => lineRun_good hz4))

theorem sMSGBNC_good {wq : Keep} {p : Nat} {s : State} (h1 : Good wq s) : Good wq (sMSGBNC p s) := by
  unfold sMSGBNC
  exact State.addSat_good h1

theorem settleLost_good {wq : Keep} {p : Nat} {s : State} (h1 : Good wq s) : Good wq (settleLost p s) := by
  unfold settleLost
  extract_lets -useContext v0 v1 v2 v3 v4
  clear_value v0
  have hv5 : Good wq v1 := State.unlist_good h1
  clear_value v1 v2 v3
  have hv6 : Good wq v4 := unspared_good hv5
  clear_value v4
  split
  · extract_lets -useContext v7
    have hv8 : Good wq v7 := good_ite (State.setPwm_good hv5) hv5
    clear_value v7
    exact oweRepair_good (takeover_good hv8)
  · exact good_ite (oweRepair_good hv6) hv6

theorem shiftTimeout_good {wq : Keep} {e : Nat} {s : State} (h1 : Good wq s) : Good wq (shiftTimeout e s) := by
  unfold shiftTimeout
  split
  · exact h1
  · extract_lets -useContext v0
    clear_value v0
    exact good_ite h1 (endShift_good (State.setUnit_good (State.upTo_good h1)))

theorem spiTurnAway_good {wq : Keep} {s : State} (h0 : Good wq s) : Good wq (spiTurnAway s) := by
  unfold spiTurnAway
  exact good_ite (State.intSet_good (State.addSat_good h0)) h0

theorem startDrain_good {wq : Keep} {s : State} (h0 : Good wq s) : Good wq (startDrain s) := by
  unfold startDrain
  extract_lets -useContext v0 v1 v2 v3
  clear_value v0
  have hv4 : Good wq v1 := good_ite h0 (State.intSet_good (State.addSat_good h0))
  clear_value v1 v2 v3
  exact good_upd hv4 (fun hg => hg.buf)

theorem supplyExcursion_good {wq : Keep} {mv : Nat} {s : State} (h1 : Good wq s) : Good wq (supplyExcursion mv s) := by
  unfold supplyExcursion
  refine good_ite h1 ?_
  extract_lets -useContext v0 v1 v2 v3 v4 v5 v6 v7 v8
  clear_value v0 v1 v2 v3
  have hv9 : Good wq v4 := State.setFld_good h1
  clear_value v4 v5
  have hv10 : Good wq v6 := State.addSat_good (State.setFld_good hv9)
  clear_value v6
  have hv11 : Good wq v7 := State.intSet_good hv10
  clear_value v7 v8
  exact good_ite hv9 (good_upd hv11 (fun hg => hg.buf))

theorem synSegmentEnd_good {wq : Keep} {u : Nat} {s : State} (h1 : Good wq s) : Good wq (synSegmentEnd u s) := by
  unfold synSegmentEnd
  extract_lets -useContext v0 v1 v2 v3 v4 v5
  clear_value v0 v1
  have hv6 : Good wq v2 := State.upTo_good h1
  clear_value v2 v3 v4 v5
  exact good_ite h1 (good_ite (State.setFld_good (State.setWheel_good hv6)) (good_ite (State.setFld_good (State.setWheel_good hv6))
      (State.intSet_good (State.setFld_good (State.setWheel_good hv6)))))

theorem syncLoad_good {wq : Keep} {m : Nat} {s : State} (h1 : Good wq s) : Good wq (syncLoad m s) := by
  unfold syncLoad
  refine good_ite h1 ?_
  split
  · exact h1
  · extract_lets -useContext v0 v1 v2 v3
    clear_value v0 v1
    have hv4 : Good wq v2 := State.setPwm_good (State.upTo_good h1)
    clear_value v2 v3
    refine good_ite (periodStart_good (State.setReg_good hv4)) ?_
    refine pwmUpdate_good ?_ hv4
    intro w5 hw6
    extract_lets -useContext v7 v8
    clear_value v7 v8
    exact State.setPwm_good hw6

theorem syncTimeout_good {wq : Keep} {n : Nat} {s : State} (h1 : Good wq s) : Good wq (syncTimeout n s) := by
  unfold syncTimeout
  split
  · exact h1
  · exact State.setSynced_good (State.upTo_good h1)

theorem tapDenied_good {wq : Keep} {op : Nat} {bar2 : Bool} {a : Nat} {w : Word} {s : State} (h4 : Good wq s) :
    Good wq (tapDenied op bar2 a w s) := by
  unfold tapDenied
  exact State.tapDone_good (State.addSat_good h4)

theorem tapDenyRead_good {wq : Keep} {bar2 : Bool} {a : Nat} {s : State} (h2 : Good wq s) : Good wq (tapDenyRead bar2 a s) := by
  unfold tapDenyRead
  split
  rename_i a0 t1 heq2
  have hm3 : Good wq t1 := by
    exact good_snd_eq heq2 (State.drawn_good h2)
  exact tapDenied_good hm3

theorem tapRefuse_good {wq : Keep} {s : State} (h0 : Good wq s) : Good wq (tapRefuse s) := by
  unfold tapRefuse
  exact State.addSat_good (good_upd h0 (fun hg => hg.buf))

theorem tbSlew_good {wq : Keep} {s : State} (h0 : Good wq s) : Good wq (tbSlew s) := by
  unfold tbSlew
  extract_lets -useContext v0 v1 v2 v3
  clear_value v0
  have hv4 : Good wq v1 := State.upTo_good h0
  clear_value v1 v2
  have hv5 : Good wq v3 := good_upd hv4 (fun hg => hg.buf)
  clear_value v3
  exact good_ite (good_upd h0 (fun hg => hg.buf)) (good_ite h0 (good_ite hv5 (State.upTo_good hv5)))

theorem tdacSettled_good {wq : Keep} {s : State} (h0 : Good wq s) : Good wq (tdacSettled s) := by
  unfold tdacSettled
  split
  · exact h0
  · extract_lets -useContext v0 v1
    have hv2 : Good wq v0 := State.setFld_good (State.upTo_good h0)
    clear_value v0 v1
    exact good_upd hv2 (fun hg => hg.buf)

theorem tickGuard_good {wq : Keep} {s : State} (h0 : Good wq s) : Good wq (tickGuard s) := by
  unfold tickGuard
  extract_lets -useContext v0 v1 v2
  have hv3 : Good wq v0 := State.upTo_good h0
  clear_value v0 v1
  have hv4 : Good wq v2 := good_upd hv3 (fun hg => hg.buf)
  clear_value v2
  exact good_ite (good_foldl hv4 (fun z6 y7 hz5 => good_ite (overrun_good hz5) hz5)) hv4

theorem trigLost_good {wq : Keep} {n : Nat} {i : Nat} {s : State} (h2 : Good wq s) : Good wq (trigLost n i s) := by
  unfold trigLost
  exact State.intSet_good (State.addSat_good h2)

theorem trigger_good {wq : Keep} {n : Nat} {i : Nat} {s : State} (h2 : Good wq s) : Good wq (trigger n i s) := by
  unfold trigger
  extract_lets -useContext v0 v1 v2 v3 v4 v5 v6 v7
  clear_value v0 v1 v2 v3
  have hv8 : Good wq v4 := State.setAdc_good (State.upTo_good h2)
  clear_value v4 v5 v6 v7
  exact good_ite hv8 (good_ite (good_ite (State.intSet_good (State.addSat_good hv8)) (addUrgent_good hv8)) (good_ite (State.setAdc_good
      hv8) (good_ite (trigLost_good hv8) (State.setAdc_good hv8))))

theorem twinSearch_good {wq : Keep} {u : Nat} {s : State} (h1 : Good wq s) : Good wq (twinSearch u s) := by
  unfold twinSearch
  split
  · exact good_upd h1 (fun hg => hg.buf)
  · exact closeWheelLanes_good h1

theorem txBit_good {wq : Keep} {c : Nat} {s : State} (h1 : Good wq s) : Good wq (txBit c s) := by
  unfold txBit
  extract_lets -useContext v0 v1
  clear_value v0
  have hv2 : Good wq v1 := good_ite (State.upTo_good h1) h1
  clear_value v1
  refine good_ite h1 ?_
  split
  · exact State.setUnit_good hv2
  · split
    · extract_lets -useContext v3
      have hv4 : Good wq v3 := State.setUnit_good hv2
      clear_value v3
      exact State.wakeLevels_good (serveStalls_good hv4)
    · exact good_ite (State.setUnit_good hv2) hv2

theorem wheelOff_good {wq : Keep} {u : Nat} {s : State} (h1 : Good wq s) : Good wq (wheelOff u s) := by
  unfold wheelOff
  extract_lets -useContext v0 v1 v2
  have hv3 : Good wq v0 := closeWheelLanes_good h1
  clear_value v0
  have hv4 : Good wq v1 := State.mapsOff_good hv3
  clear_value v1 v2
  exact State.setWheel_good hv4

theorem winReject_good {wq : Keep} {s : State} (h0 : Good wq s) : Good wq (winReject s) := by
  unfold winReject
  exact State.intSet_good (State.addSat_good h0)

theorem windowWrite_good {wq : Keep} {off : Nat} {data : List Byte} {s : State} (h2 : Good wq s) : Good wq (windowWrite off data s) := by
  unfold windowWrite
  extract_lets -useContext v0 v1 v2 v3 v4
  clear_value v0 v1 v2 v3 v4
  refine good_ite (bar2Reject_good h2) ?_
  refine good_ite (winReject_good h2) ?_
  refine good_ite (good_upd h2 (fun hg => hg.buf)) ?_
  split
  rename_i a5 t6 heq7
  have hm8 : Good wq t6 := by
    exact good_snd_eq heq7 (stagedWord_good h2)
  exact State.markWritten_good (State.putBank_good hm8)

theorem writeIu_good {wq : Keep} {p : Nat} {o : Nat} {w : Word} {s : State} (h3 : Good wq s) : Good wq (writeIu p o w s) := by
  unfold writeIu
  extract_lets -useContext v0 v1
  have hv2 : Good wq v0 := plainWrite_good h3
  clear_value v0 v1
  exact good_ite (pendDo_good h3) (good_ite (State.settle_good hv2) (good_ite hv2 (good_ite (settleIdle_good (State.settle_good hv2))
      (good_ite (eoiDo_good h3) (good_ite (good_ite (tidleDo_good h3) h3) (good_ite (qheadDo_good h3) (good_ite (countBell_good h3)
      (good_ite (cntdecDo_good h3) (good_ite (good_upd h3 (fun hg => hg.buf)) hv2)))))))))

theorem writeQueue_good {wq : Keep} {t : Nat} {s : State} (h1 : Good wq s) : Good wq (writeQueue t s) := by
  unfold writeQueue
  extract_lets -useContext v0 v1 v2
  clear_value v0 v1
  have hv3 : Good wq v2 := State.dma_good h1
  clear_value v2
  refine good_ite h1 ?_
  split
  · exact h1
  · extract_lets -useContext v4 v5 v6 v7 v8 v9 v10
    clear_value v4
    have hv11 : Good wq v5 := State.dma_good hv3
    clear_value v5 v6
    have hv12 : Good wq v7 := State.settleSrc_good (State.setIsrc_good hv11)
    clear_value v7 v8
    have hv13 : Good wq v9 := State.setItgt_good hv12
    clear_value v9
    have hv14 : Good wq v10 := good_ite (State.startGroup_good hv13) hv13
    clear_value v10
    exact good_ite (State.intSet_good hv14) hv14

theorem State.drainCoal_good {wq : Keep} {s : State} {x : Nat} (h0 : Good wq s) : Good wq (s.drainCoal x) := by
  induction x generalizing s with
  | zero => exact h0
  | succ n ih =>
    unfold State.drainCoal
    split
    · exact h0
    · refine good_ite ?_ h0
      refine ih (State.writeAlarm_good ?_)
      exact good_upd h0 (fun hg => hg.buf)

theorem State.emitLosses_good {wq : Keep} {s : State} {x : List Nat} (h0 : Good wq s) : Good wq (s.emitLosses x) := by
  induction x generalizing s with
  | nil => exact h0
  | cons i t ih =>
    unfold State.emitLosses
    refine good_ite (ih h0) (ih ?_)
    have h1 := State.writeLoss_good (origin := (s.sumEntry i).origin) (kind := (s.sumEntry i).kind)
      (word6 := if (s.sumEntry i).item then 4 else (s.sumEntry i).cls) (count := (s.sumEntry i).count) (first := (s.sumEntry i).first)
      (last := (s.sumEntry i).last) h0
    exact good_upd h1 (fun hg => hg.buf)

theorem State.freeAll_good {wq : Keep} {s : State} {r : WheyRing} (h0 : Good wq s) : Good wq (State.freeAll s r) := by
  unfold State.freeAll
  exact State.freeRing_good h0

theorem State.hand_good {wq : Keep} {s : State} {block : Nat} {r : WRec} (h0 : Good wq s) : Good wq (State.hand s block r) := by
  unfold State.hand
  extract_lets -useContext v0 v1
  clear_value v0
  exact good_ite (good_upd h0 (fun hg => by first | exact hg.buf | exact fun _ => rfl)) (State.lose_good h0)

theorem State.jump_good {wq : Keep} {j : Nat} {v : Nat} {s : State} (h2 : Good wq s) : Good wq (State.jump j v s) := by
  unfold State.jump
  extract_lets -useContext v0 v1
  have hv2 : Good wq v0 := regrid_good (State.upTo_good (State.jumpedOver_good (State.later_good h2)))
  clear_value v0 v1
  exact good_upd hv2 (fun hg => hg.buf)

theorem State.log_good {wq : Keep} {s : State} {block : Nat} {origin : Nat} {kind : Nat} {tb : Nat} {body : List Word} (h0 : Good wq s) :
    Good wq (State.log s block origin kind tb body) := by
  unfold State.log
  exact State.hand_good h0

theorem State.msix_good {wq : Keep} {s : State} {v : Nat} (h0 : Good wq s) : Good wq (State.msix s v) := by
  unfold State.msix
  extract_lets -useContext v0
  clear_value v0
  exact good_ite (State.setMsix_good h0) (State.sendMsix_good h0)

theorem State.oweHost_good {wq : Keep} {s : State} {o : HostOwed} (h0 : Good wq s) : Good wq (State.oweHost s o) := by
  unfold State.oweHost
  refine good_ite ?_ (good_upd h0 (fun hg => hg.buf))
  split
  · exact State.dma_good h0
  · exact State.writeRecord_good h0

theorem State.payHost_good {wq : Keep} {s : State} (h0 : Good wq s) : Good wq (State.payHost s) := by
  unfold State.payHost
  exact good_ite (good_foldl (good_upd h0 (fun hg => hg.buf)) (fun z1 y2 hz0 => State.oweHost_good hz0)) h0

theorem State.payOwed_good {wq : Keep} {s : State} (h0 : Good wq s) : Good wq (State.payOwed s) := by
  unfold State.payOwed
  split
  · exact h0
  · exact State.writeLoss_good (good_upd h0 (fun hg => hg.buf))

theorem State.putRecord_good {wq : Keep} {s : State} {w0 : Nat} {w1 : Nat} {tb : Nat} {res : List Word} (h0 : Good wq s) :
    Good wq (State.putRecord s w0 w1 tb res) := by
  unfold State.putRecord
  exact State.oweHost_good h0

theorem State.record_good {wq : Keep} {s : State} {code : Nat} {q : Req} {part : Bool} {e : Ended} (h0 : Good wq s) :
    Good wq (State.record s code q part e) := by
  unfold State.record
  exact State.putRecord_good h0

theorem State.reject_good {wq : Keep} {s : State} {code : Nat} {q : Req} {err : Nat} (h0 : Good wq s) :
    Good wq (State.reject s code q err) := by
  unfold State.reject
  extract_lets -useContext v0
  have hv1 : Good wq v0 := State.markReject_good h0
  clear_value v0
  exact good_ite (State.record_good hv1) hv1

theorem State.sendFrom_good {wq : Keep} {s : State} {n : Nat} {r : WheyRing} {recs : List RingRec} {bytes : Nat} (h0 : Good wq s) :
    Good wq (State.sendFrom s n r recs bytes) := by
  unfold State.sendFrom
  extract_lets -useContext v0 v1 v2 v3 v4 v5 v6
  clear_value v0 v1 v2 v3 v4 v5 v6
  split
  rename_i a7 t8 heq9
  have hm10 : Good wq t8 := by
    exact good_snd_eq heq9 (State.drawn_good (State.markWaiting_good h0))
  extract_lets -useContext v11 v12 v13 v14 v15
  clear_value v11
  have hv16 : Good wq v12 := State.setEth_good hm10
  clear_value v12
  have hv17 : Good wq v13 := State.setReg_good hv16
  clear_value v13 v14
  have hv18 : Good wq v15 := State.freeAll_good (State.setWring_good hv17)
  clear_value v15
  exact State.drainCoal_good hv18

theorem State.signal_good {wq : Keep} {s : State} {t : Nat} (h0 : Good wq s) : Good wq (State.signal s t) := by
  unfold State.signal
  extract_lets -useContext v0
  clear_value v0
  exact good_ite (State.msix_good h0) h0

theorem State.slot_good {wq : Keep} {s : State} {e : Nat} {x : Bool} {holds : WordSt → Bool} {k : WordSt → State → State} (h0 : Good wq s)
    (h4 : ∀ w1 w2, Good wq w2 → Good wq (k w1 w2)) :
    Good wq (State.slot s e x holds k) := by
  unfold State.slot
  refine good_ite h0 ?_
  split
  · exact h0
  · refine good_ite h0 ?_
    split
    · exact machineCheck_good h0
    · extract_lets -useContext v3 v4
      have hv5 : Eng.Ok wq v4 := (h0.eng _)
      clear_value v3 v4
      exact h4 _ _ (State.setEng_good h0 (fun hg => hv5.keep rfl rfl))

theorem State.takeAlarm_good {wq : Keep} {s : State} {a : WRec} (h0 : Good wq s) : Good wq (State.takeAlarm s a) := by
  unfold State.takeAlarm
  extract_lets -useContext v0 v1 v2
  have hv3 : Good wq v1 := good_upd h0 (fun hg => by first | exact hg.buf | exact fun _ => rfl)
  clear_value v1
  refine good_ite (State.writeAlarm_good hv3) ?_
  split
  · exact h0
  · extract_lets -useContext v4
    have hv5 : Good wq v4 := good_upd hv3 (fun hg => by first | exact hg.buf | exact fun _ => rfl)
    clear_value v4
    exact State.intSet_good (State.addSat_good (State.bell_good hv5))

theorem State.trace_good {wq : Keep} {s : State} {block : Nat} {origin : Nat} {kind : Nat} {tb : Nat} {wheel : Nat} {body : List Word} (h0
    : Good wq s) :
    Good wq (State.trace s block origin kind tb wheel body) := by
  unfold State.trace
  exact State.hand_good h0

theorem aOp_good {wq : Keep} {e : Nat} {code : Nat} {f : AFields} {op : WordSt → ARes} {s : State} (h4 : Good wq s) :
    Good wq (aOp e code f op s) := by
  unfold aOp
  refine State.slot_good h4 ?_
  intro w1 w2 hw3
  extract_lets -useContext v4 v5 v6 v7
  clear_value v4
  have hv8 : Good wq v5 := State.setRegs_good hw3
  have hv9 : Eng.Ok wq v6 := (hv8.eng _)
  clear_value v5 v6 v7
  exact good_ite (State.setEng_good hv8 (fun hg => hv9.keep rfl rfl)) hv8

theorem aProduct_good {wq : Keep} {e : Nat} {code : Nat} {f : AFields} {op : WordSt → BitVec 64} {s : State} (h4 : Good wq s) :
    Good wq (aProduct e code f op s) := by
  unfold aProduct
  exact aOp_good h4

theorem aShift_good {wq : Keep} {e : Nat} {code : Nat} {f : AFields} {left : Bool} {op : Word → Nat → Word} {s : State} (h5 : Good wq s) :
    Good wq (aShift e code f left op s) := by
  unfold aShift
  exact aOp_good h5

theorem aValue_good {wq : Keep} {e : Nat} {code : Nat} {f : AFields} {val : WordSt → Word} {s : State} (h4 : Good wq s) :
    Good wq (aValue e code f val s) := by
  unfold aValue
  exact aOp_good h4

theorem abortShift_good {wq : Keep} {e : Nat} {s : State} (h1 : Good wq s) : Good wq (abortShift e s) := by
  unfold abortShift
  split
  · exact h1
  · extract_lets -useContext v0 v1 v2 v3
    clear_value v0 v1
    have hv4 : Good wq v2 := State.log_good h1
    clear_value v2
    have hv5 : Good wq v3 := State.intSet_good (State.setUnit_good hv4)
    clear_value v3
    exact State.wakeLevels_good (endShift_good hv5)

theorem bar2Fetch_good {wq : Keep} {off : Nat} {len : Nat} {s : State} (h2 : Good wq s) : Good wq (bar2Fetch off len s).2 := by
  unfold bar2Fetch
  extract_lets -useContext v0 v1
  clear_value v0 v1
  exact good_pair (good_ite (bar2Reject_good h2) h2)

theorem bar2Read_good {wq : Keep} {off : Nat} {len : Nat} {s : State} (h2 : Good wq s) : Good wq (bar2Read off len s) := by
  unfold bar2Read
  refine good_ite (State.pcieClosed_good h2) ?_
  refine good_ite h2 ?_
  extract_lets -useContext v0 v1 v2
  have hv3 : Good wq v0.2 := bar2Fetch_good h2
  clear_value v0
  have hv4 : Good wq v1 := hv3
  clear_value v1 v2
  exact good_upd hv4 (fun hg => hg.buf)

theorem bar2Take_good {wq : Keep} {off : Nat} {data : List Byte} {s : State} (h2 : Good wq s) : Good wq (bar2Take off data s) := by
  unfold bar2Take
  exact good_ite (windowWrite_good h2) (bar2Reject_good h2)

theorem bootAt_good {wq : Keep} {warm : Bool} {t0 cause : Nat} {s : State} (h0 : Good wq s) : Good wq (bootAt warm t0 cause s) := by
  unfold bootAt
  extract_lets old n w n1 n2 n3 n4 n5 n6 n7
  have hc : ∀ (l m : Store Chan), (∀ e ∈ m, e.2.Ok wq) →
      ∀ e ∈ l.foldl (fun (c : Store Chan) (e : Nat × Chan) => c.set {} e.1 { inLvl := e.2.inLvl }) m, e.2.Ok wq := by
    intro l
    induction l with
    | nil => exact fun _ h => h
    | cons y t ih => exact fun m h => ih _ (Store.all_set h ⟨fun _ => by simp, fun _ => by simp⟩)
  have h1 : Good wq n1 := ⟨h0.queue, h0.host, fun _ => rfl, fun _ => by simp only [n1, w]; split <;> rfl, by simp [n1, n], by simp [n1, n],
    hc _ _ (by simp), fun _ => by simp [n1, n]⟩
  have h2 : Good wq n2 := good_foldl h1 (fun _ _ h => State.setReg_good h)
  have h3 : Good wq n3 := State.rindCrc_good (State.setFld_good h2)
  have h4 : Good wq n4 := State.setReg64_good (State.setReg_good h3)
  have h5 : Good wq n5 := State.setReg_good h4
  have h6 : Good wq n6 := State.setReg_good h5
  have h7 : Good wq n7 := good_foldl h6 (fun _ _ h => State.setFld_good h)
  exact State.log_good (State.intSet_good h7)

theorem bounce_good {wq : Keep} {m : Msg} {code : Nat} {s : State} (h2 : Good wq s) : Good wq (bounce m code s) := by
  unfold bounce
  split
  rename_i a0 t1 heq2
  have hm3 : Good wq t1 := by
    exact good_snd_eq heq2 (bounceEpoch_good h2)
  extract_lets -useContext v4 v5 v6
  clear_value v4 v5 v6
  refine good_ite (bounceLocal_good hm3) ?_
  split
  · exact State.idxSend_good hm3
  · exact State.lose_good hm3

theorem bounceLoad_good {wq : Keep} {p : Nat} {l : Payload} {s : State} (h2 : Good wq s) : Good wq (bounceLoad p l s) := by
  unfold bounceLoad
  split
  · exact bounce_good (sMSGBNC_good h2)
  · exact h2

theorem brownOut_good {wq : Keep} {mv : Nat} {s : State} (h1 : Good wq s) : Good wq (brownOut mv s) := by
  unfold brownOut
  refine good_ite h1 ?_
  refine good_ite (good_ite (good_upd h1 (fun hg => hg.buf)) h1) ?_
  extract_lets -useContext v0 v1 v2 v3 v4
  clear_value v0
  have hv5 : Good wq v1 := bootAt_good h1
  clear_value v1 v2 v3
  have hv6 : Good wq v4 := State.setFld_good hv5
  clear_value v4
  exact good_upd hv6 (fun hg => hg.buf)

theorem cancelCluster_good {wq : Keep} {c : Nat} {s : State} (h1 : Good wq s) : Good wq (cancelCluster c s) := by
  unfold cancelCluster
  extract_lets -useContext v0
  have hv1 : Good wq v0 := good_foldl h1 (fun z3 y4 hz2 => freeEngine_good (abortShift_good hz2))
  clear_value v0
  exact good_foldl hv1 (fun z6 y7 hz5 => good_ite hz5 (endTask_good hz5))

theorem cancelTask_good {wq : Keep} {c : Nat} {t : Nat} {s : State} (h2 : Good wq s) : Good wq (cancelTask c t s) := by
  unfold cancelTask
  extract_lets -useContext v0 v1 v2
  clear_value v0
  have hv3 : Good wq v1 := by
    unfold v1
    split
    · exact abortShift_good h2
    · exact h2
  clear_value v1 v2
  refine good_ite (State.setTask_good h2) ?_
  refine good_ite ?_ (good_ite (State.setTask_good hv3) (endTask_good h2))
  split
  · exact good_ite (freeEngine_good (endTask_good (State.setTask_good h2))) (State.setTask_good h2)
  · exact State.setTask_good h2

theorem capture_good {wq : Keep} {c : Nat} {t : Nat} {pol : Bool} {s : State} (h3 : Good wq s) : Good wq (capture c t pol s) := by
  unfold capture
  refine good_ite h3 ?_
  extract_lets -useContext v0 v1 v2 v3 v4 v5 v6
  have hv7 : Good wq v0 := State.upTo_good h3
  have hv8 : Chan.Ok wq v1 := hv7.chan _
  clear_value v0 v1
  have hv9 : Good wq v2 := State.setChan_good hv7 (fun hg => hv8.keep rfl rfl)
  clear_value v2 v3 v4
  have hv10 : Good wq v5 := good_ite (State.trace_good hv9) hv9
  have hv11 : Chan.Ok wq v6 := hv10.chan _
  clear_value v5 v6
  refine good_ite hv9 ?_
  split
  · rename_i hl
    exact State.occur_good (State.chStat_good (State.setChan_good hv10 (fun _ => ⟨hv11.compare, fun _ => by
      simp only [List.length_append, List.length_singleton]; omega⟩)))
  · exact State.chStat_good (State.addSat_good hv10)

theorem closeAllLanes_good {wq : Keep} {s : State} (h0 : Good wq s) : Good wq (closeAllLanes s) := by
  unfold closeAllLanes
  exact good_foldl h0 (fun z1 y2 hz0 => closeLane_good hz0)

theorem committedLane_good {wq : Keep} {old : State} {l : Nat} {s : State} (h0 : Good wq old) (h2 : Good wq s) :
    Good wq (committedLane old l s) := by
  unfold committedLane
  extract_lets -useContext v0 v1 v2 v3
  clear_value v0 v1 v2 v3
  exact laneChanged_good h2

theorem configWrite_good {wq : Keep} {w : CfgWrite} {s : State} (h1 : Good wq s) : Good wq (configWrite w s) := by
  unfold configWrite
  exact good_ite (msixReleaseAll_good (State.payHost_good (putPcieCfg_good h1))) h1

theorem cutCheck_good {wq : Keep} {m : Nat} {s : State} (h1 : Good wq s) : Good wq (cutCheck m s) := by
  unfold cutCheck
  refine good_ite h1 ?_
  extract_lets -useContext v0
  clear_value v0
  exact pwmUpdate_good (fun w1 hw2 => good_foldl hw2 (fun z4 y5 hz3 => good_ite (cutPair_good hz3) hz3)) h1

theorem cutChecks_good {wq : Keep} {s : State} (h0 : Good wq s) : Good wq (cutChecks s) := by
  unfold cutChecks
  exact good_foldl h0 (fun z1 y2 hz0 => cutCheck_good hz0)

theorem deliver_good {wq : Keep} {m : Msg} {s : State} (h1 : Good wq s) : Good wq (deliver m s) := by
  unfold deliver
  dsimp only
  split
  · exact bounce_good h1
  · refine good_ite (bounce_good (State.log_good h1)) ?_
    split
    · exact bounce_good h1
    · rename_i hl
      exact State.wakeLevels_good (State.setClu_good h1 (fun hg => ⟨(hg.clu _).mem, fun _ => by
        simp only [List.length_append, List.length_singleton]; omega, (hg.clu _).events, (hg.clu _).checks⟩))

theorem endShifts_good {wq : Keep} {c : Nat} {s : State} (h1 : Good wq s) : Good wq (endShifts c s) := by
  unfold endShifts
  refine good_foldl h1 ?_
  intro z1 y2 hz0
  extract_lets -useContext v3
  clear_value v3
  split
  · exact freeEngine_good (endTask_good (abortShift_good hz0))
  · exact hz0

theorem ethSend_good {wq : Keep} {n : Nat} {s : State} (h1 : Good wq s) : Good wq (ethSend n s) := by
  unfold ethSend
  extract_lets -useContext v0 v1
  clear_value v0 v1
  refine good_ite h1 ?_
  refine good_ite h1 ?_
  split
  · split
    · split
      · exact good_ite (State.sendFrom_good h1) (good_ite (State.sendFrom_good h1) (good_ite (State.sendFrom_good h1) (good_ite
            (State.freeAll_good (State.setWring_good h1)) h1)))

theorem execAnd_good {wq : Keep} {e : Fin 128} {f : AFields} {s : State} (hst : Good wq s) : ∃ wt, execAnd e f s = .next wt ∧ Good wq wt :=
  next_good rfl (aValue_good hst)

theorem execAuthLockoutExpiry_good {wq : Keep} {slot : Slot} {s : State} (hst : Good wq s) :
    ∃ wt, execAuthLockoutExpiry slot s = .next wt ∧ Good wq wt :=
  next_good rfl (lockExpiry_good hst)

theorem execBar2Read_good {wq : Keep} {off : BitVec 26} {len : Nat} {s : State} (hst : Good wq s) :
    ∃ wt, execBar2Read off len s = .next wt ∧ Good wq wt :=
  next_good rfl (bar2Read_good hst)

theorem execBfi_good {wq : Keep} {e : Fin 128} {f : AFields} {s : State} (hst : Good wq s) : ∃ wt, execBfi e f s = .next wt ∧ Good wq wt :=
  next_good rfl (aOp_good hst)

theorem execBfx_good {wq : Keep} {e : Fin 128} {f : AFields} {s : State} (hst : Good wq s) : ∃ wt, execBfx e f s = .next wt ∧ Good wq wt :=
  next_good rfl (aValue_good hst)

theorem execBrownOut_good {wq : Keep} {mv : Nat} {s : State} (hst : Good wq s) : ∃ wt, execBrownOut mv s = .next wt ∧ Good wq wt :=
  next_good rfl (brownOut_good hst)

theorem execBusMasterEnableWrite_good {wq : Keep} {w : CfgWrite} {s : State} (hst : Good wq s) :
    ∃ wt, execBusMasterEnableWrite w s = .next wt ∧ Good wq wt :=
  next_good rfl (configWrite_good hst)

theorem execCapture_good {wq : Keep} {c : Fin 160} {tb : Time} {pol : Bool} {s : State} (hst : Good wq s) :
    ∃ wt, execCapture c tb pol s = .next wt ∧ Good wq wt :=
  next_good rfl (capture_good hst)

theorem execClz_good {wq : Keep} {e : Fin 128} {f : AFields} {s : State} (hst : Good wq s) : ∃ wt, execClz e f s = .next wt ∧ Good wq wt :=
  next_good rfl (aValue_good hst)

theorem execControlStoreWindowWrite_good {wq : Keep} {off : BitVec 26} {data : List Byte} {s : State} (hst : Good wq s) :
    ∃ wt, execControlStoreWindowWrite off data s = .next wt ∧ Good wq wt :=
  next_good rfl (bar2Take_good hst)

theorem execEthFrameSend_good {wq : Keep} {n : Fin 2} {s : State} (hst : Good wq s) : ∃ wt, execEthFrameSend n s = .next wt ∧ Good wq wt :=
  next_good rfl (ethSend_good hst)

theorem execFence_good {wq : Keep} {e : Fin 128} {x : XFields} {s : State} (hst : Good wq s) :
    ∃ wt, execFence e x s = .next wt ∧ Good wq wt :=
  next_good rfl (State.slot_good hst (fun w0 w1 hw2 => hw2))

theorem execGroupHoldOffExpiry_good {wq : Keep} {g : Fin 64} {s : State} (hst : Good wq s) :
    ∃ wt, execGroupHoldOffExpiry g s = .next wt ∧ Good wq wt :=
  next_good rfl (groupExpiry_good hst)

theorem execHoldOffExpiry_good {wq : Keep} {t : Fin 4} {s : State} (hst : Good wq s) :
    ∃ wt, execHoldOffExpiry t s = .next wt ∧ Good wq wt :=
  next_good rfl (holdExpiry_good hst)

theorem execHottimeMinute_good {wq : Keep} {s : State} (hst : Good wq s) : ∃ wt, execHottimeMinute s = .next wt ∧ Good wq wt :=
  next_good rfl (hottimeMinute_good hst)

theorem execIdrd_good {wq : Keep} {e : Fin 128} {x : XFields} {s : State} (hst : Good wq s) :
    ∃ wt, execIdrd e x s = .next wt ∧ Good wq wt :=
  next_good rfl (State.slot_good hst (fun w0 w1 hw2 => State.setRegs_good hw2))

theorem execJunctionOvertemp_good {wq : Keep} {t : BitVec 16} {s : State} (hst : Good wq s) :
    ∃ wt, execJunctionOvertemp t s = .next wt ∧ Good wq wt :=
  next_good rfl (junctionOvertemp_good hst)

theorem execMatchReached_good {wq : Keep} {n : Fin 4} {s : State} (hst : Good wq s) : ∃ wt, execMatchReached n s = .next wt ∧ Good wq wt :=
  next_good rfl (matchReached_good hst)

theorem execMax_good {wq : Keep} {e : Fin 128} {f : AFields} {s : State} (hst : Good wq s) : ∃ wt, execMax e f s = .next wt ∧ Good wq wt :=
  next_good rfl (aValue_good hst)

theorem execMaxu_good {wq : Keep} {e : Fin 128} {f : AFields} {s : State} (hst : Good wq s) :
    ∃ wt, execMaxu e f s = .next wt ∧ Good wq wt :=
  next_good rfl (aValue_good hst)

theorem execMcRunlen_good {wq : Keep} {e : Fin 128} {s : State} (hst : Good wq s) : ∃ wt, execMcRunlen e s = .next wt ∧ Good wq wt :=
  next_good rfl (good_ite (machineCheck_good hst) hst)

theorem execMcWdog_good {wq : Keep} {e : Fin 128} {s : State} (hst : Good wq s) : ∃ wt, execMcWdog e s = .next wt ∧ Good wq wt :=
  next_good rfl (good_ite (machineCheck_good hst) hst)

theorem execMidPeriodPoint_good {wq : Keep} {m : Fin 10} {s : State} (hst : Good wq s) :
    ∃ wt, execMidPeriodPoint m s = .next wt ∧ Good wq wt :=
  next_good rfl (midPeriodPoint_good hst)

theorem execMin_good {wq : Keep} {e : Fin 128} {f : AFields} {s : State} (hst : Good wq s) : ∃ wt, execMin e f s = .next wt ∧ Good wq wt :=
  next_good rfl (aValue_good hst)

theorem execMinu_good {wq : Keep} {e : Fin 128} {f : AFields} {s : State} (hst : Good wq s) :
    ∃ wt, execMinu e f s = .next wt ∧ Good wq wt :=
  next_good rfl (aValue_good hst)

theorem execMov_good {wq : Keep} {e : Fin 128} {f : AFields} {s : State} (hst : Good wq s) : ∃ wt, execMov e f s = .next wt ∧ Good wq wt :=
  next_good rfl (aValue_good hst)

theorem execMull_good {wq : Keep} {e : Fin 128} {f : AFields} {s : State} (hst : Good wq s) :
    ∃ wt, execMull e f s = .next wt ∧ Good wq wt :=
  next_good rfl (aValue_good hst)

theorem execMuls_good {wq : Keep} {e : Fin 128} {f : AFields} {s : State} (hst : Good wq s) :
    ∃ wt, execMuls e f s = .next wt ∧ Good wq wt :=
  next_good rfl (aProduct_good hst)

theorem execMulu_good {wq : Keep} {e : Fin 128} {f : AFields} {s : State} (hst : Good wq s) :
    ∃ wt, execMulu e f s = .next wt ∧ Good wq wt :=
  next_good rfl (aProduct_good hst)

theorem execNot_good {wq : Keep} {e : Fin 128} {f : AFields} {s : State} (hst : Good wq s) : ∃ wt, execNot e f s = .next wt ∧ Good wq wt :=
  next_good rfl (aValue_good hst)

theorem execOr_good {wq : Keep} {e : Fin 128} {f : AFields} {s : State} (hst : Good wq s) : ∃ wt, execOr e f s = .next wt ∧ Good wq wt :=
  next_good rfl (aValue_good hst)

theorem execPauseFrame_good {wq : Keep} {n : Fin 2} {q : BitVec 16} {s : State} (hst : Good wq s) :
    ∃ wt, execPauseFrame n q s = .next wt ∧ Good wq wt :=
  next_good rfl (pauseFrame_good hst)

theorem execPcieLinkUp_good {wq : Keep} {speed : BitVec 3} {width : BitVec 4} {s : State} (hst : Good wq s) :
    ∃ wt, execPcieLinkUp speed width s = .next wt ∧ Good wq wt :=
  next_good rfl (pcieLinkUp_good hst)

theorem execPowerOnReset_good {wq : Keep} {s : State} (hst : Good wq s) : ∃ wt, execPowerOnReset s = .next wt ∧ Good wq wt :=
  next_good rfl (bootAt_good hst)

theorem execPulseEnd_good {wq : Keep} {c : Fin 160} {s : State} (hst : Good wq s) : ∃ wt, execPulseEnd c s = .next wt ∧ Good wq wt :=
  next_good rfl (pulseEnd_good hst)

theorem execQuadratureChange_good {wq : Keep} {u : Fin 8} {a : Bool} {b : Bool} {s : State} (hst : Good wq s) :
    ∃ wt, execQuadratureChange u a b s = .next wt ∧ Good wq wt :=
  next_good rfl (quadChange_good hst)

theorem execQueueRecordWrite_good {wq : Keep} {t : Fin 4} {s : State} (hst : Good wq s) :
    ∃ wt, execQueueRecordWrite t s = .next wt ∧ Good wq wt :=
  next_good rfl (writeQueue_good hst)

theorem execReferenceFall_good {wq : Keep} {m : Fin 10} {c : Fin 8} {s : State} (hst : Good wq s) :
    ∃ wt, execReferenceFall m c s = .next wt ∧ Good wq wt :=
  next_good rfl (referenceFall_good hst)

theorem execReferenceReady_good {wq : Keep} {n : Fin 5} {s : State} (hst : Good wq s) :
    ∃ wt, execReferenceReady n s = .next wt ∧ Good wq wt :=
  next_good rfl (referenceReady_good hst)

theorem execRor_good {wq : Keep} {e : Fin 128} {f : AFields} {s : State} (hst : Good wq s) : ∃ wt, execRor e f s = .next wt ∧ Good wq wt :=
  next_good rfl (aShift_good hst)

theorem execSar_good {wq : Keep} {e : Fin 128} {f : AFields} {s : State} (hst : Good wq s) : ∃ wt, execSar e f s = .next wt ∧ Good wq wt :=
  next_good rfl (aShift_good hst)

theorem execShiftRxFrame_good {wq : Keep} {c : Fin 160} {f : RxFrame} {s : State} (hst : Good wq s) :
    ∃ wt, execShiftRxFrame c f s = .next wt ∧ Good wq wt :=
  next_good rfl (rxFrame_good hst)

theorem execShiftTimeout_good {wq : Keep} {e : Fin 128} {s : State} (hst : Good wq s) :
    ∃ wt, execShiftTimeout e s = .next wt ∧ Good wq wt :=
  next_good rfl (shiftTimeout_good hst)

theorem execShiftTxBit_good {wq : Keep} {c : Fin 160} {s : State} (hst : Good wq s) : ∃ wt, execShiftTxBit c s = .next wt ∧ Good wq wt :=
  next_good rfl (txBit_good hst)

theorem execShl_good {wq : Keep} {e : Fin 128} {f : AFields} {s : State} (hst : Good wq s) : ∃ wt, execShl e f s = .next wt ∧ Good wq wt :=
  next_good rfl (aShift_good hst)

theorem execShr_good {wq : Keep} {e : Fin 128} {f : AFields} {s : State} (hst : Good wq s) : ∃ wt, execShr e f s = .next wt ∧ Good wq wt :=
  next_good rfl (aShift_good hst)

theorem execStl_good {wq : Keep} {e : Fin 128} {x : XFields} {s : State} (hst : Good wq s) :
    ∃ wt, execStl e x s = .next wt ∧ Good wq wt := by
  refine next_good rfl ?_
  refine State.slot_good hst ?_
  intro w0 w1 hw2
  extract_lets -useContext v3
  clear_value v3
  exact State.putLocal_good hw2

theorem execStq_good {wq : Keep} {e : Fin 128} {x : XFields} {s : State} (hst : Good wq s) : ∃ wt, execStq e x s = .next wt ∧ Good wq wt :=
  next_good rfl (State.slot_good hst (fun w0 w1 hw2 => State.putLocal_good hw2))

theorem execSupplyExcursion_good {wq : Keep} {mv : Nat} {s : State} (hst : Good wq s) :
    ∃ wt, execSupplyExcursion mv s = .next wt ∧ Good wq wt :=
  next_good rfl (supplyExcursion_good hst)

theorem execSynSegmentEnd_good {wq : Keep} {u : Fin 8} {s : State} (hst : Good wq s) :
    ∃ wt, execSynSegmentEnd u s = .next wt ∧ Good wq wt :=
  next_good rfl (synSegmentEnd_good hst)

theorem execSyncLoad_good {wq : Keep} {m : Fin 10} {s : State} (hst : Good wq s) : ∃ wt, execSyncLoad m s = .next wt ∧ Good wq wt :=
  next_good rfl (syncLoad_good hst)

theorem execSyncTimeout_good {wq : Keep} {n : Fin 2} {s : State} (hst : Good wq s) : ∃ wt, execSyncTimeout n s = .next wt ∧ Good wq wt :=
  next_good rfl (syncTimeout_good hst)

theorem execTbSlew_good {wq : Keep} {s : State} (hst : Good wq s) : ∃ wt, execTbSlew s = .next wt ∧ Good wq wt :=
  next_good rfl (tbSlew_good hst)

theorem execTbrd_good {wq : Keep} {e : Fin 128} {x : XFields} {s : State} (hst : Good wq s) :
    ∃ wt, execTbrd e x s = .next wt ∧ Good wq wt :=
  next_good rfl (State.slot_good hst (fun w0 w1 hw2 => State.setRegs_good hw2))

theorem execTdacSettled_good {wq : Keep} {s : State} (hst : Good wq s) : ∃ wt, execTdacSettled s = .next wt ∧ Good wq wt :=
  next_good rfl (tdacSettled_good hst)

theorem execTickGuard_good {wq : Keep} {s : State} (hst : Good wq s) : ∃ wt, execTickGuard s = .next wt ∧ Good wq wt :=
  next_good rfl (tickGuard_good hst)

theorem execTrigger_good {wq : Keep} {n : Fin 5} {i : Fin 4} {s : State} (hst : Good wq s) :
    ∃ wt, execTrigger n i s = .next wt ∧ Good wq wt :=
  next_good rfl (trigger_good hst)

theorem execTst_good {wq : Keep} {e : Fin 128} {f : AFields} {s : State} (hst : Good wq s) : ∃ wt, execTst e f s = .next wt ∧ Good wq wt :=
  next_good rfl (aOp_good hst)

theorem execXor_good {wq : Keep} {e : Fin 128} {f : AFields} {s : State} (hst : Good wq s) : ∃ wt, execXor e f s = .next wt ∧ Good wq wt :=
  next_good rfl (aValue_good hst)

theorem flushTimeout_good {wq : Keep} {n : Nat} {s : State} (h1 : Good wq s) : Good wq (flushTimeout n s) := by
  unfold flushTimeout
  split
  · exact ethSend_good (State.upTo_good h1)
  · exact h1

theorem functionUnmask_good {wq : Keep} {s : State} (h0 : Good wq s) : Good wq (functionUnmask s) := by
  unfold functionUnmask
  exact msixReleaseAll_good (putPcieCfg_good h0)

theorem groupCommit_good {wq : Keep} {q : Req} {part : Bool} {s : State} (h2 : Good wq s) : Good wq (groupCommit q part s) := by
  unfold groupCommit
  extract_lets -useContext v0 v1
  clear_value v0
  have hv2 : Good wq v1 := State.markReject_good h2
  clear_value v1
  exact good_ite (startGroup_good h2) (good_ite (State.record_good hv2) hv2)

theorem halt_good {wq : Keep}  {rq : Req} {z : State}  (h : Good wq z) : Good wq (halt.run rq z) := by
  unfold halt
  exact modeCmd_good (fun w0 hw0 => logHalt_good hw0) h

theorem haltReq_good {wq : Keep}  {rq : Req} {z : State}  (h : Good wq z) : Good wq (haltReq.run rq z) := by
  unfold haltReq
  exact modeCmd_good (fun w0 hw0 => logHalt_good hw0) h

theorem hostEventCompletion_good {wq : Keep} {s : State} (h0 : Good wq s) : Good wq (hostEventCompletion s) := by
  unfold hostEventCompletion
  refine good_ite h0 ?_
  split
  · extract_lets -useContext v0
    have hv1 : Good wq v0 := State.putRecord_good h0
    clear_value v0
    exact State.dropEv_good hv1
  · split
    · extract_lets -useContext v2 v3
      have hv4 : Good wq v2 := State.putRecord_good h0
      clear_value v2 v3
      exact good_upd hv4 (fun hg => hg.buf)
    · exact good_upd h0 (fun hg => hg.buf)
    · exact h0

theorem hostPost_good {wq : Keep} {port : Nat} {w3 : Word} {s : State} (h2 : Good wq s) : Good wq (hostPost port w3 s) := by
  unfold hostPost
  extract_lets -useContext v0 v1 v2 v3
  clear_value v0
  have hv4 : Good wq v1 := State.intSet_good (State.addSat_good h2)
  clear_value v1
  have hv5 : Good wq v2 := State.trace_good hv4
  clear_value v2 v3
  exact good_ite (good_ite (good_upd hv5 (fun hg => hg.buf)) hv4) (enterEvent_good h2)

theorem importPublish_good {wq : Keep} {b : Nat} {s : State} (h1 : Good wq s) : Good wq (importPublish b s) := by
  unfold importPublish
  refine good_foldl h1 ?_
  intro z1 y2 hz0
  refine good_ite hz0 ?_
  split
  · refine good_ite ?_ ?_
    · extract_lets -useContext v3 v4 v5 v6 v7 v8 v9
      clear_value v3 v4
      have hv10 : Good wq v5 := State.setMap_good hz0
      clear_value v5 v6
      have hv11 : Good wq v7 := State.setWheel_good hv10
      clear_value v7
      have hv12 : Good wq v8 := showMap_good hv11
      clear_value v8
      have hv13 : Good wq v9 := good_ite (State.idxCast_good hv12) hv12
      clear_value v9
      exact resampleMap_good hv13
    · extract_lets -useContext v14 v15 v16
      have hv17 : Good wq v14 := State.setFld_good hz0
      clear_value v14 v15 v16
      exact State.setWheel_good (State.setMap_good hv17)
  · exact hz0

theorem linkDown_good {wq : Keep} {s : State} (h0 : Good wq s) : Good wq (linkDown s) := by
  unfold linkDown
  extract_lets -useContext v0 v1 v2 v3
  clear_value v0 v1
  have hv4 : Good wq v2 := good_upd h0 (fun hg => hg.buf)
  clear_value v2
  have hv5 : Good wq v3 := State.payHost_good (State.setReg_good hv4)
  clear_value v3
  exact good_ite (State.intSet_good hv5) hv5

theorem messageDelivery_good {wq : Keep} {s : State} (h0 : Good wq s) : Good wq (messageDelivery s) := by
  unfold messageDelivery
  split
  · exact h0
  · rename_i c m t hm
    extract_lets -useContext v0 v1
    have hv2 : Good wq v0 :=
      good_mk h0 (·.host) (·.smem) (·.buf) (·.engs) (·.clus) (·.chans) (fun hg b c hc => by
        refine Nat.le_trans ?_ (hg.msgs b c hc)
        rw [hm]
        exact List.Sublist.length_le (List.Sublist.filter _ (List.sublist_cons_self _ _)))
    clear_value v0 v1
    refine good_ite (deliver_good hv2) ?_
    split
    · exact State.idxSend_good hv2
    · exact bounce_good (good_ite (State.addSat_good hv2) hv2)

theorem mirrorFetch_good {wq : Keep} {e : Nat} {s : State} (h1 : Good wq s) : Good wq (mirrorFetch e s) := by
  unfold mirrorFetch
  extract_lets -useContext v0 v1 v2 v3 v4 v5
  have hv6 : Eng.Ok wq v1 := (h1.eng _)
  clear_value v0 v1
  have hv7 : Good wq v2 := State.log_good h1
  clear_value v2 v3
  have hv8 : Good wq v4 := good_ite (good_upd hv7 (fun hg => hg.buf)) (State.addSat_good hv7)
  have hv9 : Eng.Ok wq v5 := (hv8.eng _)
  clear_value v4 v5
  exact good_ite h1 (good_ite (State.setEng_good hv8 (fun hg => hv9.keep rfl rfl)) (machineCheck_good h1))

theorem moveRoleMap_good {wq : Keep} {c : Nat} {k : Nat} {r : Nat} {s : State} (h3 : Good wq s) : Good wq (moveRoleMap c k r s) := by
  unfold moveRoleMap
  exact good_ite (State.log_good (State.setRoleMap_good (State.setRoleMap_good h3))) h3

theorem msixMask_good {wq : Keep} {v : Nat} {on : Bool} {s : State} (h2 : Good wq s) : Good wq (msixMask v on s) := by
  unfold msixMask
  exact msixRelease_good (State.setMsix_good h2)

theorem msixPut_good {wq : Keep} {i : Nat} {w : Word} {s : State} (h2 : Good wq s) : Good wq (msixPut i w s) := by
  unfold msixPut
  exact good_ite (msixMask_good h2) (good_upd h2 (fun hg => hg.buf))

theorem msixUnmask_good {wq : Keep} {v : Nat} {s : State} (h1 : Good wq s) : Good wq (msixUnmask v s) := by
  unfold msixUnmask
  exact msixMask_good h1

theorem offer_good {wq : Keep} {code : Nat} {c : Cmd} {q : Req} {s : State} (h1 : ∀ r z, Good wq z → Good wq (c.run r z)) (h3 : Good wq s) :
    Good wq (offer code c q s).2 := by
  unfold offer
  extract_lets -useContext v0
  clear_value v0
  exact good_ite_snd (good_pair (h1 _ _ (State.accept_good h3))) (good_pair (State.reject_good h3))

theorem periodBoundary_good {wq : Keep} {m : Nat} {s : State} (h1 : Good wq s) : Good wq (periodBoundary m s) := by
  unfold periodBoundary
  refine good_ite h1 ?_
  extract_lets -useContext v0 v1 v2 v3
  clear_value v0 v1
  have hv4 : Good wq v2 := State.upTo_good h1
  clear_value v2
  have hv5 : Good wq v3 := State.setReg_good hv4
  clear_value v3
  exact good_ite (syncLoad_good h1) (periodStart_good hv5)

theorem periodCounterStep_good {wq : Keep} {c : Nat} {s : State} (h1 : Good wq s) : Good wq (periodCounterStep c s) := by
  unfold periodCounterStep
  extract_lets -useContext v0 v1 v2
  clear_value v0
  have hv3 : Good wq v1 := keepBlanks_good h1 (counterStep_good h1)
  clear_value v1
  have hv4 : Good wq v2 := good_ite (good_foldl hv3 (fun z6 y7 hz5 => good_ite (State.setPwm_good hz5) hz5)) hv3
  clear_value v2
  exact good_foldl hv4 (fun z9 y10 hz8 => good_ite (cutCheck_good hz8) hz8)

theorem present_good {wq : Keep} {t : Nat} {s : State} (h1 : Good wq s) : Good wq (present t s) := by
  unfold present
  extract_lets -useContext v0
  clear_value v0
  refine good_ite h1 ?_
  refine good_ite (good_ite h1 (State.signal_good (State.showTarget_good (State.setItgt_good h1)))) ?_
  refine good_ite h1 ?_
  split
  · exact h1
  · extract_lets -useContext v1 v2 v3 v4
    clear_value v1
    have hv5 : Good wq v2 := State.setIsrc_good h1
    clear_value v2
    have hv6 : Good wq v3 := State.showTarget_good (State.setItgt_good hv5)
    clear_value v3
    have hv7 : Good wq v4 := good_ite (State.startGroup_good hv6) hv6
    clear_value v4
    exact State.signal_good hv7

theorem presetJump_good {wq : Keep} {v : Nat} {s : State} (h1 : Good wq s) : Good wq (presetJump v s) := by
  unfold presetJump
  extract_lets -useContext v0
  clear_value v0
  exact State.log_good (State.jump_good h1)

theorem produceOne_good {wq : Keep} {l : Nat} {s t : State} (h0 : Good wq s) (he : produceOne l s = some t) : Good wq t := by
  unfold produceOne at he
  dsimp only at he
  split at he
  · cases he
  · split at he
    · split at he
      · cases he
      · split at he
        · cases he; exact endWindow_good (putCurd_good h0)
        · cases he; exact endWindow_good h0
    · split at he
      · cases he
      · cases he
        exact putCurd_good (good_ite (State.intSet_good (good_ite (State.intSet_good h0) h0)) (good_ite (State.intSet_good h0) h0))
theorem produce_good {wq : Keep} {l x : Nat} {s : State} (h0 : Good wq s) : Good wq (produce l x s) := by
  induction x generalizing s with
  | zero => exact h0
  | succ n ih =>
    unfold produce
    split
    · exact ih (produceOne_good h0 (by assumption))
    · exact h0

theorem publishWheel_good {wq : Keep} {u : Nat} {b : Nat} {e : Nat} {s : State} (h3 : Good wq s) : Good wq (publishWheel u b e s) := by
  unfold publishWheel
  refine good_ite h3 ?_
  extract_lets -useContext v0 v1 v2
  clear_value v0
  have hv3 : Good wq v1 := State.setFld_good h3
  clear_value v1 v2
  split
  · exact State.setWheel_good (State.setMap_good hv3)
  · extract_lets -useContext v4 v5 v6 v7 v8 v9 v10
    clear_value v4
    have hv11 : Good wq v5 := State.setMap_good h3
    clear_value v5 v6
    have hv12 : Good wq v7 := State.setWheel_good hv11
    clear_value v7
    have hv13 : Good wq v8 := showMap_good hv12
    clear_value v8
    have hv14 : Good wq v9 := by
      unfold v9
      split
      · exact hv13
      · exact State.log_good (State.intSet_good hv13)
    clear_value v9
    have hv15 : Good wq v10 := good_ite (State.idxCast_good hv14) hv14
    clear_value v10
    exact resolveHeld_good (resampleMap_good hv15)

theorem putMode_good {wq : Keep} {new : Nat} {s : State} (h1 : Good wq s) : Good wq (putMode new s) := by
  unfold putMode
  extract_lets -useContext v0 v1 v2 v3 v4 v5 v6 v7 v8
  clear_value v0
  have hv9 : Good wq v1 := h1
  clear_value v1
  have hv10 : Good wq v2 := State.setFld_good (State.setFld_good h1)
  clear_value v2
  have hv11 : Good wq v3 := good_ite (State.setFld_good hv10) hv10
  clear_value v3
  have hv12 : Good wq v4 := State.setReg64_good hv11
  clear_value v4
  have hv13 : Good wq v5 := State.setFld_good hv12
  clear_value v5
  have hv14 : Good wq v6 := good_ite (State.setFld_good hv13) hv13
  clear_value v6
  have hv15 : Good wq v7 := State.intSet_good hv14
  clear_value v7
  have hv16 : Good wq v8 := State.log_good hv15
  clear_value v8
  exact State.regrant_good hv9 hv16

theorem readyPoint_good {wq : Keep} {s : State} (h0 : Good wq s) : Good wq (readyPoint s) := by
  unfold readyPoint
  extract_lets -useContext v0 v1 v2 v3 v4
  have hv5 : Good wq v0 := State.upTo_good h0
  clear_value v0
  have hv6 : Good wq v1 := good_foldl hv5 (fun z8 y9 hz7 => good_ite hz7 (produce_good hz7))
  clear_value v1
  have hv10 : Good wq v2 := good_ite (State.setReg_good hv6) hv6
  clear_value v2
  have hv11 : Good wq v3 := good_foldl hv10 (fun z13 y14 hz12 => good_ite (laneReady_good hz12) hz12)
  clear_value v3
  have hv15 : Good wq v4 := good_ite (good_upd hv11 (fun hg => hg.buf)) hv5
  clear_value v4
  exact good_foldl hv15 (fun z17 y18 hz16 => State.wakeBit_good hz16)

theorem recPut_good {wq : Keep} {n : Nat} {r : SampRec} {s : State} (h2 : Good wq s) : Good wq (recPut n r s) := by
  unfold recPut
  split
  · exact ringPut_good h2
  · exact h2

theorem rejectEntry_good {wq : Keep} {code : Nat} {q : Req} {part : Bool} {err : Nat} {s : State} (h4 : Good wq s) :
    Good wq (rejectEntry code q part err s) := by
  unfold rejectEntry
  extract_lets -useContext v0
  have hv1 : Good wq v0 := State.markReject_good h4
  clear_value v0
  exact good_ite (State.record_good hv1) hv1

theorem resetPin_good {wq : Keep} {ns : Nat} {taken : Bool} {s : State} (h2 : Good wq s) : Good wq (resetPin ns taken s) := by
  unfold resetPin
  exact good_ite h2 (good_ite (bootAt_good (beforeBrown_good h2)) (good_ite h2 (bootAt_good h2)))

theorem ringIndexMove_good {wq : Keep} {s : State} {r : WheyRing} {v : Nat} (h0 : Good wq s) : Good wq (ringIndexMove s r v) := by
  unfold ringIndexMove
  extract_lets -useContext v0 v1 v2
  have hv3 : Good wq v0 := State.markWaiting_good h0
  clear_value v0 v1
  have hv4 : Good wq v2 := State.freeAll_good (State.setWring_good hv3)
  clear_value v2
  exact State.drainCoal_good hv4

theorem rowReport_good {wq : Keep} {r : Nat} {flags : Nat} {s : State} (h2 : Good wq s) : Good wq (rowReport r flags s) := by
  unfold rowReport
  exact State.bell_good (State.log_good h2)

theorem startPwm_good {wq : Keep} {m : Nat} {s : State} (h1 : Good wq s) : Good wq (startPwm m s) := by
  unfold startPwm
  extract_lets -useContext v0 v1 v2 v3
  clear_value v0 v1 v2
  have hv4 : Good wq v3 := State.setPwm_good h1
  clear_value v3
  exact cutCheck_good (periodStart_good hv4)

theorem sysCmd_good {wq : Keep} {code : Nat} {rq : Req} {z : State}  (h : Good wq z) : Good wq ((sysCmd code).run rq z) := by
  unfold sysCmd
  split
  · exact arm_good h
  · exact disarm_good h
  · exact enterLimp_good h
  · exact resume_good h
  · exact halt_good h
  · exact sleep_good h
  · exact reboot_good h
  · exact forceSafe_good h
  · exact undefinedCmd_good h

theorem tapLoad_good {wq : Keep} {ir : Nat} {permitted : Bool} {act : State → State} {s : State} (h2 : ∀ w0, Good wq w0 → Good wq (act w0))
    (h3 : Good wq s) :
    Good wq (tapLoad ir permitted act s) := by
  unfold tapLoad
  exact good_ite h3 (good_ite (h2 _ (good_upd h3 (fun hg => hg.buf))) (tapRefuse_good h3))

theorem tbCatchup_good {wq : Keep} {d : Nat} {s : State} (h1 : Good wq s) : Good wq (tbCatchup d s) := by
  unfold tbCatchup
  refine good_ite h1 ?_
  extract_lets -useContext v0 v1 v2 v3 v4 v5 v6 v7
  clear_value v0 v1 v2 v3
  have hv8 : Good wq v4 := bootAt_good h1
  clear_value v4 v5
  have hv9 : Good wq v6 := good_upd hv8 (fun hg => hg.buf)
  clear_value v6
  have hv10 : Good wq v7 := catchUp_good (State.intSet_good (State.setReg_good hv9))
  clear_value v7
  exact keepMatches_good h1 hv10

theorem timeStep_good {wq : Keep} {s : State} (h0 : Good wq s) : Good wq (timeStep s) := by
  unfold timeStep
  refine good_ite h0 ?_
  extract_lets -useContext v0 v1 v2 v3 v4
  clear_value v0 v1
  have hv5 : Good wq v2 := State.jump_good h0
  clear_value v2 v3 v4
  exact good_ite (good_upd hv5 (fun hg => hg.buf)) (good_ite (good_upd h0 (fun hg => hg.buf)) h0)

theorem traceTooth_good {wq : Keep} {u : Nat} {t : Nat} {r : Nat} {s : State} (h3 : Good wq s) : Good wq (traceTooth u t r s) := by
  unfold traceTooth
  exact good_ite (State.trace_good h3) h3

theorem tripAssert_good {wq : Keep} {i : Nat} {pin : Bool} {clocks : Nat} {s : State} (h3 : Good wq s) :
    Good wq (tripAssert i pin clocks s) := by
  unfold tripAssert
  refine good_ite h3 ?_
  extract_lets -useContext v0 v1 v2
  have hv3 : Good wq v0 := State.setFld_good h3
  clear_value v0
  have hv4 : Good wq v1 := State.setFld_good hv3
  clear_value v1
  have hv5 : Good wq v2 := State.intSet_good (State.addSat_good hv4)
  clear_value v2
  exact cutChecks_good hv5

theorem wheyBoundary_good {wq : Keep} {s : State} (h0 : Good wq s) : Good wq (wheyBoundary s) := by
  unfold wheyBoundary
  exact good_ite h0 (State.setDecim_good (State.emitLosses_good (State.payOwed_good h0)))

theorem wheyIngest_good {wq : Keep} {s : State} (h0 : Good wq s) : Good wq (wheyIngest s) := by
  unfold wheyIngest
  refine good_ite h0 ?_
  extract_lets -useContext v0 v1 v2
  have hv3 : Good wq v0 := State.markWaiting_good (State.payOwed_good h0)
  clear_value v0
  have hv4 : Good wq v1 := State.drainCoal_good hv3
  have hv5 : ∀ w6, Good wq w6 → Good wq (v2 w6) := by
    intro w6 hw7
    unfold v2
    try beta_reduce
    split
    · exact hw7
    · extract_lets -useContext v8 v9
      have hv10 : Good wq v9 := good_upd hw7 (fun hg => by first | exact hg.buf | exact fun _ => rfl)
      clear_value v9
      exact good_ite (State.takeLog_good hv10) (State.takeTrace_good hv10)
  clear_value v1 v2
  split
  · exact State.takeAlarm_good hv4
  · exact hv5 _ hv4

theorem writeLog_good {wq : Keep} {e : Nat} {id : Nat} {body : List Word} {s : State} (h3 : Good wq s) :
    Good wq (writeLog e id body s) := by
  unfold writeLog
  extract_lets -useContext v0 v1 v2 v3
  clear_value v0 v1 v2 v3
  exact State.setS_good (State.hand_good h3)

theorem State.appendLog_good {wq : Keep} {s : State} {change : Bool} {ws : List Word} (h0 : Good wq s) :
    Good wq (State.appendLog s change ws) := by
  unfold State.appendLog
  exact good_ite (State.log_good (good_upd h0 (fun hg => hg.buf))) (good_ite h0 (State.addSat_good h0))

theorem State.consumersChanged_good {wq : Keep} {old : State} {s : State} (h0 : Good wq old) (h1 : Good wq s) :
    Good wq (State.consumersChanged old s) := by
  unfold State.consumersChanged
  extract_lets -useContext v0 v1 v2 v3 v4
  have hv5 : Good wq v0 := State.markWaiting_good h1
  clear_value v0
  have hv6 : Good wq v1 := good_ite (State.missHistory_good h0 (State.missHistory_good h0 hv5)) hv5
  clear_value v1 v2
  have hv7 : Good wq v3 := good_ite (State.setWring_good hv6) hv6
  have hv8 : ∀ w9 w11, Good wq w9 → Good wq (v4 w9 w11) := by
    intro w9 w11 hw10
    unfold v4
    try beta_reduce
    extract_lets -useContext v12 v13
    clear_value v12
    have hv14 : Good wq v13 := State.setWring_good hw10
    clear_value v13
    exact State.freeAll_good hv14
  clear_value v3 v4
  exact hv8 _ _ (hv8 _ _ (hv8 _ _ hv7))

theorem State.endEv_good {wq : Keep} {s : State} {e : CalEv} {status : Nat} {code : Nat} {tb : Nat} (h0 : Good wq s) :
    Good wq (State.endEv s e status code tb) := by
  unfold State.endEv
  extract_lets -useContext v0 v1 v2 v3 v4 v5
  clear_value v0 v1
  have hv6 : Good wq v2 := State.trace_good h0
  clear_value v2
  have hv7 : Good wq v3 := State.countEnd_good hv6
  clear_value v3 v4
  have hv8 : Good wq v5 := good_upd hv7 (fun hg => hg.buf)
  clear_value v5
  exact good_ite (State.dropEv_good hv8) (State.setEv_good hv8)

theorem State.endRun_good {wq : Keep} {s : State} {r : Running} {e : Ended} (h0 : Good wq s) : Good wq (State.endRun s r e) := by
  unfold State.endRun
  extract_lets -useContext v0 v1
  have hv2 : Good wq v0 := good_upd h0 (fun hg => hg.buf)
  clear_value v0
  have hv3 : Good wq v1 := State.intSet_good hv2
  clear_value v1
  exact good_ite (State.record_good hv3) hv3

theorem State.finish_good {wq : Keep} {s : State} {p : Nat} {code : Nat} {e : Ended} (h0 : Good wq s) :
    Good wq (State.finish s p code e) := by
  unfold State.finish
  split
  · exact h0
  · exact State.endRun_good h0

theorem State.logLevel_good {wq : Keep} {s : State} {change : Bool} {code : Nat} {scr : Bool} (h0 : Good wq s) :
    Good wq (State.logLevel s change code scr) := by
  unfold State.logLevel
  split
  rename_i a0 t1 heq2
  have hm3 : Good wq t1 := by
    exact good_snd_eq heq2 (State.drawnBytes_good h0)
  split
  rename_i a4 t5 heq6
  have hm7 : Good wq t5 := by
    exact good_snd_eq heq6 (State.drawnBytes_good hm3)
  extract_lets -useContext v8
  have hv9 : Good wq v8 := State.appendLog_good hm7
  clear_value v8
  exact good_ite hv9 (State.intSet_good hv9)

theorem State.logRefused_good {wq : Keep} {s : State} {k : Nat} {code : Nat} {old : List Word} {new : List Word} (h0 : Good wq s) :
    Good wq (State.logRefused s k code old new) := by
  unfold State.logRefused
  exact good_ite h0 (State.intSet_good (State.appendLog_good h0))

theorem State.quadrantLost_good {wq : Keep} {s : State} {q : Nat} (h0 : Good wq s) : Good wq (State.quadrantLost s q) := by
  unfold State.quadrantLost
  exact good_foldl h0 (fun z1 y2 hz0 => State.endEv_good hz0)

theorem aArith_good {wq : Keep} {e : Nat} {code : Nat} {f : AFields} {write : Bool} {op : WordSt → Word × Bool × Bool} {s : State} (h5 :
    Good wq s) :
    Good wq (aArith e code f write op s) := by
  unfold aArith
  exact aOp_good h5

theorem abandonOverruns_good {wq : Keep} {s : State} (h0 : Good wq s) : Good wq (abandonOverruns s) := by
  unfold abandonOverruns
  refine good_foldl h0 ?_
  intro z1 y2 hz0
  extract_lets -useContext v3 v4 v5
  have hv6 : Eng.Ok wq v3 := (hz0.eng _)
  clear_value v3
  have hv7 : Good wq v4 := by
    unfold v4
    refine good_ite ?_ hz0
    split
    · exact freeEngine_good (endTask_good (abortShift_good hz0))
    · exact hz0
  have hv8 : Eng.Ok wq v5 := (hv7.eng _)
  clear_value v4 v5
  exact State.setEng_good hv7 (fun hg => hv8.keep rfl rfl)

theorem abortCalibrate_good {wq : Keep} {p : Nat} {r : Running} {s : State} (h2 : Good wq s) : Good wq (abortCalibrate p r s) := by
  unfold abortCalibrate
  exact State.endRun_good (State.setSt_good h2)

theorem abortLoad_good {wq : Keep} {r : Running} {s : State} (h1 : Good wq s) : Good wq (abortLoad r s) := by
  unfold abortLoad
  exact State.endRun_good (State.setFld_good h1)

theorem abortSwitch_good {wq : Keep} {s : State} (h0 : Good wq s) : Good wq (abortSwitch s) := by
  unfold abortSwitch
  split
  · exact h0
  · exact State.endRun_good h0

theorem abortUrgent_good {wq : Keep} {n : Nat} {r : Running} {s : State} (h2 : Good wq s) : Good wq (abortUrgent n r s) := by
  unfold abortUrgent
  extract_lets -useContext v0 v1 v2
  have hv3 : ∀ w4 w5, Good wq w5 → Good wq (v0 w4 w5) := by
    intro w4 w5 hw6
    unfold v0
    try beta_reduce
    exact State.setAdc_good hw6
  clear_value v0 v1
  have hv7 : Good wq v2 := State.setAdc_good h2
  clear_value v2
  exact State.endRun_good (good_foldl hv7 (fun z9 y10 hz8 => hv3 _ _ hz8))

theorem afterBrown_good {wq : Keep} {s : State} (h0 : Good wq s) : Good wq (afterBrown s) := by
  unfold afterBrown
  extract_lets -useContext v0 v1
  have hv2 : Good wq v0 := bootAt_good (beforeBrown_good h0)
  clear_value v0
  have hv3 : Good wq v1 := good_foldl hv2 (fun z5 y6 hz4 => State.setReg_good hz4)
  clear_value v1
  exact State.setReg_good hv3

theorem afterFire_good {wq : Keep} {c : Nat} {k : CmpEntry} {rest : Bool} {late : Bool} {f : Nat} {s : State} (h5 : Good wq s) :
    Good wq (afterFire c k rest late f s) := by
  unfold afterFire
  extract_lets -useContext v0 v1 v2
  have hv3 : Good wq v0 := State.chStat_good h5
  clear_value v0
  have hv4 : Good wq v1 := good_ite hv3 (State.chStat_good hv3)
  clear_value v1
  have hv5 : Good wq v2 := good_ite (State.addSat_good (State.chStat_good hv4)) hv4
  clear_value v2
  split
  · exact good_ite (State.trace_good hv5) hv5
  · split
    · exact hv5
    · exact good_ite (State.endEv_good hv5) (State.endEv_good hv5)

theorem aonFault_good {wq : Keep} {s : State} (h0 : Good wq s) : Good wq (aonFault s) := by
  unfold aonFault
  refine good_ite h0 ?_
  extract_lets -useContext v0 v1
  have hv2 : Good wq v0 := brownOut_good h0
  clear_value v0 v1
  exact good_upd hv2 (fun hg => hg.buf)

theorem armChecksEnd_good {wq : Keep} {s : State} (h0 : Good wq s) : Good wq (armChecksEnd s) := by
  unfold armChecksEnd
  refine good_ite h0 ?_
  extract_lets -useContext v0 v1 v2 v3
  clear_value v0 v1
  have hv4 : Good wq v2 := putReport_good (good_upd h0 (fun hg => hg.buf))
  clear_value v2
  have hv5 : Good wq v3 := State.log_good (State.bell_good hv4)
  clear_value v3
  exact good_ite (good_upd h0 (fun hg => hg.buf)) (State.finish_good (State.intSet_good hv5))

theorem auth_good {wq : Keep}  {rq : Req} {z : State}  (h : Good wq z) : Good wq (auth.run rq z) := by
  unfold auth
  refine good_run ?_
  extract_lets -useContext v0 v1
  clear_value v0 v1
  exact good_ite (State.finish_good (State.setNonce_good h)) (good_ite (State.finish_good (State.setSession_good (State.setFails_good
      (State.setNonce_good h)))) (State.finish_good (authFail_good (State.setNonce_good h))))

theorem autoArm_good {wq : Keep} {s : State} (h0 : Good wq s) : Good wq (autoArm s) := by
  unfold autoArm
  exact good_ite (offer_good (fun _ _ hx => arm_good hx) (State.setFld_good h0)) h0

theorem availBlock_good {wq : Keep} {p : Nat} {spare : Bool} {s : State} (h2 : Good wq s) : Good wq (availBlock p spare s) := by
  unfold availBlock
  extract_lets -useContext v0 v1
  clear_value v0
  have hv2 : Good wq v1 := State.unlist_good (State.bell_good (State.alarm_good h2))
  clear_value v1
  refine good_ite (good_ite (oweRepair_good hv2) hv2) ?_
  refine good_ite (twinSearch_good h2) ?_
  refine good_ite h2 ?_
  split
  · split
    · exact offer_good (fun _ _ hx => pwmSubstitute_good hx) h2
    · exact h2
  · exact good_ite h2 (offer_good (fun _ _ hx => adcSubstitute_good hx) h2)
  · exact h2

theorem bar2Write_good {wq : Keep} {off : Nat} {data : List Byte} {s : State} (h2 : Good wq s) : Good wq (bar2Write off data s) := by
  unfold bar2Write
  exact good_ite (good_foldl h2 (fun z1 y2 hz0 => msixPut_good hz0)) (bar2Take_good h2)

theorem blanksAtBoundary_good {wq : Keep} {old : State} {s : State} (h0 : Good wq old) (h1 : Good wq s) :
    Good wq (blanksAtBoundary old s) := by
  unfold blanksAtBoundary
  exact cutChecks_good (keepBlanks_good h0 h1)

theorem blockWrite_good {wq : Keep} {port : Port} {seq : Nat} {p : Nat} {o : Nat} {w : Word} {s : State} (h5 : Good wq s) :
    Good wq (blockWrite port seq p o w s) := by
  unfold blockWrite
  extract_lets -useContext v0 v1 v2 v3
  have hv4 : Good wq v0 := plainWrite_good h5
  clear_value v0 v1 v2 v3
  split
  · exact good_ite (wdkickDo_good h5) hv4
  · exact good_ite (teamKeyDo_good h5) (good_ite (scrKeyDo_good h5) hv4)
  · exact good_ite (pwelPop_good h5) hv4
  · exact good_ite (good_ite hv4 (good_upd hv4 (fun hg => hg.buf))) hv4
  · exact good_ite (matchArm_good h5) hv4
  · exact writeIu_good h5
  · exact good_ite (qpossetDo_good h5) (good_ite (wcfgDo_good hv4) hv4)
  · exact good_ite (good_upd h5 (fun hg => hg.buf)) (good_ite (hostPost_good h5) hv4)
  · exact good_ite (cutCheck_good hv4) hv4
  · exact good_ite (cutChecks_good (tripcfgDo_good hv4)) hv4
  · exact good_ite (State.dropPwmPins_good (State.dropFollow_good hv4)) hv4
  · exact good_ite (refDo_good h5) hv4
  · exact good_ite (tdcfgDo_good h5) hv4
  · exact good_ite (mclogPop_good h5) (good_ite (State.wakeLevels_good hv4) hv4)
  · split
    · exact ringIndexMove_good h5
    · exact good_ite (State.consumersChanged_good h5 hv4) hv4
  · exact good_ite (State.consumersChanged_good h5 hv4) hv4
  · exact good_ite (State.regrant_good h5 hv4) hv4
  · exact hv4

theorem calibrateComplete_good {wq : Keep} {n : Nat} {r : CalResult} {s : State} (h2 : Good wq s) : Good wq (calibrateComplete n r s) := by
  unfold calibrateComplete
  extract_lets -useContext v0
  clear_value v0
  split
  · exact h2
  · extract_lets -useContext v1 v2
    have hv3 : Good wq v1 := State.upTo_good h2
    clear_value v1
    have hv4 : Good wq v2 := State.intSet_good (State.setFld_good (putCal_good hv3))
    clear_value v2
    exact good_ite (State.endRun_good (State.setSt_good hv4)) (State.endRun_good (State.blockFault_good (State.intSet_good hv3)))

theorem cancelRun_good {wq : Keep} {r : Running} {s : State} (h1 : Good wq s) : Good wq (cancelRun r s) := by
  unfold cancelRun
  extract_lets -useContext v0 v1 v2 v3 v4
  clear_value v0 v1 v2 v3 v4
  split
  · exact abortCalibrate_good h1
  · exact abortUrgent_good h1
  · exact abortLoad_good h1
  · exact abortSwitch_good h1
  · exact State.endRun_good (good_upd h1 (fun hg => hg.buf))
  · exact State.endRun_good (good_upd h1 (fun hg => hg.buf))
  · exact State.endRun_good (good_upd h1 (fun hg => hg.buf))
  · exact State.endRun_good h1

theorem capFlush_good {wq : Keep} {rq : Req} {z : State} (h : Good wq z) : Good wq (capFlush.run rq z) :=
  State.finish_good (good_foldl h (fun _ _ hz => State.setChan_good hz (fun hg => (hg.chan _).le (Nat.le_refl _) (by simp))))

theorem cmpPush_good {wq : Keep}  {rq : Req} {z : State}  (h : Good wq z) : Good wq (cmpPush.run rq z) := by
  unfold cmpPush
  exact good_run (State.finish_good (good_foldl h (fun z1 y2 hz0 => State.pushEntry_good hz0)))

theorem commitCmd_good {wq : Keep}  {rq : Req} {z : State}  (h : Good wq z) : Good wq (commitCmd.run rq z) := by
  unfold commitCmd
  refine good_run ?_
  extract_lets -useContext v0 v1 v2 v3
  clear_value v0 v1 v2
  have hv4 : Good wq v3 := State.setPrepared_good h
  clear_value v3
  exact good_ite (good_upd hv4 (fun hg => hg.buf)) (State.finish_good h)

theorem compareFire_good {wq : Keep} {c : Nat} {s : State} (h1 : Good wq s) : Good wq (compareFire c s) := by
  unfold compareFire
  split
  · exact h1
  · rename_i k t he
    have hl : wq.bounds → t.length ≤ 4 := fun b => by
      have := (h1.chan c).compare b
      rw [he] at this
      simp only [List.length_cons] at this
      omega
    refine good_ite h1 (afterFire_good (fireAct_good (popHead_good ?_ hl)))
    split
    · exact good_ite (endPulse_good (State.upTo_good h1)) (State.upTo_good h1)
    · exact State.upTo_good h1

theorem dealLost_good {wq : Keep} {old : State} {s : State} (h0 : Good wq old) (h1 : Good wq s) : Good wq (dealLost old s) := by
  unfold dealLost
  exact good_foldl h1 (fun z1 y2 hz0 => availBlock_good hz0)

theorem deauth_good {wq : Keep}  {rq : Req} {z : State}  (h : Good wq z) : Good wq (deauth.run rq z) := by
  unfold deauth
  exact good_run (State.finish_good (State.setSession_good h))

theorem drain_good {wq : Keep} {s : State} (h0 : Good wq s) : Good wq (drain s) := by
  unfold drain
  extract_lets -useContext v0
  have hv1 : Good wq v0 := State.upTo_good h0
  clear_value v0
  refine good_ite hv1 ?_
  split
  · exact hv1
  · refine good_ite (State.endEv_good hv1) ?_
    refine good_ite (State.endEv_good hv1) ?_
    extract_lets -useContext v2 v3 v4
    have hv5 : Good wq v2 := State.setEv_good hv1
    clear_value v2 v3
    have hv6 : Good wq v4 := good_upd hv5 (fun hg => hg.buf)
    clear_value v4
    exact State.pushEntry_good hv6

theorem drainCompletions_good {wq : Keep} {x : Nat} {x1 : State} (h1 : Good wq x1) : Good wq (drainCompletions x x1) := by
  induction x generalizing x1 with
  | zero => exact h1
  | succ n ih =>
    unfold drainCompletions
    exact ih (hostEventCompletion_good h1)

theorem emitBlock_good {wq : Keep} {n : Nat} {ch : Nat} {b : SBlock} {part : Bool} {s : State} (h4 : Good wq s) :
    Good wq (emitBlock n ch b part s) := by
  unfold emitBlock
  extract_lets -useContext v0 v1 v2
  clear_value v0 v1 v2
  exact good_ite (State.setAdc_good h4) (recPut_good h4)

theorem enable_good {wq : Keep}  {rq : Req} {z : State}  (h : Good wq z) : Good wq (enable.run rq z) := by
  unfold enable
  refine good_run ?_
  extract_lets -useContext v0
  clear_value v0
  exact good_ite (State.finish_good (State.setEnpend_good h)) h

theorem endGroup_good {wq : Keep} {g : Group} {s : State} (h1 : Good wq s) : Good wq (endGroup g s) := by
  unfold endGroup
  extract_lets -useContext v0 v1 v2 v3
  have hv4 : Good wq v0 := good_upd h1 (fun hg => hg.buf)
  clear_value v0 v1
  have hv5 : Good wq v2 := good_ite hv4 (State.oweHost_good hv4)
  clear_value v2
  have hv6 : Good wq v3 := State.intSet_good hv5
  clear_value v3
  exact good_ite (State.finish_good hv4) (good_ite (State.record_good hv6) hv6)

theorem endMode_good {wq : Keep} {won : Bool} {s : State} (h1 : Good wq s) : Good wq (endMode won s) := by
  unfold endMode
  split
  · exact h1
  · extract_lets -useContext v0 v1
    clear_value v0
    have hv2 : Good wq v1 := good_upd h1 (fun hg => hg.buf)
    clear_value v1
    exact State.endRun_good hv2

theorem enterService_good {wq : Keep} {p : Nat} {s : State} (h1 : Good wq s) : Good wq (enterService p s) := by
  unfold enterService
  extract_lets -useContext v0 v1 v2
  have hv3 : Good wq v0 := State.restartStreams_good h1
  clear_value v0 v1
  have hv4 : Good wq v2 := State.setSt_good hv3
  clear_value v2
  split
  · exact good_ite (State.setSt_good hv3) (good_ite (State.setSt_good hv3) (takeRole_good (State.setSt_good hv3)))
  · exact good_ite (State.setSt_good hv3) (startPwm_good (State.setSt_good hv3))
  · exact startCore_good (State.setSt_good hv3)
  · exact startCounters_good (State.setSt_good hv3)
  · exact wheelStart_good (good_upd hv4 (fun hg => hg.buf))
  · exact startRings_good (State.setSt_good hv3)
  · exact State.consumersChanged_good hv3 (State.setSt_good hv3)
  · exact State.setSt_good hv3

theorem execAdc_good {wq : Keep} {e : Fin 128} {f : AFields} {s : State} (hst : Good wq s) : ∃ wt, execAdc e f s = .next wt ∧ Good wq wt :=
  next_good rfl (aArith_good hst)

theorem execAdd_good {wq : Keep} {e : Fin 128} {f : AFields} {s : State} (hst : Good wq s) : ∃ wt, execAdd e f s = .next wt ∧ Good wq wt :=
  next_good rfl (aArith_good hst)

theorem execArmChecksEnd_good {wq : Keep} {s : State} (hst : Good wq s) : ∃ wt, execArmChecksEnd s = .next wt ∧ Good wq wt :=
  next_good rfl (armChecksEnd_good hst)

theorem execBar2Write_good {wq : Keep} {off : BitVec 26} {data : List Byte} {s : State} (hst : Good wq s) :
    ∃ wt, execBar2Write off data s = .next wt ∧ Good wq wt :=
  next_good rfl (good_ite (bar2Write_good hst) (State.pcieClosed_good hst))

theorem execBypass_good {wq : Keep} {s : State} (hst : Good wq s) : ∃ wt, execBypass s = .next wt ∧ Good wq wt :=
  next_good rfl (tapLoad_good (fun w0 hw1 => id_good hw1) hst)

theorem execCalibrateComplete_good {wq : Keep} {n : Fin 5} {r : CalResult} {s : State} (hst : Good wq s) :
    ∃ wt, execCalibrateComplete n r s = .next wt ∧ Good wq wt :=
  next_good rfl (calibrateComplete_good hst)

theorem execClamp_good {wq : Keep} {s : State} (hst : Good wq s) : ∃ wt, execClamp s = .next wt ∧ Good wq wt :=
  next_good rfl (tapLoad_good (fun w0 hw1 => good_upd hw1 (fun hg => hg.buf)) hst)

theorem execCmp_good {wq : Keep} {e : Fin 128} {f : AFields} {s : State} (hst : Good wq s) : ∃ wt, execCmp e f s = .next wt ∧ Good wq wt :=
  next_good rfl (aArith_good hst)

theorem execComparatorSelftest_good {wq : Keep} {failed : List (Fin 16 × Fin 4)} {s : State} (hst : Good wq s) :
    ∃ wt, execComparatorSelftest failed s = .next wt ∧ Good wq wt :=
  next_good rfl (dealLost_good hst (comparatorSelftest_good hst))

theorem execCompareFire_good {wq : Keep} {c : Fin 160} {s : State} (hst : Good wq s) : ∃ wt, execCompareFire c s = .next wt ∧ Good wq wt :=
  next_good rfl (compareFire_good hst)

theorem execDrain_good {wq : Keep} {s : State} (hst : Good wq s) : ∃ wt, execDrain s = .next wt ∧ Good wq wt :=
  next_good rfl (drain_good hst)

theorem execExtest_good {wq : Keep} {pins : List Bool} {s : State} (hst : Good wq s) : ∃ wt, execExtest pins s = .next wt ∧ Good wq wt := by
  refine next_good rfl ?_
  refine tapLoad_good ?_ hst
  intro w0 hw1
  extract_lets -useContext v2 v3
  have hv4 : Good wq v2 := sampleCells_good hw1
  clear_value v2 v3
  exact good_upd hv4 (fun hg => hg.buf)

theorem execFlushTimeout_good {wq : Keep} {n : Fin 2} {s : State} (hst : Good wq s) : ∃ wt, execFlushTimeout n s = .next wt ∧ Good wq wt :=
  next_good rfl (flushTimeout_good hst)

theorem execGroupCommit_good {wq : Keep} {tag : BitVec 16} {part : Bool} {args : Args} {s : State} (hst : Good wq s) :
    ∃ wt, execGroupCommit tag part args s = .next wt ∧ Good wq wt :=
  next_good rfl (groupCommit_good hst)

theorem execHighz_good {wq : Keep} {s : State} (hst : Good wq s) : ∃ wt, execHighz s = .next wt ∧ Good wq wt :=
  next_good rfl (tapLoad_good (fun w0 hw1 => good_upd hw1 (fun hg => hg.buf)) hst)

theorem execHostEventCompletion_good {wq : Keep} {s : State} (hst : Good wq s) : ∃ wt, execHostEventCompletion s = .next wt ∧ Good wq wt :=
  next_good rfl (hostEventCompletion_good hst)

theorem execIdcode_good {wq : Keep} {s : State} (hst : Good wq s) : ∃ wt, execIdcode s = .next wt ∧ Good wq wt :=
  next_good rfl (tapLoad_good (fun w0 hw1 => id_good hw1) hst)

theorem execLinkdown_good {wq : Keep} {n : Fin 2} {s : State} (hst : Good wq s) : ∃ wt, execLinkdown n s = .next wt ∧ Good wq wt := by
  unfold execLinkdown
  split
  · exact next_good rfl hst
  · exact next_good rfl (State.consumersChanged_good hst (State.intSet_good (State.setFld_good (State.setEth_good hst))))

theorem execLinkup_good {wq : Keep} {n : Fin 2} {s : State} (hst : Good wq s) : ∃ wt, execLinkup n s = .next wt ∧ Good wq wt := by
  unfold execLinkup
  split
  · exact next_good rfl hst
  · exact next_good rfl (State.consumersChanged_good hst (State.intSet_good (State.setFld_good (State.setEth_good hst))))

theorem execMessageDelivery_good {wq : Keep} {s : State} (hst : Good wq s) : ∃ wt, execMessageDelivery s = .next wt ∧ Good wq wt :=
  next_good rfl (messageDelivery_good hst)

theorem execMirrorFetch_good {wq : Keep} {e : Fin 128} {s : State} (hst : Good wq s) : ∃ wt, execMirrorFetch e s = .next wt ∧ Good wq wt :=
  next_good rfl (mirrorFetch_good hst)

theorem execMsixUnmask_good {wq : Keep} {t : MsixTarget} {s : State} (hst : Good wq s) :
    ∃ wt, execMsixUnmask t s = .next wt ∧ Good wq wt := by
  refine next_good rfl ?_
  split
  · exact msixUnmask_good hst
  · exact functionUnmask_good hst

theorem execPcieReset_good {wq : Keep} {s : State} (hst : Good wq s) : ∃ wt, execPcieReset s = .next wt ∧ Good wq wt :=
  next_good rfl (linkDown_good hst)

theorem execPeriodBoundary_good {wq : Keep} {m : Fin 10} {s : State} (hst : Good wq s) :
    ∃ wt, execPeriodBoundary m s = .next wt ∧ Good wq wt :=
  next_good rfl (periodBoundary_good hst)

theorem execPeriodCounterStep_good {wq : Keep} {c : Fin 160} {s : State} (hst : Good wq s) :
    ∃ wt, execPeriodCounterStep c s = .next wt ∧ Good wq wt :=
  next_good rfl (periodCounterStep_good hst)

theorem execPresentation_good {wq : Keep} {t : Fin 4} {s : State} (hst : Good wq s) : ∃ wt, execPresentation t s = .next wt ∧ Good wq wt :=
  next_good rfl (present_good hst)

theorem execPwmCopyMismatch_good {wq : Keep} {m : Fin 10} {s : State} (hst : Good wq s) :
    ∃ wt, execPwmCopyMismatch m s = .next wt ∧ Good wq wt :=
  next_good rfl (dealLost_good hst (pwmCopyMismatch_good hst))

theorem execReadyPoint_good {wq : Keep} {s : State} (hst : Good wq s) : ∃ wt, execReadyPoint s = .next wt ∧ Good wq wt :=
  next_good rfl (readyPoint_good hst)

theorem execReferenceFault_good {wq : Keep} {n : Fin 5} {s : State} (hst : Good wq s) :
    ∃ wt, execReferenceFault n s = .next wt ∧ Good wq wt :=
  next_good rfl (dealLost_good hst (referenceFault_good hst))

theorem execResetPin_good {wq : Keep} {ns : Nat} {taken : Bool} {s : State} (hst : Good wq s) :
    ∃ wt, execResetPin ns taken s = .next wt ∧ Good wq wt :=
  next_good rfl (resetPin_good hst)

theorem execSamplePreload_good {wq : Keep} {s : State} (hst : Good wq s) : ∃ wt, execSamplePreload s = .next wt ∧ Good wq wt :=
  next_good rfl (tapLoad_good (fun w0 hw1 => samplePreload_good hw1) hst)

theorem execSbc_good {wq : Keep} {e : Fin 128} {f : AFields} {s : State} (hst : Good wq s) : ∃ wt, execSbc e f s = .next wt ∧ Good wq wt :=
  next_good rfl (aArith_good hst)

theorem execSub_good {wq : Keep} {e : Fin 128} {f : AFields} {s : State} (hst : Good wq s) : ∃ wt, execSub e f s = .next wt ∧ Good wq wt :=
  next_good rfl (aArith_good hst)

theorem execTbCatchup_good {wq : Keep} {ticks : BitVec 48} {s : State} (hst : Good wq s) :
    ∃ wt, execTbCatchup ticks s = .next wt ∧ Good wq wt :=
  next_good rfl (tbCatchup_good hst)

theorem execTripAssert_good {wq : Keep} {i : Fin 16} {pin : Bool} {clocks : Nat} {s : State} (hst : Good wq s) :
    ∃ wt, execTripAssert i pin clocks s = .next wt ∧ Good wq wt :=
  next_good rfl (tripAssert_good hst)

theorem execWheyRecordIngest_good {wq : Keep} {s : State} (hst : Good wq s) : ∃ wt, execWheyRecordIngest s = .next wt ∧ Good wq wt :=
  next_good rfl (wheyIngest_good hst)

theorem failBlock_good {wq : Keep} {p : Nat} {s : State} (h1 : Good wq s) : Good wq (failBlock p s) := by
  unfold failBlock
  extract_lets -useContext v0 v1
  clear_value v0
  have hv2 : Good wq v1 := dealLost_good h1 (State.blockFault_good h1)
  clear_value v1
  exact good_ite (oweRepair_good hv2) hv2

theorem goDark_good {wq : Keep} {s : State} (h0 : Good wq s) : Good wq (goDark s) := by
  unfold goDark
  extract_lets -useContext v0 v1
  have hv2 : Good wq v0 := good_foldl h0 (fun z4 y5 hz3 => State.endRun_good hz3)
  clear_value v0 v1
  exact linkDown_good (good_upd hv2 (fun hg => hg.buf))

theorem groupPrepared_good {wq : Keep} {s : State} (h0 : Good wq s) : Good wq (groupPrepared s) := by
  unfold groupPrepared
  split
  · exact h0
  · exact good_ite (endGroup_good (unprepare_good h0)) (good_upd h0 (fun hg => hg.buf))

theorem issueRepairs_good {wq : Keep} {s : State} (h0 : Good wq s) : Good wq (issueRepairs s) := by
  unfold issueRepairs
  refine good_foldl h0 ?_
  intro z1 y2 hz0
  extract_lets -useContext v3 v4
  clear_value v3 v4
  exact good_ite hz0 (good_ite (offer_good (fun _ _ hx => domReset_good hx) (good_upd hz0 (fun hg => hg.buf))) (good_upd hz0 (fun hg =>
      hg.buf)))

theorem judgeSetting_good {wq : Keep} {k : Nat} {s : State} (h1 : Good wq s) : Good wq (judgeSetting k s) := by
  unfold judgeSetting
  extract_lets -useContext v0 v1 v2 v3 v4 v5 v6
  clear_value v0 v1 v2
  have hv7 : Good wq v3 := keepOld_good (State.intSet_good (State.spend_good (State.appendLog_good h1)))
  clear_value v3
  have hv8 : Good wq v4 := State.setReg_good hv7
  clear_value v4 v5
  have hv9 : Good wq v6 := good_foldl h1 (fun z11 y12 hz10 => revert_good hz10)
  clear_value v6
  exact good_ite h1 (good_ite (keepOld_good (State.intSet_good (State.spend_good (State.appendLog_good h1)))) (good_ite (good_upd hv8 (fun
      hg => hg.buf)) (State.intSet_good (State.appendLog_good hv9))))

theorem judgeSettings_good {wq : Keep} {s : State} (h0 : Good wq s) : Good wq (judgeSettings s) := by
  unfold judgeSettings
  extract_lets -useContext v0 v1 v2 v3
  clear_value v0
  have hv4 : Good wq v1 := good_upd h0 (fun hg => hg.buf)
  clear_value v1
  have hv5 : Good wq v2 := judgeSetting_good (judgeSetting_good (judgeSetting_good hv4))
  clear_value v2 v3
  exact good_upd hv5 (fun hg => hg.buf)

theorem levelAtBoundary_good {wq : Keep} {s : State} (h0 : Good wq s) : Good wq (levelAtBoundary s) := by
  unfold levelAtBoundary
  split
  · exact h0
  · extract_lets -useContext v0 v1 v2 v3 v4 v5 v6 v7 v8 v9
    clear_value v0 v1
    have hv10 : Good wq v2 := State.spend_good (State.logLevel_good h0)
    clear_value v2 v3
    have hv11 : Good wq v4 := good_upd hv10 (fun hg => hg.buf)
    clear_value v4 v5
    have hv12 : Good wq v6 := levelEffect_good (good_upd hv11 (fun hg => hg.buf))
    clear_value v6
    have hv13 : Good wq v7 := State.regrant_good hv12 (State.setFld_good hv12)
    clear_value v7
    have hv14 : Good wq v8 := State.clearAuth_good (State.endSessions_good hv13)
    clear_value v8
    have hv15 : Good wq v9 := State.alarm_good hv14
    clear_value v9
    exact State.finish_good (State.intSet_good hv15)

theorem levelFail_good {wq : Keep} {code : Nat} {cmd : Nat} {s : State} (h2 : Good wq s) : Good wq (levelFail code cmd s) := by
  unfold levelFail
  extract_lets -useContext v0 v1 v2
  clear_value v0
  have hv3 : Good wq v1 := good_ite (State.logLevel_good h2) h2
  clear_value v1 v2
  exact State.finish_good (good_upd hv3 (fun hg => hg.buf))

theorem loadComplete_good {wq : Keep} {img : Image} {s : State} (h1 : Good wq s) : Good wq (loadComplete img s) := by
  unfold loadComplete
  split
  · exact h1
  · refine good_ite h1 ?_
    extract_lets -useContext v0 v1 v2 v3 v4 v5
    have hv6 : Good wq v0 := by
      unfold v0
      split
      · exact h1
      · exact State.dmaFail_good h1
      · exact State.dmaFail_good h1
    clear_value v0 v1 v2 v3
    have hv7 : Good wq v4 := by
      unfold v4
      refine good_foldl hv6 ?_
      intro z9 y10 hz8
      extract_lets -useContext v11
      clear_value v11
      exact good_ite (State.setBank_good (State.putBank_good hz8)) hz8
    clear_value v4
    have hv12 : Good wq v5 := State.setReg_good hv7
    clear_value v5
    exact State.endRun_good (State.intSet_good hv12)

theorem logRefusedWrite_good {wq : Keep} {p : Nat} {o : Nat} {w : Word} {code : Nat} {s : State} (h4 : Good wq s) :
    Good wq (logRefusedWrite p o w code s) := by
  unfold logRefusedWrite
  refine good_ite h4 ?_
  split
  · exact h4
  · exact good_ite h4 (State.logRefused_good h4)

theorem lrnClear_good {wq : Keep}  {rq : Req} {z : State}  (h : Good wq z) : Good wq (lrnClear.run rq z) := by
  unfold lrnClear
  refine good_run ?_
  extract_lets -useContext v0 v1
  clear_value v0 v1
  exact State.finish_good (State.setWheel_good h)

theorem mapPublish_good {wq : Keep} {s : State} (h0 : Good wq s) : Good wq (mapPublish s) := by
  unfold mapPublish
  extract_lets -useContext v0 v1 v2
  have hv3 : Good wq v0 := State.upTo_good h0
  clear_value v0 v1 v2
  exact good_foldl hv3 (fun z5 y6 hz4 => publishWheel_good hz4)

theorem mapRow_good {wq : Keep} {r : Nat} {s : State} (h1 : Good wq s) : Good wq (mapRow r s) := by
  unfold mapRow
  exact good_ite (rowReport_good h1) (good_ite (useSpare_good h1) (rowReport_good (useSpare_good h1)))

theorem memoryTest_good {wq : Keep} {rows : List Nat} {s : State} (h1 : Good wq s) : Good wq (memoryTest rows s).2 := by
  unfold memoryTest
  exact good_foldl_snd (good_pair h1) (fun z1 y2 hz0 => good_pair (mapRow_good hz0))

theorem mirrorCopyComplete_good {wq : Keep} {s : State} (h0 : Good wq s) : Good wq (mirrorCopyComplete s) := by
  unfold mirrorCopyComplete
  split
  · exact State.endRun_good (good_foldl h0 (fun z1 y2 hz0 => copyBank_good hz0))
  · extract_lets -useContext v3 v4 v5
    clear_value v3
    have hv6 : Good wq v4 := good_foldl h0 (fun z8 y9 hz7 => copyBank_good hz7)
    clear_value v4 v5
    exact good_upd hv6 (fun hg => hg.buf)

theorem newNonce_good {wq : Keep}  {rq : Req} {z : State}  (h : Good wq z) : Good wq (newNonce.run rq z) := by
  unfold newNonce
  refine good_run ?_
  extract_lets -useContext v0 v1 v2
  clear_value v0
  have hv3 : Good wq v1 := State.setNonce_good h
  clear_value v1 v2
  exact State.finish_good (good_upd hv3 (fun hg => hg.buf))

theorem pwmTake_good {wq : Keep} {k : Nat} {l : Nat} {s : State} (h2 : Good wq s) : Good wq (pwmTake k l s) := by
  unfold pwmTake
  extract_lets -useContext v0 v1 v2 v3 v4 v5 v6 v7 v8 v9
  clear_value v0 v1 v2 v3
  have hv10 : Good wq v4 := copyPwmCfg_good h2
  clear_value v4
  have hv11 : Good wq v5 := State.setReg_good hv10
  clear_value v5
  have hv12 : Good wq v6 := State.setSt_good hv11
  clear_value v6 v7
  have hv13 : Good wq v8 := good_ite (startPwm_good (State.setPwm_good hv12)) (good_ite (State.setPwm_good hv12) (cutCheck_good
      (State.setPwm_good hv12)))
  clear_value v8
  have hv14 : Good wq v9 := good_ite hv13 (State.setSt_good (good_ite (State.stopPwm_good hv13) hv13))
  clear_value v9
  exact State.dropPwmPins_good (State.intSet_good (State.intSet_good hv14))

theorem readoutComplete_good {wq : Keep} {s : State} (h0 : Good wq s) : Good wq (readoutComplete s) := by
  unfold readoutComplete
  exact good_ite h0 (State.finish_good (State.dma_good h0))

theorem rejoinWorkEnd_good {wq : Keep} {d : Nat} {t : RejoinResult} {s : State} (h2 : Good wq s) : Good wq (rejoinWorkEnd d t s) := by
  unfold rejoinWorkEnd
  extract_lets -useContext v0 v1 v2 v3 v4 v5 v6 v7
  clear_value v0 v1
  have hv8 : Good wq v2 := State.upTo_good h2
  clear_value v2 v3
  have hv9 : Good wq v4.2 := memoryTest_good hv8
  clear_value v4
  have hv10 : Good wq v5 := hv9
  clear_value v5
  have hv11 : Good wq v6 := setDst_good (good_upd hv10 (fun hg => hg.buf))
  clear_value v6
  have hv12 : Good wq v7 := good_foldl hv11 (fun z14 y15 hz13 => unspared_good hz13)
  clear_value v7
  refine good_ite h2 ?_
  refine good_ite (good_upd hv10 (fun hg => hg.buf)) ?_
  split
  · exact State.endRun_good hv12
  · exact hv12

theorem resamplerBoundary_good {wq : Keep} {s : State} (h0 : Good wq s) : Good wq (resamplerBoundary s) := by
  unfold resamplerBoundary
  extract_lets -useContext v0 v1
  have hv2 : Good wq v0 := by
    unfold v0
    split
    · exact State.endRun_good (good_foldl h0 (fun z4 y5 hz3 => good_ite (closeLane_good hz3) hz3))
    · exact h0
  clear_value v0
  have hv6 : Good wq v1 := by
    unfold v1
    split
    · exact State.endRun_good (good_foldl hv2 (fun z8 y9 hz7 => good_ite (emptyLane_good hz7) hz7))
    · exact hv2
  clear_value v1
  exact good_upd hv6 (fun hg => hg.buf)

theorem restored_good {wq : Keep} {p : Nat} {st : Nat} {enp : Bool} {s : State} (h3 : Good wq s) : Good wq (restored p st enp s) := by
  unfold restored
  extract_lets -useContext v0 v1 v2
  clear_value v0
  have hv3 : Good wq v1 := good_upd h3 (fun hg => hg.buf)
  clear_value v1 v2
  exact good_ite hv3 (good_ite (State.setSt_good hv3) (good_ite (State.setSt_good hv3) (good_ite (enterService_good hv3) (good_ite
      (State.setPage_good (State.setSt_good hv3)) (State.setSt_good hv3)))))

theorem rowError_good {wq : Keep} {r : Nat} {s : State} (h1 : Good wq s) : Good wq (rowError r s) := by
  unfold rowError
  extract_lets -useContext v0 v1 v2 v3
  clear_value v0 v1
  have hv4 : Good wq v2 := good_upd h1 (fun hg => hg.buf)
  clear_value v2 v3
  exact good_ite (rowReport_good (good_upd hv4 (fun hg => hg.buf))) hv4

theorem rowRepair_good {wq : Keep} {c : Nat} {b : Bool} {a : Nat} {s : State} (h3 : Good wq s) : Good wq (rowRepair c b a s) := by
  unfold rowRepair
  extract_lets -useContext v0
  clear_value v0
  exact good_ite (rowReport_good (State.putBank_good (useSpare_good h3))) (rowReport_good h3)

theorem sealCmd_good {wq : Keep}  {rq : Req} {z : State}  (h : Good wq z) : Good wq (sealCmd.run rq z) := by
  unfold sealCmd
  refine good_run ?_
  refine good_ite (levelFail_good h) ?_
  refine good_ite (levelFail_good h) ?_
  split
  rename_i a0 t1 heq2
  have hm3 : Good wq t1 := by
    exact good_snd_eq heq2 (State.drawnBytes_good h)
  exact good_upd hm3 (fun hg => hg.buf)

theorem sealVerifyEnd_good {wq : Keep} {bs : List Byte} {s : State} (h1 : Good wq s) : Good wq (sealVerifyEnd bs s) := by
  unfold sealVerifyEnd
  refine good_ite h1 ?_
  extract_lets -useContext v0 v1 v2
  clear_value v0 v1 v2
  exact good_ite (levelFail_good h1) (levelDue_good (good_upd h1 (fun hg => hg.buf)))

theorem selftestDone_good {wq : Keep} {p : Nat} {pass : Bool} {s : State} (h2 : Good wq s) : Good wq (selftestDone p pass s) := by
  unfold selftestDone
  refine good_ite h2 ?_
  extract_lets -useContext v0 v1 v2
  have hv3 : Good wq v0 := good_ite h2 (failBlock_good h2)
  have hv4 : Clu.Ok wq v1 := (hv3.clu _)
  clear_value v0 v1
  have hv5 : Good wq v2 := good_ite (State.setClu_good hv3 (fun hg => hv4.keep rfl rfl rfl rfl)) hv3
  clear_value v2
  exact State.finish_good hv5

theorem seqSample_good {wq : Keep} {n : Nat} {ch : Nat} {r : SampRec} {s : State} (h3 : Good wq s) : Good wq (seqSample n ch r s) := by
  unfold seqSample
  extract_lets -useContext v0 v1 v2 v3 v4 v5
  have hv6 : Good wq v4 := State.pushHeld_good h3
  exact good_ite (State.pushHeld_good h3) (good_ite (emitBlock_good (State.setAin_good hv6)) (State.setAin_good hv6))

theorem settleNops_good {wq : Keep} {s : State} (h0 : Good wq s) : Good wq (settleNops s) := by
  unfold settleNops
  exact good_foldl h0 (fun z1 y2 hz0 => State.endRun_good hz0)

theorem shiftAbort_good {wq : Keep}  {rq : Req} {z : State}  (h : Good wq z) : Good wq (shiftAbort.run rq z) := by
  unfold shiftAbort
  refine good_run ?_
  extract_lets -useContext v0 v1 v2 v3
  clear_value v0 v1 v2
  have hv4 : Good wq v3 := good_foldl h (fun z6 y7 hz5 => abortShift_good hz5)
  clear_value v3
  exact State.finish_good hv4

theorem staggerBoundary_good {wq : Keep} {r : Running} {s : State} (h1 : Good wq s) : Good wq (staggerBoundary r s) := by
  unfold staggerBoundary
  split
  · extract_lets -useContext v0
    have hv1 : Good wq v0 := good_foldl h1 (fun z3 y4 hz2 => staggerLoad_good hz2)
    clear_value v0
    exact State.endRun_good hv1
  · exact h1

theorem staggersAtBoundary_good {wq : Keep} {s : State} (h0 : Good wq s) : Good wq (staggersAtBoundary s) := by
  unfold staggersAtBoundary
  exact good_foldl h0 (fun z1 y2 hz0 => staggerBoundary_good hz0)

theorem storeHeld_good {wq : Keep} {n : Nat} {h : Held} {s : State} (h2 : Good wq s) : Good wq (storeHeld n h s) := by
  unfold storeHeld
  extract_lets -useContext v0 v1 v2
  have hv3 : Good wq v0 := good_ite (recPut_good h2) h2
  clear_value v0
  have hv4 : Good wq v1 := good_foldl hv3 (fun z6 y7 hz5 => recPut_good hz5)
  clear_value v1
  have hv8 : Good wq v2 := tdCollect_good (handSample_good hv4)
  clear_value v2
  split
  · exact State.finish_good hv8
  · exact hv8

theorem supplyReturn_good {wq : Keep} {mv : Nat} {s : State} (h1 : Good wq s) : Good wq (supplyReturn mv s) := by
  unfold supplyReturn
  refine good_ite (good_ite (afterBrown_good h1) h1) ?_
  refine good_ite ?_ h1
  extract_lets -useContext v0 v1
  have hv2 : Good wq v0 := State.setReg_good h1
  clear_value v0 v1
  exact good_upd hv2 (fun hg => hg.buf)

theorem switchAtBoundary_good {wq : Keep} {s : State} (h0 : Good wq s) : Good wq (switchAtBoundary s) := by
  unfold switchAtBoundary
  split
  · exact h0
  · extract_lets -useContext v0 v1 v2 v3
    clear_value v0 v1
    have hv4 : Good wq v2 := good_foldl h0 (fun z6 y7 hz5 => switchEngine_good hz5)
    clear_value v2 v3
    refine good_ite (State.endRun_good (State.intSet_good hv4)) ?_
    split
    · exact State.keepRun_good hv4
    · exact State.endRun_good (State.intSet_good hv4)

theorem synBegin_good {wq : Keep} {r : Running} {s : State} (h1 : Good wq s) : Good wq (synBegin r s) := by
  unfold synBegin
  extract_lets -useContext v0 v1 v2 v3 v4
  clear_value v0 v1
  have hv5 : Good wq v2 := State.setSt_good h1
  clear_value v2 v3
  have hv6 : Good wq v4 := State.setWheel_good hv5
  clear_value v4
  exact good_ite (State.endRun_good h1) (State.endRun_good (State.setFld_good hv6))

theorem synthesisAtBoundary_good {wq : Keep} {s : State} (h0 : Good wq s) : Good wq (synthesisAtBoundary s) := by
  unfold synthesisAtBoundary
  exact good_foldl h0 (fun z1 y2 hz0 => good_ite (synBegin_good hz0) (State.endRun_good (synEnd_good hz0)))

theorem taskCancel_good {wq : Keep}  {rq : Req} {z : State}  (h : Good wq z) : Good wq (taskCancel.run rq z) := by
  unfold taskCancel
  exact good_run (State.finish_good (cancelTask_good h))

theorem taskReady_good {wq : Keep}  {rq : Req} {z : State}  (h : Good wq z) : Good wq (taskReady.run rq z) := by
  unfold taskReady
  exact good_run (State.finish_good (readyTask_good h))

theorem tdCompareDone_good {wq : Keep} {s : State} (h0 : Good wq s) : Good wq (tdCompareDone s) := by
  unfold tdCompareDone
  split
  · exact h0
  · extract_lets -useContext v0 v1 v2 v3 v4 v5 v6 v7 v8
    clear_value v0 v1 v2 v3 v4
    have hv9 : Good wq v5 := State.setFld_good h0
    clear_value v5
    have hv10 : Good wq v6 := State.setFld_good hv9
    clear_value v6
    have hv11 : Good wq v7 := State.setReg_good hv10
    clear_value v7
    have hv12 : Good wq v8 := good_ite hv11 (State.intSet_good hv11)
    clear_value v8
    exact good_ite h0 (State.endRun_good hv12)

theorem tdCompareTimeout_good {wq : Keep} {s : State} (h0 : Good wq s) : Good wq (tdCompareTimeout s) := by
  unfold tdCompareTimeout
  split
  · exact h0
  · exact good_ite h0 (State.endRun_good (State.upTo_good h0))

theorem tgtReset_good {wq : Keep}  {rq : Req} {z : State}  (h : Good wq z) : Good wq (tgtReset.run rq z) := by
  unfold tgtReset
  refine good_run ?_
  extract_lets -useContext v0 v1 v2 v3
  have hv4 : Good wq v1 := State.setItgt_good h
  have hv5 : Good wq v2 := State.setFld_good hv4
  have hv6 : Good wq v3 := good_foldl hv5 (fun z8 y9 hz7 => good_ite (State.setIsrc_good hz7) hz7)
  exact State.finish_good (State.settle_good hv6)

theorem tokenVerifyEnd_good {wq : Keep} {bs : List Byte} {s : State} (h1 : Good wq s) : Good wq (tokenVerifyEnd bs s) := by
  unfold tokenVerifyEnd
  refine good_ite h1 ?_
  refine good_ite ?_ ?_
  · extract_lets -useContext v0 v1
    clear_value v0
    have hv2 : Good wq v1 := State.setNonce_good h1
    clear_value v1
    exact good_ite (levelDue_good hv2) (levelFail_good hv2)
  · refine good_ite ?_ h1
    extract_lets -useContext v3 v4 v5 v6
    clear_value v3
    have hv7 : Good wq v4 := State.setNonce_good h1
    clear_value v4
    have hv8 : Good wq v5 := State.setReg_good hv7
    clear_value v5 v6
    exact good_ite (State.finish_good (good_upd hv8 (fun hg => hg.buf))) (State.finish_good hv7)

theorem unsealCmd_good {wq : Keep}  {rq : Req} {z : State}  (h : Good wq z) : Good wq (unsealCmd.run rq z) := by
  unfold unsealCmd
  exact good_run (good_ite (levelFail_good h) h)

theorem writeEffect_good {wq : Keep} {port : Port} {seq : Nat} {a : Nat} {w : Word} {s : State} (h4 : Good wq s) :
    Good wq (writeEffect port seq a w s) := by
  unfold writeEffect
  extract_lets -useContext v0 v1
  clear_value v0 v1
  exact good_ite (State.setReg_good h4) (good_ite (State.ringRise_good h4 (State.setReg_good h4)) (good_ite (State.ringRise_good h4
      (State.setReg_good h4)) (good_ite (State.putShadow_good h4) (blockWrite_good h4))))

theorem State.cancelEv_good {wq : Keep} {s : State} {e : CalEv} {status : Nat} {code : Nat} (h0 : Good wq s) :
    Good wq (State.cancelEv s e status code) := by
  unfold State.cancelEv
  exact good_ite h0 (good_ite (State.endEv_good (State.unload_good h0)) (State.endEv_good h0))

theorem State.discardQueue_good {wq : Keep} {s : State} {c : Nat} {code : Nat} (h0 : Good wq s) :
    Good wq (State.discardQueue s c code) := by
  unfold State.discardQueue
  extract_lets -useContext v0 v1
  have hv2 : Chan.Ok wq v0 := h0.chan _
  clear_value v0
  have hv3 : Good wq v1 := State.setChan_good h0 (fun _ => hv2.le (by simp) (Nat.le_refl _))
  clear_value v1
  refine good_foldl hv3 ?_
  intro z5 y6 hz4
  split
  · exact hz4
  · split
    · exact hz4
    · exact State.endEv_good hz4

theorem abort_good {wq : Keep}  {rq : Req} {z : State}  (h : Good wq z) : Good wq (abort.run rq z) := by
  unfold abort
  refine good_run ?_
  extract_lets -useContext v0 v1 v2 v3
  clear_value v0
  have hv4 : Good wq v1 := withdraw_good h
  clear_value v1
  have hv5 : Good wq v2 := good_foldl hv4 (fun z7 y8 hz6 => cancelRun_good hz6)
  clear_value v2
  have hv9 : Good wq v3 := good_ite (synEnd_good hv5) hv5
  clear_value v3
  exact State.finish_good (State.dropShadows_good hv9)

theorem bootDone_good {wq : Keep} {r : BootResult} {s : State} (h1 : Good wq s) : Good wq (bootDone r s) := by
  unfold bootDone
  refine good_ite h1 ?_
  extract_lets -useContext v0 v1 v2 v3 v4 v5 v6 v7 v8 v9 v10 v11 v12 v13 v14 v15 v16 v17
  have hv18 : Good wq v0 := State.upTo_good h1
  clear_value v0 v1 v2
  have hv19 : Good wq v3 := good_ite (tornChange_good hv18) (good_upd hv18 (fun hg => hg.buf))
  clear_value v3
  have hv20 : Good wq v4.2 := memoryTest_good hv19
  clear_value v4
  have hv21 : Good wq v5 := hv20
  clear_value v5 v6
  have hv22 : Good wq v7 := good_foldl hv21 (fun z24 y25 hz23 => good_ite (bootCal_good hz23) hz23)
  clear_value v7
  have hv26 : Good wq v8 := good_foldl hv22 (fun z28 y29 hz27 => State.setSt_good hz27)
  clear_value v8 v9 v10
  have hv30 : Good wq v11 := good_ite (sealRecall_good hv26) hv26
  clear_value v11 v12
  have hv31 : Good wq v13 := State.setReg_good hv30
  clear_value v13 v14 v15
  have hv32 : Good wq v16 := good_upd hv31 (fun hg => hg.buf)
  clear_value v16 v17
  refine good_ite (fatal_good hv32) ?_
  refine good_ite (fatal_good hv32) ?_
  split
  · exact fatal_good hv32
  · exact hv32

theorem cancelHandle_good {wq : Keep} {e : Nat} {xd : Nat} {h : Nat} {s : State} (h3 : Good wq s) : Good wq (cancelHandle e xd h s) := by
  unfold cancelHandle
  extract_lets -useContext v0
  have hv1 : ∀ w2 w3, Good wq w3 → Good wq (v0 w2 w3) := by
    intro w2 w3 hw4
    unfold v0
    try beta_reduce
    exact State.setRegs_good hw4
  clear_value v0
  split
  · exact hv1 _ _ h3
  · exact good_ite (hv1 _ _ h3) (good_ite (hv1 _ _ h3) (hv1 _ _ (State.cancelEv_good h3)))

theorem clCmd_good {wq : Keep} {code : Nat} {rq : Req} {z : State}  (h : Good wq z) : Good wq ((clCmd code).run rq z) := by
  unfold clCmd
  split
  · exact taskReady_good h
  · exact taskCancel_good h
  · exact shiftAbort_good h
  · exact undefinedCmd_good h

theorem closeBlock_good {wq : Keep} {n : Nat} {ch : Nat} {s : State} (h2 : Good wq s) : Good wq (closeBlock n ch s) := by
  unfold closeBlock
  split
  · exact h2
  · exact emitBlock_good (State.setAin_good h2)

theorem closeBlocks_good {wq : Keep} {n : Nat} {s : State} (h1 : Good wq s) : Good wq (closeBlocks n s) := by
  unfold closeBlocks
  exact good_foldl h1 (fun z1 y2 hz0 => closeBlock_good hz0)

theorem cmpFlush_good {wq : Keep}  {rq : Req} {z : State}  (h : Good wq z) : Good wq (cmpFlush.run rq z) := by
  unfold cmpFlush
  exact good_run (State.finish_good (good_foldl h (fun z1 y2 hz0 => State.discardQueue_good hz0)))

theorem copyEnd_good {wq : Keep} {k : Nat} {bad : List CopyFault} {s : State} (h2 : Good wq s) : Good wq (copyEnd k bad s) := by
  unfold copyEnd
  split
  · exact h2
  · extract_lets -useContext v0 v1 v2 v3 v4
    have hv5 : Good wq v0 := good_foldl h2 (fun z7 y8 hz6 => rowError_good hz6)
    clear_value v0
    have hv9 : Good wq v1 := by
      refine good_foldl hv5 ?_
      intro z f hz
      split
      · exact good_mk hz (·.host) (·.smem) (·.buf) (fun hg => Store.all_set hg.engs ⟨fun a => by
          dsimp only; exact Memory.setWord_wf ((hg.eng _).mem a), (hg.eng _).stack⟩) (·.clus) (·.chans) (·.msgs)
      · exact State.setShared_good hz
      · exact State.setTask_good hz
      · exact State.setClu_good hz (fun hg => ⟨(hg.clu _).mem, (hg.clu _).msgs, fun b => by
          rw [List.length_modify]; exact (hg.clu _).events b, (hg.clu _).checks⟩)
    have hv15 : Clu.Ok wq v2 := hv9.clu _
    clear_value v1 v2
    have hv16 : Good wq v3 := State.setClu_good hv9 (fun hg => hv15.keep rfl rfl rfl rfl)
    clear_value v3
    have hv17 : Good wq v4 := takeover_good hv16
    clear_value v4
    exact issueRepairs_good (oweRepair_good hv17)

theorem darkIfStored_good {wq : Keep} {s : State} (h0 : Good wq s) : Good wq (darkIfStored s) := by
  unfold darkIfStored
  exact good_ite (goDark_good h0) h0

theorem dbgCmd_good {wq : Keep} {code : Nat} {rq : Req} {z : State}  (h : Good wq z) : Good wq ((dbgCmd code).run rq z) := by
  unfold dbgCmd
  split
  · exact newNonce_good h
  · exact auth_good h
  · exact deauth_good h
  · exact haltReq_good h
  · exact tbPreset_good h
  · exact undefinedCmd_good h

theorem domainOn_good {wq : Keep} {d : Nat} {s : State} (h1 : Good wq s) : Good wq (domainOn d s) := by
  unfold domainOn
  extract_lets -useContext v0 v1 v2 v3 v4 v5 v6
  clear_value v0 v1
  have hv7 : Good wq v2 := h1
  clear_value v2
  have hv8 : Good wq v3 := setDst_good (good_upd h1 (fun hg => hg.buf))
  clear_value v3
  have hv9 : Good wq v4 := good_foldl hv8 (fun z11 y12 hz10 => State.setReg_good hz10)
  clear_value v4
  have hv13 : Good wq v5 := good_ite (applyIdleCounters_good hv9) hv9
  clear_value v5
  have hv14 : Good wq v6 := good_ite hv13 (good_foldl hv13 (fun z16 y17 hz15 => restored_good hz15))
  clear_value v6
  exact good_ite (State.consumersChanged_good hv7 hv14) hv14

theorem endEntry_good {wq : Keep} {n : Nat} {h : Nat} {s : State} (h2 : Good wq s) : Good wq (endEntry n h s) := by
  unfold endEntry
  extract_lets -useContext v0
  clear_value v0
  exact beginEntry_good (closeBlocks_good h2)

theorem enpendStart_good {wq : Keep} {s : State} (h0 : Good wq s) : Good wq (enpendStart s) := by
  unfold enpendStart
  exact good_foldl h0 (fun z1 y2 hz0 => good_ite (enterService_good (State.setEnpend_good hz0)) hz0)

theorem execBootDone_good {wq : Keep} {r : BootResult} {s : State} (hst : Good wq s) : ∃ wt, execBootDone r s = .next wt ∧ Good wq wt :=
  next_good rfl (bootDone_good hst)

theorem execGroupCommitPrepared_good {wq : Keep} {s : State} (hst : Good wq s) : ∃ wt, execGroupCommitPrepared s = .next wt ∧ Good wq wt :=
  next_good rfl (groupPrepared_good hst)

theorem execLoadComplete_good {wq : Keep} {img : Image} {s : State} (hst : Good wq s) :
    ∃ wt, execLoadComplete img s = .next wt ∧ Good wq wt :=
  next_good rfl (loadComplete_good hst)

theorem execMapPublish_good {wq : Keep} {s : State} (hst : Good wq s) : ∃ wt, execMapPublish s = .next wt ∧ Good wq wt :=
  next_good rfl (mapPublish_good hst)

theorem execMigrationCopyEnd_good {wq : Keep} {c : Fin 16} {zeroed : List CopyFault} {s : State} (hst : Good wq s) :
    ∃ wt, execMigrationCopyEnd c zeroed s = .next wt ∧ Good wq wt :=
  next_good rfl (copyEnd_good hst)

theorem execMirrorCopyComplete_good {wq : Keep} {s : State} (hst : Good wq s) : ∃ wt, execMirrorCopyComplete s = .next wt ∧ Good wq wt :=
  next_good rfl (mirrorCopyComplete_good hst)

theorem execReadoutComplete_good {wq : Keep} {s : State} (hst : Good wq s) : ∃ wt, execReadoutComplete s = .next wt ∧ Good wq wt :=
  next_good rfl (readoutComplete_good hst)

theorem execRejoinWorkEnd_good {wq : Keep} {d : Fin 92} {test : RejoinResult} {s : State} (hst : Good wq s) :
    ∃ wt, execRejoinWorkEnd d test s = .next wt ∧ Good wq wt :=
  next_good rfl (rejoinWorkEnd_good hst)

theorem execSealVerifyEnd_good {wq : Keep} {pkg : List Byte} {s : State} (hst : Good wq s) :
    ∃ wt, execSealVerifyEnd pkg s = .next wt ∧ Good wq wt :=
  next_good rfl (sealVerifyEnd_good hst)

theorem execSelftestDone_good {wq : Keep} {page : BitVec 12} {pass : Bool} {s : State} (hst : Good wq s) :
    ∃ wt, execSelftestDone page pass s = .next wt ∧ Good wq wt :=
  next_good rfl (selftestDone_good hst)

theorem execSupplyReturn_good {wq : Keep} {mv : Nat} {s : State} (hst : Good wq s) : ∃ wt, execSupplyReturn mv s = .next wt ∧ Good wq wt :=
  next_good rfl (supplyReturn_good hst)

theorem execTdCompareDone_good {wq : Keep} {s : State} (hst : Good wq s) : ∃ wt, execTdCompareDone s = .next wt ∧ Good wq wt :=
  next_good rfl (tdCompareDone_good hst)

theorem execTdCompareTimeout_good {wq : Keep} {s : State} (hst : Good wq s) : ∃ wt, execTdCompareTimeout s = .next wt ∧ Good wq wt :=
  next_good rfl (tdCompareTimeout_good hst)

theorem execTokenVerifyEnd_good {wq : Keep} {tok : List Byte} {s : State} (hst : Good wq s) :
    ∃ wt, execTokenVerifyEnd tok s = .next wt ∧ Good wq wt :=
  next_good rfl (tokenVerifyEnd_good hst)

theorem execWheelDecoderMismatch_good {wq : Keep} {u : Fin 8} {s : State} (hst : Good wq s) :
    ∃ wt, execWheelDecoderMismatch u s = .next wt ∧ Good wq wt :=
  next_good rfl (good_ite (failBlock_good hst) hst)

theorem finishPosted_good {wq : Keep} {e : Posted} {act : State → Nat × State} {s : State} (h1 : ∀ w0, Good wq w0 → Good wq (act w0).2) (h2
    : Good wq s) :
    Good wq (finishPosted e act s) := by
  unfold finishPosted
  extract_lets -useContext v1 v2 v3
  clear_value v1
  have hv4 : Good wq v2 := good_upd h2 (fun hg => hg.buf)
  clear_value v2
  have hv5 : Good wq v3.2 := h1 _ hv4
  clear_value v3
  exact settleNops_good (State.settleSeq_good (good_ite hv5 (logFailed_good hv5)))

theorem goOpen_good {wq : Keep}  {rq : Req} {z : State}  (h : Good wq z) : Good wq (goOpen.run rq z) := by
  unfold goOpen
  exact good_run (good_ite (levelFail_good h) (good_ite (levelFail_good h) (levelDue_good h)))

theorem goTeam_good {wq : Keep}  {rq : Req} {z : State}  (h : Good wq z) : Good wq (goTeam.run rq z) := by
  unfold goTeam
  exact good_run (good_ite (levelFail_good h) (good_ite (levelFail_good h) (levelDue_good h)))

theorem hwCheck_good {wq : Keep} {e : Nat} {hw : HwFault} {reads : Option (Bool × Nat)} {k : State → State} {s : State} (h3 : ∀ w0, Good wq
    w0 → Good wq (k w0)) (h4 : Good wq s) :
    Good wq (hwCheck e hw reads k s) := by
  unfold hwCheck
  extract_lets -useContext v1
  have hv2 : ∀ w3 w4, Good wq w4 → Good wq (v1 w3 w4) := by
    intro w3 w4 hw5
    unfold v1
    try beta_reduce
    exact pairFault_good (State.intSet_good (logCheck_good hw5))
  clear_value v1
  split
  · exact rowError_good (good_ite (hv2 _ _ h4) (machineCheck_good h4))
  · exact good_ite (rowError_good (hv2 _ _ h4)) (h3 _ h4)
  · exact good_ite (pairFault_good h4) (h3 _ h4)
  · exact h3 _ (checkerLost_good h4)
  · exact h3 _ h4

theorem moveRole_good {wq : Keep} {c : Nat} {k : Nat} {s : State} (h2 : Good wq s) : Good wq (moveRole c k s) := by
  unfold moveRole
  extract_lets -useContext v0 v1 v2 v3 v4 v5 v6 v7 v8 v9 v10 v11 v12
  clear_value v0 v1
  have hv13 : Good wq v2 := good_ite h2 (settleEngines_good (endShifts_good h2))
  clear_value v2
  have hv14 : Good wq v3 := good_foldl hv13 (fun z16 y17 hz15 => freeEngine_good hz15)
  have hv18 : Clu.Ok wq v5 := hv14.clu _
  clear_value v3 v4 v5
  have hv19 : Good wq v6 :=
    copyClusterCfg_good (State.setClu_good hv14 (fun _ => hv18.le rfl (by simp) (Nat.le_refl _) (Nat.le_refl _)))
  clear_value v6
  have hv20 : Good wq v7 := good_upd hv19 (fun hg => hg.buf)
  clear_value v7
  have hv21 : Good wq v8 := takeRole_good (dropRole_good (State.setSt_good hv20))
  clear_value v8
  have hv22 : Good wq v9 := copyRole_good hv21
  clear_value v9
  have hv23 : Good wq v10 := good_ite hv22 (State.setSt_good hv22)
  clear_value v10
  have hv24 : Good wq v11 := moveRoleMap_good hv23
  clear_value v11
  have hv25 : Good wq v12 := good_foldl hv24 (fun z27 y28 hz26 => bounce_good hz26)
  clear_value v12
  exact good_ite (copyEnd_good hv25) hv25

theorem nop_good {wq : Keep}  {rq : Req} {z : State}  (h : Good wq z) : Good wq (nop.run rq z) := by
  unfold nop
  refine good_run ?_
  extract_lets -useContext v0
  clear_value v0
  exact settleNops_good (State.keepLast_good h)

theorem passOver_good {wq : Keep} {n : Nat} {h : Nat} {s : State} (h2 : Good wq s) : Good wq (passOver n h s) := by
  unfold passOver
  refine good_ite h2 ?_
  extract_lets -useContext v0 v1
  clear_value v0
  have hv2 : Good wq v1 := State.setAdc_good h2
  clear_value v1
  exact good_ite (endEntry_good hv2) hv2

theorem pchgCmd_good {wq : Keep} {code : Nat} {rq : Req} {z : State}  (h : Good wq z) : Good wq ((pchgCmd code).run rq z) := by
  unfold pchgCmd
  split
  · exact cmpPush_good h
  · exact cmpFlush_good h
  · exact stagger_good h
  · exact capFlush_good h
  · exact undefinedCmd_good h

theorem pressRepair_good {wq : Keep} {readBackOk : Bool} {s : State} (h1 : Good wq s) : Good wq (pressRepair readBackOk s) := by
  unfold pressRepair
  split
  · exact h1
  · extract_lets -useContext v0 v1 v2 v3
    clear_value v0
    have hv4 : Good wq v1 := good_upd h1 (fun hg => hg.buf)
    clear_value v1 v2
    have hv5 : Good wq v3 := State.setReg_good hv4
    clear_value v3
    exact good_ite (State.intSet_good (State.addSat_good (State.putBank_good hv5))) (rowRepair_good (State.intSet_good (State.setFld_good
        hv5)))

theorem pwmMigrate_good {wq : Keep} {s : State} (h0 : Good wq s) : Good wq (pwmMigrate s) := by
  unfold pwmMigrate
  refine good_foldl h0 ?_
  intro z1 y2 hz0
  split
  · exact hz0
  · exact good_ite (State.endRun_good (pwmTake_good hz0)) (good_ite (State.endRun_good (pwmGive_good hz0)) hz0)

theorem resetPins_good {wq : Keep} {p : Nat} {code : Nat} {s : State} (h2 : Good wq s) : Good wq (resetPins p code s) :=
  good_foldl h2 (fun _ _ hz => State.setChan_good (State.discardQueue_good hz) (fun hg => (hg.chan _).le (Nat.le_refl _) (by simp)))

theorem restartAtBoundary_good {wq : Keep} {n : Nat} {s : State} (h1 : Good wq s) : Good wq (restartAtBoundary n s) := by
  unfold restartAtBoundary
  refine good_ite ?_ h1
  extract_lets -useContext v0 v1
  have hv2 : Good wq v0 := closeBlocks_good h1
  clear_value v0
  have hv3 : Good wq v1 := good_ite hv2 (beginEntry_good hv2)
  clear_value v1
  exact State.finish_good hv3

theorem rindCmd_good {wq : Keep} {code : Nat} {rq : Req} {z : State}  (h : Good wq z) : Good wq ((rindCmd code).run rq z) := by
  unfold rindCmd
  split
  · exact newNonce_good h
  · exact auth_good h
  · exact deauth_good h
  · exact goTeam_good h
  · exact goOpen_good h
  · exact sealCmd_good h
  · exact unsealCmd_good h
  · exact chgAuth_good h
  · exact readout_good h
  · exact undefinedCmd_good h

theorem sampleStore_good {wq : Keep} {n : Nat} {s : State} (h1 : Good wq s) : Good wq (sampleStore n s) := by
  unfold sampleStore
  split
  · exact h1
  · refine good_ite h1 ?_
    extract_lets -useContext v0 v1
    clear_value v0
    have hv2 : Good wq v1 := State.setAdc_good (State.upTo_good h1)
    clear_value v1
    exact darkIfStored_good (storeHeld_good hv2)

theorem seqChanged_good {wq : Keep} {n : Nat} {blocks : Bool} {s : State} (h2 : Good wq s) : Good wq (seqChanged n blocks s) := by
  unfold seqChanged
  extract_lets -useContext v0 v1
  have hv2 : Good wq v0 := good_ite (closeBlocks_good h2) h2
  clear_value v0 v1
  exact good_ite hv2 (passOver_good hv2)

theorem seqEntryStart_good {wq : Keep} {n : Nat} {s : State} (h1 : Good wq s) : Good wq (seqEntryStart n s) := by
  unfold seqEntryStart
  extract_lets -useContext v0 v1
  clear_value v0
  have hv2 : Good wq v1 := State.upTo_good h1
  clear_value v1
  exact good_ite h1 (good_ite (endEntry_good hv2) (State.setAdc_good hv2))

theorem seqOp_good {wq : Keep} {e : Nat} {nxt : Nat} {n : NFields} {hw : HwFault} {s : State} (h4 : Good wq s) :
    Good wq (seqOp e nxt n hw s) := by
  unfold seqOp
  refine good_ite h4 ?_
  split
  · exact h4
  · refine good_ite h4 ?_
    split
    · exact machineCheck_good h4
    · refine hwCheck_good ?_ h4
      intro w0 hw1
      split
      · exact machineCheck_good hw1
      · rename_i he
        exact endWord_good hw1 (fun b => nextAddr_stack he ((hw1.eng _).stack b))

theorem seqSync_good {wq : Keep} {n : Nat} {s : State} (h1 : Good wq s) : Good wq (seqSync n s) := by
  unfold seqSync
  extract_lets -useContext v0 v1 v2 v3
  clear_value v0
  have hv4 : Good wq v1 := closeBlocks_good h1
  clear_value v1 v2
  have hv5 : Good wq v3 := State.setAdc_good hv4
  clear_value v3
  exact good_ite h1 (good_ite hv5 (beginEntry_good hv5))

theorem stopCores_good {wq : Keep} {s : State} (h0 : Good wq s) : Good wq (stopCores s) := by
  unfold stopCores
  refine good_foldl h0 ?_
  intro z1 y2 hz0
  extract_lets -useContext v3 v4
  have hv5 : Good wq v3 := closeBlocks_good hz0
  clear_value v3 v4
  exact State.setAdc_good hv5

theorem storeAll_good {wq : Keep} {s : State} (h0 : Good wq s) : Good wq (storeAll s) := by
  unfold storeAll
  exact good_foldl h0 (fun z1 y2 hz0 => good_foldl hz0 (fun z4 y5 hz3 => sampleStore_good hz3))

theorem substitute_good {wq : Keep} {g : Nat} {s : State} (h1 : Good wq s) : Good wq (substitute g s) := by
  unfold substitute
  extract_lets -useContext v0 v1 v2 v3 v4 v5 v6 v7 v8 v9 v10
  clear_value v0
  have hv11 : Good wq v1 := copyCore_good (closeBlocks_good h1)
  clear_value v1 v2
  have hv12 : Good wq v3 := State.setAdc_good hv11
  clear_value v3
  have hv13 : Good wq v4 := State.setReg_good hv12
  clear_value v4
  have hv14 : Good wq v5 := seqSync_good (State.setSt_good hv13)
  clear_value v5
  have hv15 : Good wq v6 := good_foldl hv14 (fun z17 y18 hz16 => State.bellIf_good hz16)
  clear_value v6
  have hv19 : Good wq v7 := good_ite (passPipe_good hv15) (loseHeld_good hv15)
  clear_value v7 v8
  have hv20 : Good wq v9 := State.setAdc_good hv19
  clear_value v9
  have hv21 : Good wq v10 := good_ite (State.setSt_good hv20) hv20
  clear_value v10
  exact State.intSet_good (State.intSet_good hv21)

theorem takeSample_good {wq : Keep} {n : Nat} {ch : Nat} {rng : Nat} {h : Nat} {urgent : Bool} {raw : Int} {s : State} (h6 : Good wq s) :
    Good wq (takeSample n ch rng h urgent raw s).2 := by
  unfold takeSample
  extract_lets -useContext v0 v1 v2 v3 v4 v5 v6 v7 v8 v9 v10
  clear_value v0 v1
  have hv11 : Good wq v2 := good_ite (closeBlock_good h6) h6
  clear_value v2 v3 v4
  have hv12 : Good wq v5 := State.setAin_good hv11
  clear_value v5 v6
  have hv13 : Good wq v7 := State.setAdc_good hv12
  clear_value v7
  have hv14 : Good wq v8 := State.setReg_good hv13
  clear_value v8 v9 v10
  exact good_pair hv14

theorem tbStop_good {wq : Keep} {s : State} (h0 : Good wq s) : Good wq (tbStop s) := by
  unfold tbStop
  refine good_ite ?_ h0
  extract_lets -useContext v0
  have hv1 : Good wq v0 := darkIfStored_good (storeAll_good h0)
  clear_value v0
  exact good_upd hv1 (fun hg => hg.buf)

theorem State.cancelAll_good {wq : Keep} {s : State} {test : CalEv → Bool} {status : Nat} {code : Nat} (h0 : Good wq s) :
    Good wq (State.cancelAll s test status code).2 := by
  unfold State.cancelAll
  extract_lets -useContext v1
  clear_value v1
  exact good_pair (good_foldl h0 (fun z3 y4 hz2 => State.cancelEv_good hz2))

theorem State.cancelAngles_good {wq : Keep} {s : State} {v : Nat} (h0 : Good wq s) : Good wq (State.cancelAngles s v) := by
  unfold State.cancelAngles
  exact State.cancelAll_good h0

theorem State.cancelCalendar_good {wq : Keep} {s : State} (h0 : Good wq s) : Good wq (State.cancelCalendar s) := by
  unfold State.cancelCalendar
  exact State.cancelAll_good h0

theorem State.syncLost_good {wq : Keep} {s : State} {v : Nat} (h0 : Good wq s) : Good wq (State.syncLost s v) := by
  unfold State.syncLost
  exact closeWheelLanes_good (State.cancelAngles_good h0)

theorem armBegin_good {wq : Keep} {s : State} (h0 : Good wq s) : Good wq (armBegin s) := by
  unfold armBegin
  extract_lets -useContext v0
  have hv1 : Good wq v0 := enpendStart_good h0
  clear_value v0
  exact mirrorAtRun_good (good_upd hv1 (fun hg => hg.buf))

theorem cancelCmd_good {wq : Keep} {code : Nat} {test : State → CalEv → Bool} {rq : Req} {z : State}  (h : Good wq z) :
    Good wq ((cancelCmd code test).run rq z) := by
  unfold cancelCmd
  refine good_run ?_
  split
  rename_i a0 t1 heq2
  have hm3 : Good wq t1 := by
    exact good_snd_eq heq2 (State.cancelAll_good h)
  exact State.finish_good hm3

theorem clusterMigrate_good {wq : Keep} {c : Nat} {s : State} (h1 : Good wq s) : Good wq (clusterMigrate c s) := by
  unfold clusterMigrate
  extract_lets -useContext v0 v1 v2 v3 v4 v5 v6 v7 v8
  have hv9 : Clu.Ok wq v1 := (h1.clu _)
  clear_value v0 v1
  have hv10 : Good wq v2 := good_ite (State.blockFault_good (State.setClu_good h1 (fun hg => hv9.keep rfl rfl rfl rfl))) h1
  have hv11 : Clu.Ok wq v5 := (hv10.clu _)
  clear_value v2 v3 v4 v5
  have hv12 : Good wq v6 := State.unlist_good (State.setClu_good hv10 (fun hg => hv11.keep rfl rfl rfl rfl))
  clear_value v6
  have hv13 : Good wq v7 := unspared_good hv12
  clear_value v7 v8
  refine good_ite hv10 ?_
  refine good_ite hv12 ?_
  refine good_ite (good_ite (unspared_good hv12) hv12) ?_
  split
  · exact moveRole_good hv12
  · exact good_ite (good_ite (oweRepair_good hv13) hv13) (State.alarm_good hv12)

theorem committedAdc_good {wq : Keep} {old : State} {n : Nat} {s : State} (h0 : Good wq old) (h2 : Good wq s) :
    Good wq (committedAdc old n s) := by
  unfold committedAdc
  extract_lets -useContext v0 v1 v2 v3 v4 v5 v6
  clear_value v0
  have hv7 : Good wq v1 := good_foldl h2 (fun z9 y10 hz8 => good_ite (emptyRing_good hz8) hz8)
  clear_value v1
  have hv11 : Good wq v2 := good_ite (State.setFld_good hv7) hv7
  clear_value v2 v3 v4 v5 v6
  exact good_ite (seqChanged_good hv11) hv11

theorem ctlOp_good {wq : Keep} {e : Nat} {code : Nat} {x : XFields} {n : CtlNext} {hw : HwFault} {op : WordSt → TaskCtl} {s : State}
    (h6 : Good wq s) : Good wq (ctlOp e code x n hw op s) := by
  unfold ctlOp
  refine State.slot_good h6 ?_
  intro w1 w2 hw3
  refine hwCheck_good ?_ hw3
  intro w4 hw5
  split
  · exact machineCheck_good hw5
  · rename_i he
    exact endWord_good hw5 (fun b => nextAddr_stack he ((hw5.eng _).stack b))

theorem discardLoaded_good {wq : Keep} {d : Nat} {s : State} (h1 : Good wq s) : Good wq (discardLoaded d s) := by
  unfold discardLoaded
  refine good_ite ?_ h1
  extract_lets -useContext v0
  clear_value v0
  exact good_foldl (resetPins_good h1) (fun z2 y3 hz1 => unitOff_good hz1)

theorem domainPowerOff_good {wq : Keep} {d : Nat} {s : State} (h1 : Good wq s) : Good wq (domainPowerOff d s) := by
  unfold domainPowerOff
  split
  · refine good_ite ?_ h1
    extract_lets -useContext v0 v1
    have hv2 : Good wq v0 := setDst_good (discardLoaded_good h1)
    clear_value v0
    have hv3 : Good wq v1 := by
      unfold v1
      refine good_ite ?_ hv2
      refine good_mk ?_ (fun hg => ?_) (fun hg => ?_) (fun hg => ?_) (fun hg => ?_) (fun hg => ?_) (fun hg => ?_) (fun hg => ?_)
      · exact hv2
      · exact hg.host
      · first | exact fun hm => Memory.setWord_wf (hg.smem hm) | exact fun hm => Memory.setWords_wf (hg.smem hm) | exact fun _ => rfl
      · exact hg.buf
      · exact hg.engs
      · exact hg.clus
      · exact hg.chans
      · exact hg.msgs
    clear_value v1
    exact State.endRun_good hv3
  · exact h1

theorem enterDormant_good {wq : Keep} {r : Running} {s : State} (h1 : Good wq s) : Good wq (enterDormant r s) := by
  unfold enterDormant
  extract_lets -useContext v0 v1 v2 v3 v4
  have hv5 : Good wq v0 := State.cancelCalendar_good (putMode_good (stopCores_good h1))
  clear_value v0
  have hv6 : Good wq v1 := drainCompletions_good hv5
  clear_value v1
  have hv7 : Good wq v2 := State.clearAuth_good (State.endSessions_good hv6)
  clear_value v2
  have hv8 : Good wq v3 := State.endRun_good hv7
  clear_value v3 v4
  exact darkIfStored_good (good_upd hv8 (fun hg => hg.buf))

theorem evCancel_good {wq : Keep}  {rq : Req} {z : State}  (h : Good wq z) : Good wq (evCancel.run rq z) := by
  unfold evCancel
  exact cancelCmd_good h

theorem evCancelRole_good {wq : Keep} {epoch : State → Nat → Nat} {rq : Req} {z : State}  (h : Good wq z) :
    Good wq ((evCancelRole epoch).run rq z) := by
  unfold evCancelRole
  exact cancelCmd_good h

theorem evFlushWheel_good {wq : Keep}  {rq : Req} {z : State}  (h : Good wq z) : Good wq (evFlushWheel.run rq z) := by
  unfold evFlushWheel
  exact cancelCmd_good h

theorem execAadds_good {wq : Keep} {e : Fin 128} {x : XFields} {hw : HwFault} {s : State} (hst : Good wq s) :
    ∃ wt, execAadds e x hw s = .next wt ∧ Good wq wt := by
  refine next_good rfl ?_
  refine State.slot_good hst ?_
  intro w0 w1 hw2
  refine hwCheck_good ?_ hw2
  intro w3 hw4
  extract_lets -useContext v5 v6 v7
  clear_value v5 v6 v7
  exact State.wakeLevels_good (State.setRegs_good (State.setShared_good hw4))

theorem execBr_good {wq : Keep} {e : Fin 128} {n : NFields} {hw : HwFault} {s : State} (hst : Good wq s) :
    ∃ wt, execBr e n hw s = .next wt ∧ Good wq wt :=
  next_good rfl (seqOp_good hst)

theorem execBrc_good {wq : Keep} {e : Fin 128} {n : NFields} {hw : HwFault} {s : State} (hst : Good wq s) :
    ∃ wt, execBrc e n hw s = .next wt ∧ Good wq wt :=
  next_good rfl (seqOp_good hst)

theorem execCall_good {wq : Keep} {e : Fin 128} {n : NFields} {hw : HwFault} {s : State} (hst : Good wq s) :
    ∃ wt, execCall e n hw s = .next wt ∧ Good wq wt :=
  next_good rfl (seqOp_good hst)

theorem execCallc_good {wq : Keep} {e : Fin 128} {n : NFields} {hw : HwFault} {s : State} (hst : Good wq s) :
    ∃ wt, execCallc e n hw s = .next wt ∧ Good wq wt :=
  next_good rfl (seqOp_good hst)

theorem execCancel_good {wq : Keep} {e : Fin 128} {x : XFields} {hw : HwFault} {s : State} (hst : Good wq s) :
    ∃ wt, execCancel e x hw s = .next wt ∧ Good wq wt :=
  next_good rfl (State.slot_good hst (fun w0 w1 hw2 => hwCheck_good (fun w3 hw4 => cancelHandle_good hw4) hw2))

theorem execCaprd_good {wq : Keep} {e : Fin 128} {x : XFields} {hw : HwFault} {s : State} (hst : Good wq s) :
    ∃ wt, execCaprd e x hw s = .next wt ∧ Good wq wt :=
  next_good rfl (State.slot_good hst (fun w0 w1 hw2 => hwCheck_good (fun w3 hw4 => capRead_good hw4) hw2))

theorem execCfg_good {wq : Keep} {e : Fin 128} {x : XFields} {hw : HwFault} {s : State} (hst : Good wq s) :
    ∃ wt, execCfg e x hw s = .next wt ∧ Good wq wt :=
  next_good rfl (State.slot_good hst (fun w0 w1 hw2 => hwCheck_good (fun w3 hw4 => shiftCfg_good hw4) hw2))

theorem execDomainPowerOff_good {wq : Keep} {d : Fin 92} {s : State} (hst : Good wq s) :
    ∃ wt, execDomainPowerOff d s = .next wt ∧ Good wq wt :=
  next_good rfl (domainPowerOff_good hst)

theorem execDone_good {wq : Keep} {e : Fin 128} {x : XFields} {n : CtlNext} {hw : HwFault} {s : State} (hst : Good wq s) :
    ∃ wt, execDone e x n hw s = .next wt ∧ Good wq wt :=
  next_good rfl (ctlOp_good hst)

theorem execEcrd_good {wq : Keep} {e : Fin 128} {x : XFields} {hw : HwFault} {s : State} (hst : Good wq s) :
    ∃ wt, execEcrd e x hw s = .next wt ∧ Good wq wt := by
  refine next_good rfl (State.slot_good hst (fun w0 w1 hw2 => hwCheck_good (fun w3 hw4 => ?_) hw2))
  extract_lets -useContext v5 v6
  split
  · exact State.setS_good hw4
  · rename_i he
    exact State.setS_good (State.setRegs_good (State.setClu_good hw4
      (fun hg => (hg.clu _).le rfl (Nat.le_refl _) (by rw [he]; simp) (Nat.le_refl _))))

theorem execInc_good {wq : Keep} {e : Fin 128} {n : NFields} {hw : HwFault} {s : State} (hst : Good wq s) :
    ∃ wt, execInc e n hw s = .next wt ∧ Good wq wt :=
  next_good rfl (seqOp_good hst)

theorem execLdl_good {wq : Keep} {e : Fin 128} {x : XFields} {hw : HwFault} {s : State} (hst : Good wq s) :
    ∃ wt, execLdl e x hw s = .next wt ∧ Good wq wt := by
  refine next_good rfl ?_
  refine State.slot_good hst ?_
  intro w0 w1 hw2
  refine hwCheck_good ?_ hw2
  intro w3 hw4
  extract_lets -useContext v5
  clear_value v5
  exact State.setRegs_good hw4

theorem execLdq_good {wq : Keep} {e : Fin 128} {x : XFields} {hw : HwFault} {s : State} (hst : Good wq s) :
    ∃ wt, execLdq e x hw s = .next wt ∧ Good wq wt :=
  next_good rfl (State.slot_good hst (fun w0 w1 hw2 => hwCheck_good (fun w3 hw4 => State.setRegs_good hw4) hw2))

theorem execLds_good {wq : Keep} {e : Fin 128} {x : XFields} {hw : HwFault} {s : State} (hst : Good wq s) :
    ∃ wt, execLds e x hw s = .next wt ∧ Good wq wt := by
  refine next_good rfl ?_
  refine State.slot_good hst ?_
  intro w0 w1 hw2
  refine hwCheck_good ?_ hw2
  intro w3 hw4
  extract_lets -useContext v5
  clear_value v5
  exact State.setRegs_good hw4

theorem execLogw_good {wq : Keep} {e : Fin 128} {x : XFields} {hw : HwFault} {s : State} (hst : Good wq s) :
    ∃ wt, execLogw e x hw s = .next wt ∧ Good wq wt :=
  next_good rfl (State.slot_good hst (fun w0 w1 hw2 => hwCheck_good (fun w3 hw4 => writeLog_good hw4) hw2))

theorem execMsgrecv_good {wq : Keep} {e : Fin 128} {x : XFields} {hw : HwFault} {s : State} (hst : Good wq s) :
    ∃ wt, execMsgrecv e x hw s = .next wt ∧ Good wq wt := by
  refine next_good rfl (State.slot_good hst (fun w0 w1 hw2 => hwCheck_good (fun w3 hw4 => ?_) hw2))
  extract_lets -useContext v5 v6
  split
  · exact State.setS_good hw4
  · rename_i he
    exact State.setS_good (State.setRegs_good (State.setClu_good hw4
      (fun hg => (hg.clu _).le rfl (by rw [he]; simp) (Nat.le_refl _) (Nat.le_refl _))))

theorem execMsgsend_good {wq : Keep} {e : Fin 128} {x : XFields} {hw : HwFault} {s : State} (hst : Good wq s) :
    ∃ wt, execMsgsend e x hw s = .next wt ∧ Good wq wt :=
  next_good rfl (State.slot_good hst (fun w0 w1 hw2 => hwCheck_good (fun w3 hw4 => sendMsg_good hw4) hw2))

theorem execPost_good {wq : Keep} {e : Fin 128} {x : XFields} {hw : HwFault} {s : State} (hst : Good wq s) :
    ∃ wt, execPost e x hw s = .next wt ∧ Good wq wt :=
  next_good rfl (State.slot_good hst (fun w0 w1 hw2 => hwCheck_good (fun w3 hw4 => postEntry_good hw4) hw2))

theorem execPressRepair_good {wq : Keep} {readBackOk : Bool} {s : State} (hst : Good wq s) :
    ∃ wt, execPressRepair readBackOk s = .next wt ∧ Good wq wt :=
  next_good rfl (pressRepair_good hst)

theorem execRet_good {wq : Keep} {e : Fin 128} {n : NFields} {hw : HwFault} {s : State} (hst : Good wq s) :
    ∃ wt, execRet e n hw s = .next wt ∧ Good wq wt :=
  next_good rfl (seqOp_good hst)

theorem execRetc_good {wq : Keep} {e : Fin 128} {n : NFields} {hw : HwFault} {s : State} (hst : Good wq s) :
    ∃ wt, execRetc e n hw s = .next wt ∧ Good wq wt :=
  next_good rfl (seqOp_good hst)

theorem execRing_good {wq : Keep} {e : Fin 128} {x : XFields} {hw : HwFault} {s : State} (hst : Good wq s) :
    ∃ wt, execRing e x hw s = .next wt ∧ Good wq wt :=
  next_good rfl (State.slot_good hst (fun w0 w1 hw2 => hwCheck_good (fun w3 hw4 => State.bell_good hw4) hw2))

theorem execRx_good {wq : Keep} {e : Fin 128} {x : XFields} {hw : HwFault} {s : State} (hst : Good wq s) :
    ∃ wt, execRx e x hw s = .next wt ∧ Good wq wt :=
  next_good rfl (State.slot_good hst (fun w0 w1 hw2 => hwCheck_good (fun w3 hw4 => shiftRx_good hw4) hw2))

theorem execSampleStore_good {wq : Keep} {n : Fin 5} {s : State} (hst : Good wq s) : ∃ wt, execSampleStore n s = .next wt ∧ Good wq wt :=
  next_good rfl (sampleStore_good hst)

theorem execSeqEntryStart_good {wq : Keep} {n : Fin 5} {s : State} (hst : Good wq s) :
    ∃ wt, execSeqEntryStart n s = .next wt ∧ Good wq wt :=
  next_good rfl (seqEntryStart_good hst)

theorem execSmprd_good {wq : Keep} {e : Fin 128} {x : XFields} {hw : HwFault} {s : State} (hst : Good wq s) :
    ∃ wt, execSmprd e x hw s = .next wt ∧ Good wq wt :=
  next_good rfl (State.slot_good hst (fun w0 w1 hw2 => hwCheck_good (fun w3 hw4 => sampleRead_good hw4) hw2))

theorem execSt_good {wq : Keep} {e : Fin 128} {x : XFields} {hw : HwFault} {s : State} (hst : Good wq s) :
    ∃ wt, execSt e x hw s = .next wt ∧ Good wq wt := by
  refine next_good rfl ?_
  refine State.slot_good hst ?_
  intro w0 w1 hw2
  refine hwCheck_good ?_ hw2
  intro w3 hw4
  extract_lets -useContext v5 v6 v7
  clear_value v5 v6
  have hv8 : Good wq v7 := State.setUnit_good hw4
  clear_value v7
  exact State.setS_good (State.setRegs_good hv8)

theorem execSts_good {wq : Keep} {e : Fin 128} {x : XFields} {hw : HwFault} {s : State} (hst : Good wq s) :
    ∃ wt, execSts e x hw s = .next wt ∧ Good wq wt := by
  refine next_good rfl ?_
  refine State.slot_good hst ?_
  intro w0 w1 hw2
  refine hwCheck_good ?_ hw2
  intro w3 hw4
  extract_lets -useContext v5 v6
  clear_value v5 v6
  exact State.wakeLevels_good (State.setShared_good hw4)

theorem execTbStop_good {wq : Keep} {s : State} (hst : Good wq s) : ∃ wt, execTbStop s = .next wt ∧ Good wq wt :=
  next_good rfl (tbStop_good hst)

theorem execTx_good {wq : Keep} {e : Fin 128} {x : XFields} {hw : HwFault} {s : State} (hst : Good wq s) :
    ∃ wt, execTx e x hw s = .next wt ∧ Good wq wt :=
  next_good rfl (State.slot_good hst (fun w0 w1 hw2 => hwCheck_good (fun w3 hw4 => shiftTx_good hw4) hw2))

theorem execWaitev_good {wq : Keep} {e : Fin 128} {x : XFields} {n : CtlNext} {hw : HwFault} {s : State} (hst : Good wq s) :
    ∃ wt, execWaitev e x n hw s = .next wt ∧ Good wq wt :=
  next_good rfl (ctlOp_good hst)

theorem execYield_good {wq : Keep} {e : Fin 128} {x : XFields} {n : CtlNext} {hw : HwFault} {s : State} (hst : Good wq s) :
    ∃ wt, execYield e x n hw s = .next wt ∧ Good wq wt :=
  next_good rfl (ctlOp_good hst)

theorem loseContents_good {wq : Keep} {d : Nat} {s : State} (h1 : Good wq s) : Good wq (loseContents d s) := by
  unfold loseContents
  refine good_ite (resetCluster_good h1) ?_
  refine good_ite ?_ ?_
  · extract_lets -useContext v0
    clear_value v0
    exact good_upd h1 (fun hg => hg.buf)
  · refine good_ite ?_ ?_
    · extract_lets -useContext v1 v2
      clear_value v1
      have hv3 : Good wq v2 := resetPins_good h1
      clear_value v2
      refine good_foldl hv3 ?_
      intro z5 y6 hz4
      extract_lets -useContext v7 v8
      have hv9 : Chan.Ok wq v8 := (hz4.chan _)
      clear_value v7 v8
      exact State.setChan_good hz4 (fun hg => hv9.keep rfl rfl)
    · refine good_ite (State.setAdc_good h1) ?_
      refine good_ite (resetPwm_good h1) ?_
      refine good_ite (State.setWheel_good (wheelOff_good h1)) ?_
      refine good_ite (good_upd h1 (fun hg => hg.buf)) ?_
      refine good_ite (good_upd h1 (fun hg => hg.buf)) ?_
      refine good_ite (good_upd h1 (fun hg => hg.buf)) ?_
      refine good_ite (good_upd h1 (fun hg => hg.buf)) ?_
      refine good_ite (good_upd h1 (fun hg => hg.buf)) ?_
      refine good_ite (good_upd h1 (fun hg => by first | exact hg.buf | exact fun _ => rfl)) ?_
      refine good_ite ?_ ?_
      · extract_lets -useContext v10
        have hv11 : Good wq v10 := loseLanes_good h1
        clear_value v10
        exact good_upd hv11 (fun hg => hg.buf)
      · refine good_ite (good_upd h1 (fun hg => hg.buf)) ?_
        refine good_ite (good_upd h1 (fun hg => hg.buf)) ?_
        refine good_ite ?_ h1
        extract_lets -useContext v12 v13
        have hv14 : Good wq v12 := State.clearAuth_good (State.endSessions_good h1)
        clear_value v12 v13
        exact good_upd hv14 (fun hg => hg.buf)

theorem release_good {wq : Keep} {g : Nat} {s : State} (h1 : Good wq s) : Good wq (release g s) := by
  unfold release
  extract_lets -useContext v0 v1 v2 v3 v4 v5 v6 v7 v8
  have hv9 : Good wq v0 := passPipe_good (copyCore_good (closeBlocks_good h1))
  clear_value v0 v1
  have hv10 : Good wq v2 := State.setAdc_good hv9
  clear_value v2 v3
  have hv11 : Good wq v4 := State.setAdc_good hv10
  clear_value v4
  have hv12 : Good wq v5 := seqSync_good (State.setSt_good hv11)
  clear_value v5
  have hv13 : Good wq v6 := State.setSt_good hv12
  clear_value v6
  have hv14 : Good wq v7 := State.intSet_good (State.intSet_good hv13)
  clear_value v7 v8
  exact State.setAdc_good hv14

theorem resetInner_good {wq : Keep} {p : Nat} {s : State} (h1 : Good wq s) : Good wq (resetInner p s) := by
  unfold resetInner
  extract_lets -useContext v0
  clear_value v0
  split
  · exact resetPins_good h1
  · exact resetCore_good h1
  · exact resetPwm_good h1
  · exact State.setReg_good (resetCluster_good h1)
  · exact startRings_good h1
  · exact loseLanes_good h1
  · exact h1

theorem sampleHold_good {wq : Keep} {n : Nat} {ch : Nat} {raw : Int} {s : State} (h3 : Good wq s) : Good wq (sampleHold n ch raw s) := by
  unfold sampleHold
  split
  · exact h3
  · refine good_ite h3 ?_
    extract_lets -useContext v0 v1 v2 v3
    have hv4 : Good wq v0 := State.upTo_good h3
    clear_value v0 v1 v2
    have hv5 : Good wq v3 := State.setAdc_good hv4
    clear_value v3
    refine good_ite ?_ ?_
    · split
      rename_i a6 t7 heq8
      have hm9 : Good wq t7 := by
        exact good_snd_eq heq8 (takeSample_good hv5)
      exact State.pushHeld_good hm9
    · split
      rename_i a10 t11 heq12
      have hm13 : Good wq t11 := by
        exact good_snd_eq heq12 (takeSample_good hv4)
      extract_lets -useContext v14 v15
      have hv16 : Good wq v14 := seqSample_good hm13
      clear_value v14 v15
      exact passOver_good (State.setAdc_good hv16)

theorem searchAtBoundary_good {wq : Keep} {u : Nat} {trig : Nat} {s : State} (h2 : Good wq s) : Good wq (searchAtBoundary u trig s) := by
  unfold searchAtBoundary
  extract_lets -useContext v0 v1
  clear_value v0
  have hv2 : Good wq v1 := State.setWheel_good h2
  clear_value v1
  exact good_ite (State.cancelAngles_good hv2) hv2

theorem syncTo_good {wq : Keep} {u : Nat} {new : Nat} {trig : Nat} {s : State} (h3 : Good wq s) : Good wq (syncTo u new trig s) := by
  unfold syncTo
  extract_lets -useContext v0 v1 v2 v3 v4 v5 v6 v7 v8 v9 v10 v11 v12 v13
  clear_value v0 v1 v2 v3 v4 v5
  have hv14 : Good wq v6 := State.setWheel_good h3
  clear_value v6
  have hv15 : Good wq v7 := State.intSet_good hv14
  clear_value v7
  have hv16 : Good wq v8 := State.log_good hv15
  clear_value v8
  have hv17 : Good wq v9 := good_ite (State.alarm_good (State.addSat_good (State.intSet_good hv16))) hv16
  clear_value v9
  have hv18 : Good wq v10 := good_ite (State.syncLost_good hv17) hv17
  clear_value v10
  have hv19 : Good wq v11 := good_ite (State.mapsOff_good (State.intSet_good hv18)) hv18
  clear_value v11
  have hv20 : Good wq v12 := good_foldl hv19 (fun z22 y23 hz21 => good_ite (State.idxCast_good hz21) hz21)
  clear_value v12
  have hv24 : Good wq v13 := good_ite (markWheelLanes_good hv20) hv20
  clear_value v13
  exact good_ite (State.limpWheel_good hv24) hv24

theorem takeState_good {wq : Keep} {u : Nat} {new : Nat} {s : State} (h2 : Good wq s) : Good wq (takeState u new s) := by
  unfold takeState
  extract_lets -useContext v0 v1 v2
  clear_value v0
  have hv3 : Good wq v1 := syncTo_good h2
  clear_value v1 v2
  exact good_ite h2 (State.setWheel_good hv3)

theorem wheelBoundary_good {wq : Keep} {u : Nat} {b : Nat} {s : State} (h2 : Good wq s) : Good wq (wheelBoundary u b s) := by
  unfold wheelBoundary
  extract_lets -useContext v0 v1 v2 v3 v4 v5 v6 v7 v8
  clear_value v0
  have hv9 : Good wq v1 := by
    unfold v1
    split
    · extract_lets -useContext v10 v11
      have hv12 : Good wq v10 := good_ite h2 (syncTo_good h2)
      clear_value v10 v11
      exact State.setWheel_good hv12
    · exact good_ite (syncTo_good h2) h2
  clear_value v1
  have hv13 : Good wq v2 := good_ite hv9 (State.setWheel_good hv9)
  clear_value v2 v3
  have hv14 : Good wq v4 := good_foldl hv13 (fun z16 y17 hz15 => State.setTerr_good hz15)
  clear_value v4
  have hv18 : Good wq v5 := good_ite (State.clearTerr_good hv14) hv14
  clear_value v5 v6
  have hv19 : Good wq v7 := good_ite (State.unchain_good hv18) hv18
  clear_value v7
  have hv20 : Good wq v8 := State.setWheel_good hv19
  clear_value v8
  exact errBound_good hv20

theorem wheelDisabled_good {wq : Keep} {u : Nat} {s : State} (h1 : Good wq s) : Good wq (wheelDisabled u s) := by
  unfold wheelDisabled
  extract_lets -useContext v0
  clear_value v0
  exact good_ite h1 (syncTo_good h1)

theorem alignLost_good {wq : Keep} {s : State} (h0 : Good wq s) : Good wq (alignLost s) := by
  unfold alignLost
  refine good_ite ?_ h0
  extract_lets -useContext v0
  have hv1 : Good wq v0 := State.intSet_good (State.setFld_good h0)
  clear_value v0
  refine good_foldl hv1 ?_
  intro z3 y4 hz2
  extract_lets -useContext v5 v6 v7
  clear_value v5
  have hv8 : Good wq v6 := syncTo_good hz2
  clear_value v6 v7
  exact good_ite (State.setWheel_good hv8) hz2

theorem angCmd_good {wq : Keep} {code : Nat} {rq : Req} {z : State}  (h : Good wq z) : Good wq ((angCmd code).run rq z) := by
  unfold angCmd
  split
  · exact evCancel_good h
  · exact evCancelRole_good h
  · exact evFlushWheel_good h
  · exact undefinedCmd_good h

theorem beginRejoin_good {wq : Keep} {d : Nat} {restore : Bool} {s : State} (h2 : Good wq s) : Good wq (beginRejoin d restore s) := by
  unfold beginRejoin
  extract_lets -useContext v0 v1 v2 v3 v4 v5 v6
  clear_value v0 v1 v2 v3
  have hv7 : Good wq v4 := clearPages_good (loseContents_good h2)
  clear_value v4 v5
  have hv8 : Good wq v6 := good_upd hv7 (fun hg => hg.buf)
  clear_value v6
  exact setDst_good (good_upd hv8 (fun hg => hg.buf))

theorem camCheck_good {wq : Keep} {u : Nat} {t : Nat} {secB : Bool} {pol : Bool} {s : State} (h4 : Good wq s) :
    Good wq (camCheck u t secB pol s) := by
  unfold camCheck
  extract_lets -useContext v0 v1 v2 v3 v4 v5 v6 v7 v8 v9
  clear_value v0 v1 v2 v3 v4 v5 v6
  have hv10 : Good wq v7 := State.setWheel_good h4
  clear_value v7 v8
  have hv11 : Good wq v9 := State.setWheel_good h4
  clear_value v9
  split
  · extract_lets -useContext v12
    have hv13 : Good wq v12 := State.setWheel_good h4
    clear_value v12
    exact State.setCamAng_good hv13
  · exact good_ite (good_ite (syncTo_good hv10) hv10) (State.intSet_good (State.addSat_good hv11))

theorem camFollow_good {wq : Keep} {u : Nat} {t : Nat} {secB : Bool} {pol : Bool} {s : State} (h4 : Good wq s) :
    Good wq (camFollow u t secB pol s) := by
  unfold camFollow
  extract_lets -useContext v0 v1
  clear_value v0
  have hv2 : Good wq v1 := State.setCamAng_good h4
  clear_value v1
  refine good_ite h4 ?_
  split
  · extract_lets -useContext v3 v4
    clear_value v3 v4
    exact good_ite (State.setWheel_good hv2) (syncTo_good h4)
  · exact syncTo_good h4

theorem camPhase_good {wq : Keep} {u : Nat} {t : Nat} {secB : Bool} {pol : Bool} {s : State} (h4 : Good wq s) :
    Good wq (camPhase u t secB pol s) := by
  unfold camPhase
  dsimp only
  refine good_ite h4 ?_
  split
  · refine good_ite ?_ (State.setWheel_good h4)
    exact State.setCamAng_good (holdCyc_good (syncTo_good (camRecall_good (phase_good (State.setWheel_good h4)))))
  · exact State.setWheel_good h4

theorem camSearch_good {wq : Keep} {u : Nat} {t : Nat} {secB : Bool} {pol : Bool} {s : State} (h4 : Good wq s) :
    Good wq (camSearch u t secB pol s) := by
  unfold camSearch
  extract_lets -useContext v0 v1 v2 v3 v4 v5 v6 v7 v8
  clear_value v0 v1 v2 v3 v4
  have hv9 : Good wq v5 := State.setWheel_good h4
  clear_value v5 v6 v7 v8
  refine good_ite h4 ?_
  refine good_ite hv9 ?_
  split
  · extract_lets -useContext v10 v11
    clear_value v10 v11
    exact syncTo_good (State.setWheel_good hv9)
  · exact hv9

theorem camTimeout_good {wq : Keep} {u : Nat} {s : State} (h1 : Good wq s) : Good wq (camTimeout u s) := by
  unfold camTimeout
  extract_lets -useContext v0 v1
  clear_value v0 v1
  exact good_ite h1 (syncTo_good (State.upTo_good h1))

theorem commitBlock_good {wq : Keep} {p : Nat} {s : State} (h1 : Good wq s) : Good wq (commitBlock p s) := by
  unfold commitBlock
  extract_lets -useContext v0 v1 v2 v3 v4
  have hv5 : Good wq v0 := h1
  clear_value v0 v1
  have hv6 : Good wq v2 := good_foldl h1 (fun z8 y9 hz7 => State.setReg_good hz7)
  clear_value v2
  have hv10 : Good wq v3 := State.setPrepared_good (State.dropShadows_good hv6)
  clear_value v3
  have hv11 : Good wq v4 := by
    unfold v4
    split
    · exact committedAdc_good hv5 hv10
    · exact good_foldl hv10 (fun z13 y14 hz12 => committedLane_good hv5 hz12)
    · exact hv10
  clear_value v4
  exact good_ite (State.setSt_good hv11) hv11

theorem commitGroup_good {wq : Keep} {g : Group} {s : State} (h1 : Good wq s) : Good wq (commitGroup g s) := by
  unfold commitGroup
  extract_lets -useContext v0 v1 v2 v3 v4
  clear_value v0
  have hv5 : Good wq v1 := good_foldl h1 (fun z7 y8 hz6 => State.setPrepared_good hz6)
  clear_value v1 v2
  have hv9 : Good wq v3 := good_upd hv5 (fun hg => hg.buf)
  clear_value v3
  have hv10 : Good wq v4 := good_ite (good_foldl hv9 (fun z12 y13 hz11 => commitBlock_good hz11)) (unprepare_good hv9)
  clear_value v4
  exact endGroup_good hv10

theorem commitsAtBoundary_good {wq : Keep} {s : State} (h0 : Good wq s) : Good wq (commitsAtBoundary s) := by
  unfold commitsAtBoundary
  extract_lets -useContext v0 v1
  clear_value v0
  have hv2 : Good wq v1 := good_foldl h0 (fun z4 y5 hz3 => commitGroup_good hz3)
  clear_value v1
  exact good_ite hv2 (State.latchSafe_good hv2)

theorem convertersMigrate_good {wq : Keep} {s : State} (h0 : Good wq s) : Good wq (convertersMigrate s) := by
  unfold convertersMigrate
  extract_lets -useContext v0
  have hv1 : Good wq v0 := by
    unfold v0
    split
    · exact State.endRun_good (substitute_good h0)
    · exact h0
  clear_value v0
  split
  · refine State.endRun_good ?_
    split
    · exact release_good hv1
    · exact hv1
  · exact hv1

theorem crankLoss_good {wq : Keep} {u : Nat} {trig : Nat} {s : State} (h2 : Good wq s) : Good wq (crankLoss u trig s) := by
  unfold crankLoss
  extract_lets -useContext v0 v1
  clear_value v0
  have hv2 : Good wq v1 := syncTo_good h2
  clear_value v1
  exact good_ite (good_ite (State.setWheel_good hv2) (syncTo_good h2)) (good_ite (syncTo_good h2) (good_ite (syncTo_good h2) (good_ite
      (State.setWheel_good h2) h2)))

theorem dirCount_good {wq : Keep} {u : Nat} {rev : Bool} {s : State} (h2 : Good wq s) : Good wq (dirCount u rev s) := by
  unfold dirCount
  extract_lets -useContext v0 v1 v2 v3
  clear_value v0 v1 v2
  have hv4 : Good wq v3 := State.setWheel_good h2
  clear_value v3
  exact good_ite (syncTo_good (State.setWheel_good hv4)) (good_ite (syncTo_good hv4) hv4)

theorem disable_good {wq : Keep}  {rq : Req} {z : State}  (h : Good wq z) : Good wq (disable.run rq z) := by
  unfold disable
  refine good_run ?_
  extract_lets -useContext v0
  clear_value v0
  exact good_ite (State.finish_good (State.setEnpend_good h)) (good_ite (searchAtBoundary_good h) h)

theorem execCamTimeout_good {wq : Keep} {u : Fin 8} {s : State} (hst : Good wq s) : ∃ wt, execCamTimeout u s = .next wt ∧ Good wq wt :=
  next_good rfl (camTimeout_good hst)

theorem execSampleHold_good {wq : Keep} {n : Fin 5} {ch : Fin 16} {raw : Int} {s : State} (hst : Good wq s) :
    ∃ wt, execSampleHold n ch raw s = .next wt ∧ Good wq wt :=
  next_good rfl (sampleHold_good hst)

theorem gapConfirmed_good {wq : Keep} {u : Nat} {camAt : Int} {tol : Int} {s : State} (h3 : Good wq s) :
    Good wq (gapConfirmed u camAt tol s) := by
  unfold gapConfirmed
  extract_lets -useContext v0 v1 v2 v3 v4 v5 v6
  clear_value v0 v1 v2 v3 v4
  have hv7 : Good wq v5 := State.setWheel_good h3
  clear_value v5
  have hv8 : Good wq v6 := State.intSet_good (State.addSat_good h3)
  clear_value v6
  exact good_ite (good_ite (holdCyc_good (syncTo_good (phase_good h3))) (syncTo_good h3)) (good_ite (good_ite (holdCyc_good (syncTo_good
      hv7)) (State.setWheel_good hv8)) h3)

theorem importLost_good {wq : Keep} {u : Nat} {trig : Nat} {s : State} (h2 : Good wq s) : Good wq (importLost u trig s) := by
  unfold importLost
  extract_lets -useContext v0
  clear_value v0
  exact good_ite (syncTo_good h2) h2

theorem importMapDeadline_good {wq : Keep} {u : Nat} {s : State} (h1 : Good wq s) : Good wq (importMapDeadline u s) := by
  unfold importMapDeadline
  refine good_ite h1 ?_
  extract_lets -useContext v0 v1 v2 v3
  clear_value v0 v1
  have hv4 : Good wq v2 := State.upTo_good h1
  clear_value v2 v3
  exact good_ite hv4 (importLost_good hv4)

theorem judgeAligned_good {wq : Keep} {s : State} (h0 : Good wq s) : Good wq (judgeAligned s) := by
  unfold judgeAligned
  extract_lets -useContext v0
  clear_value v0
  exact good_ite (State.setFld_good h0) (alignLost_good h0)

theorem mapTake_good {wq : Keep} {f : MapF} {u : Nat} {s : State} (h2 : Good wq s) : Good wq (mapTake f u s) := by
  unfold mapTake
  extract_lets -useContext v0 v1 v2 v3 v4 v5 v6 v7 v8 v9 v10 v11
  clear_value v0
  have hv12 : Good wq v1 := State.setWheel_good h2
  clear_value v1
  have hv13 : Good wq v2 := takeState_good hv12
  clear_value v2 v3 v4 v5 v6 v7 v8
  have hv14 : Good wq v9 := State.setWheel_good hv13
  clear_value v9 v10 v11
  exact good_ite hv13 (good_ite hv14 (resolveHeld_good (State.setWheel_good (State.setMap_good hv14))))

theorem migrations_good {wq : Keep} {s : State} (h0 : Good wq s) : Good wq (migrations s) := by
  unfold migrations
  extract_lets -useContext v0 v1 v2 v3
  have hv4 : Good wq v0 := good_foldl h0 (fun z6 y7 hz5 => clusterMigrate_good hz5)
  clear_value v0
  have hv8 : Good wq v1 := pwmMigrate_good (convertersMigrate_good hv4)
  clear_value v1 v2
  have hv9 : Good wq v3 := good_foldl (good_upd hv8 (fun hg => hg.buf)) (fun z11 y12 hz10 => State.unlist_good (twinTake_good hz10))
  clear_value v3
  exact good_foldl hv9 (fun z14 y15 hz13 => settleLost_good hz13)

theorem portDown_good {wq : Keep} {p : Nat} {s : State} (h1 : Good wq s) : Good wq (portDown p s) := by
  unfold portDown
  extract_lets -useContext v0 v1 v2 v3 v4 v5
  clear_value v0 v1
  have hv6 : Good wq v2 := State.setIdx_good h1
  clear_value v2
  have hv7 : Good wq v3 := State.intSet_good hv6
  clear_value v3
  have hv8 : Good wq v4 := good_foldl hv7 (fun z10 y11 hz9 => good_ite (importLost_good hz9) hz9)
  clear_value v4
  have hv12 : Good wq v5 := good_ite (alignLost_good hv8) hv8
  clear_value v5
  exact good_foldl hv12 (fun z14 y15 hz13 => bounceLoad_good hz13)

theorem publishStep_good {wq : Keep} {b : Nat} {s : State} (h1 : Good wq s) : Good wq (publishStep b s) := by
  unfold publishStep
  extract_lets -useContext v0
  have hv1 : Good wq v0 := good_foldl h1 (fun z3 y4 hz2 => wheelBoundary_good hz2)
  clear_value v0
  exact revCeiling_good (keepCycles_good (importPublish_good (mapsTurn_good hv1)))

theorem resetBlockNow_good {wq : Keep} {p : Nat} {s : State} (h1 : Good wq s) : Good wq (resetBlockNow p s) := by
  unfold resetBlockNow
  extract_lets -useContext v0 v1 v2 v3
  have hv4 : Good wq v0 := good_foldl h1 (fun z6 y7 hz5 => State.resetRegs_good hz5)
  clear_value v0
  have hv8 : Good wq v1 := resetInner_good (State.dropShadows_good hv4)
  clear_value v1 v2
  have hv9 : Good wq v3 := State.setPage_good hv8
  clear_value v3
  exact good_ite hv9 (State.setSt_good hv9)

theorem resync_good {wq : Keep}  {rq : Req} {z : State}  (h : Good wq z) : Good wq (resync.run rq z) := by
  unfold resync
  exact good_run (State.finish_good (searchAtBoundary_good h))

theorem searchNow_good {wq : Keep} {u : Nat} {trig : Nat} {s : State} (h2 : Good wq s) : Good wq (searchNow u trig s) := by
  unfold searchNow
  extract_lets -useContext v0 v1 v2
  clear_value v0 v1 v2
  exact good_ite (State.setWheel_good h2) (State.setWheel_good (syncTo_good h2))

theorem stall_good {wq : Keep} {u : Nat} {s : State} (h1 : Good wq s) : Good wq (stall u s) := by
  unfold stall
  refine good_ite h1 ?_
  extract_lets -useContext v0
  have hv1 : Good wq v0 := State.upTo_good h1
  clear_value v0
  exact crankLoss_good (State.intSet_good hv1)

theorem stateRx_good {wq : Keep} {p : Nat} {h : FrameHdr} {f : StateF} {s : State} (h3 : Good wq s) : Good wq (stateRx p h f s) := by
  unfold stateRx
  exact good_ite h3 (good_foldl (relayCast_good h3) (fun z1 y2 hz0 => takeState_good hz0))

theorem syncedEdge_good {wq : Keep} {u : Nat} {t : Nat} {cls : EdgeClass} {s : State} (h3 : Good wq s) :
    Good wq (syncedEdge u t cls s) := by
  unfold syncedEdge
  extract_lets -useContext v0 v1 v2 v3
  clear_value v0 v1 v2
  have hv4 : Good wq v3 := countInvalid_good h3
  clear_value v3
  split
  · split
    · exact crankLoss_good (State.setWheel_good h3)
    · extract_lets -useContext v5 v6
      clear_value v5
      have hv7 : Good wq v6 := holdCyc_good (State.setWheel_good hv4)
      clear_value v6
      exact good_ite (crankLoss_good hv7) hv7
    · extract_lets -useContext v8 v9 v10
      have hv11 : Good wq v8 := holdCyc_good (State.setWheel_good h3)
      clear_value v8 v9
      have hv12 : Good wq v10 := trackEdge_good hv11
      clear_value v10
      exact good_ite (State.setWheel_good hv11) (good_ite (learnEdge_good hv12) hv12)

theorem wuCmd_good {wq : Keep} {code : Nat} {rq : Req} {z : State}  (h : Good wq z) : Good wq ((wuCmd code).run rq z) := by
  unfold wuCmd
  split
  · exact resync_good h
  · exact synStart_good h
  · exact synStop_good h
  · exact lrnClear_good h
  · exact undefinedCmd_good h

theorem camAt_good {wq : Keep} {u : Nat} {t : Nat} {x2 : Nat} {secB : Bool} {pol : Bool} {s : State} (h5 : Good wq s) :
    Good wq (camAt u t x2 secB pol s) := by
  unfold camAt
  refine good_ite h5 ?_
  extract_lets -useContext v0 v1
  have hv2 : Good wq v0 := State.upTo_good h5
  clear_value v0 v1
  exact good_ite (camPhase_good hv2) (good_ite (camCheck_good hv2) (good_ite (camFollow_good hv2) (good_ite (camSearch_good hv2) hv2)))

theorem camEdge_good {wq : Keep} {i : SecInput} {t : Nat} {pol : Bool} {s : State} (h3 : Good wq s) : Good wq (camEdge i t pol s) := by
  unfold camEdge
  refine good_ite h3 ?_
  extract_lets -useContext v0 v1
  clear_value v0
  have hv2 : Good wq v1 := showPeak_good h3
  clear_value v1
  exact good_ite (good_foldl hv2 (fun z4 y5 hz3 => camAt_good hz3)) hv2

theorem countEdge_good {wq : Keep} {u : Nat} {t : Nat} {r : Nat} {enough : Bool} {cls : EdgeClass} {s : State} (h5 : Good wq s) :
    Good wq (countEdge u t r enough cls s) := by
  unfold countEdge
  extract_lets -useContext v0 v1 v2 v3 v4 v5 v6
  have hv7 : ∀ w8, Good wq w8 → Good wq (v4 w8) := by
    intro w8 hw9
    unfold v4
    try beta_reduce
    exact good_ite hw9 (trackEdge_good hw9)
  clear_value v0 v1 v2 v3 v4
  have hv10 : Good wq v5 := good_ite (countInvalid_good h5) h5
  clear_value v5
  have hv11 : Good wq v6 := State.setWheel_good hv10
  clear_value v6
  refine good_ite (good_ite (hv7 _ (good_ite (syncTo_good hv11) hv11)) hv10) ?_
  split
  · refine good_ite (hv7 _ (State.setWheel_good hv10)) ?_
    refine good_ite (hv7 _ (countInvalid_good (State.setWheel_good h5))) ?_
    refine good_ite (crankLoss_good (good_ite (countInvalid_good h5) h5)) ?_
    extract_lets -useContext v12 v13 v14 v15
    have hv16 : Good wq v12 := State.setWheel_good h5
    clear_value v12 v13
    have hv17 : Good wq v14 := good_ite (State.setWheel_good hv16) (trackEdge_good hv16)
    clear_value v14 v15
    exact good_ite (gapConfirmed_good hv17) hv17

theorem execCamEdge_good {wq : Keep} {src : SecInput} {tb : Time} {pol : Bool} {s : State} (hst : Good wq s) :
    ∃ wt, execCamEdge src tb pol s = .next wt ∧ Good wq wt :=
  next_good rfl (camEdge_good hst)

theorem execImportMapDeadline_good {wq : Keep} {u : Fin 8} {s : State} (hst : Good wq s) :
    ∃ wt, execImportMapDeadline u s = .next wt ∧ Good wq wt :=
  next_good rfl (importMapDeadline_good hst)

theorem execStall_good {wq : Keep} {u : Fin 8} {s : State} (hst : Good wq s) : ∃ wt, execStall u s = .next wt ∧ Good wq wt :=
  next_good rfl (stall_good hst)

theorem mapRx_good {wq : Keep} {p : Nat} {h : FrameHdr} {f : MapF} {s : State} (h3 : Good wq s) : Good wq (mapRx p h f s) := by
  unfold mapRx
  exact good_ite h3 (good_foldl (relayCast_good h3) (fun z1 y2 hz0 => mapTake_good hz0))

theorem partnerTo_good {wq : Keep} {p : Nat} {new : Nat} {s : State} (h2 : Good wq s) : Good wq (partnerTo p new s) := by
  unfold partnerTo
  extract_lets -useContext v0 v1 v2 v3 v4 v5 v6 v7 v8 v9 v10 v11 v12 v13
  clear_value v0
  have hv14 : Good wq v1 := State.setFld_good h2
  clear_value v1
  have hv15 : Good wq v2 := State.intSet_good hv14
  clear_value v2
  have hv16 : Good wq v3 := good_ite (portDown_good hv15) hv15
  clear_value v3
  have hv17 : Good wq v4 := good_ite (judgeAligned_good hv16) hv16
  clear_value v4 v5 v6
  have hv18 : Good wq v7 := State.setIdx_good hv17
  clear_value v7
  have hv19 : Good wq v8 := State.setFld_good hv18
  clear_value v8 v9 v10
  have hv20 : Good wq v11 := good_upd hv17 (fun hg => hg.buf)
  clear_value v11 v12
  have hv21 : Good wq v13 := State.setIdx_good hv20
  clear_value v13
  exact good_ite (State.idxSend_good hv19) (good_ite (State.idxSend_good hv21) (good_ite (State.setFld_good (State.setIdx_good hv17))
      (good_ite (State.intSet_good hv17) (good_ite (State.intSet_good (State.setIdx_good hv17)) hv17))))

theorem portOff_good {wq : Keep} {p : Nat} {s : State} (h1 : Good wq s) : Good wq (portOff p s) := by
  unfold portOff
  exact good_ite h1 (partnerTo_good h1)

theorem presetAtBoundary_good {wq : Keep} {s : State} (h0 : Good wq s) : Good wq (presetAtBoundary s) := by
  unfold presetAtBoundary
  split
  · exact h0
  · extract_lets -useContext v0 v1 v2
    clear_value v0
    have hv3 : Good wq v1 := presetJump_good h0
    clear_value v1
    have hv4 : Good wq v2 := good_foldl hv3 (fun z6 y7 hz5 => good_ite (searchNow_good hz5) hz5)
    clear_value v2
    exact good_ite (State.endRun_good h0) (State.endRun_good hv4)

theorem quarantinePort_good {wq : Keep} {p : Nat} {cause : Nat} {s : State} (h2 : Good wq s) : Good wq (quarantinePort p cause s) := by
  unfold quarantinePort
  extract_lets -useContext v0 v1 v2
  have hv3 : Good wq v0 := partnerTo_good h2
  clear_value v0 v1
  have hv4 : Good wq v2 := State.setIdx_good hv3
  clear_value v2
  exact State.intSet_good (State.setReg_good hv4)

theorem readmit_good {wq : Keep}  {rq : Req} {z : State}  (h : Good wq z) : Good wq (readmit.run rq z) := by
  unfold readmit
  exact good_run (State.finish_good (partnerTo_good h))

theorem receive_good {wq : Keep} {p : Nat} {h : FrameHdr} {l : Payload} {k : State → State} {s : State} (h3 : ∀ w0, Good wq w0 → Good wq (k
    w0)) (h4 : Good wq s) :
    Good wq (receive p h l k s) := by
  unfold receive
  refine good_ite h4 ?_
  extract_lets -useContext v1 v2 v3 v4 v5 v6 v7 v8 v9
  have hv10 : Good wq v1 := lockSeen_good (State.setReg_good h4)
  have hv11 : Good wq v6 := good_ite hv10 (acknowledge_good (State.setIdx_good hv10))
  have hv12 : Good wq v7 := State.addSat_good hv11
  have hv13 : Good wq v9 := State.setIdx_good hv12
  exact good_ite hv10 (good_ite hv10 (good_ite (quarantinePort_good (State.addSat_good hv10)) (good_ite (good_ite (quarantinePort_good
      hv10) hv10) (good_ite (h3 _ hv11) (good_ite (quarantinePort_good hv13) hv13)))))

theorem resetBlock_good {wq : Keep}  {rq : Req} {z : State}  (h : Good wq z) : Good wq (resetBlock.run rq z) := by
  unfold resetBlock
  exact good_run (State.finish_good (resetBlockNow_good h))

theorem retrain_good {wq : Keep}  {rq : Req} {z : State}  (h : Good wq z) : Good wq (retrain.run rq z) := by
  unfold retrain
  exact good_run (State.finish_good (partnerTo_good h))

theorem tickBegins_good {wq : Keep} {s : State} (h0 : Good wq s) : Good wq (tickBegins s) := by
  unfold tickBegins
  extract_lets -useContext v0 v1 v2 v3 v4
  have hv5 : Good wq v0 := resamplerBoundary_good (startDrain_good h0)
  clear_value v0
  have hv6 : Good wq v1 := good_foldl hv5 (fun z8 y9 hz7 => restartAtBoundary_good (seqSync_good hz7))
  clear_value v1
  have hv10 : Good wq v2 := pinsAtBoundary_good (staggersAtBoundary_good (synthesisAtBoundary_good hv6))
  clear_value v2
  have hv11 : Good wq v3 := wakeAll_good (tickReady_good (resumeHeld_good hv10))
  clear_value v3
  have hv12 : Good wq v4 := idxTick_good (wakeBells_good hv11)
  clear_value v4
  exact presetAtBoundary_good (issueRepairs_good hv12)

theorem tooth_good {wq : Keep} {u : Nat} {t : Nat} {dir : ToothDir} {s : State} (h3 : Good wq s) : Good wq (tooth u t dir s) := by
  unfold tooth
  extract_lets -useContext v0 v1 v2 v3 v4 v5 v6 v7 v8 v9 v10 v11 v12 v13
  clear_value v0 v1 v2 v3 v4 v5
  have hv14 : Good wq v6 := State.setWheel_good h3
  clear_value v6 v7
  have hv15 : Good wq v8 := State.setWheel_good hv14
  clear_value v8 v9
  have hv16 : Good wq v10 := by
    unfold v10
    refine good_ite (good_ite hv15 (trackEdge_good hv15)) ?_
    split
    · extract_lets -useContext v17
      clear_value v17
      exact good_ite (good_ite (countEdge_good hv14) (good_ite (countInvalid_good hv14) hv14)) (good_ite (good_ite (countInvalid_good hv14)
          hv14) (syncedEdge_good hv14))
  clear_value v10
  have hv18 : Good wq v11 := showEdge_good hv16
  clear_value v11
  have hv19 : Good wq v12 := traceTooth_good hv18
  clear_value v12 v13
  exact good_ite (State.setWheel_good hv19) (dirCount_good hv19)

theorem authFrame_good {wq : Keep} {p : Nat} {v : BitVec 64} {s : State} (h2 : Good wq s) : Good wq (authFrame p v s) := by
  unfold authFrame
  refine good_ite h2 ?_
  split
  · extract_lets -useContext v0 v1
    clear_value v0
    have hv2 : Good wq v1 := State.setIdx_good h2
    clear_value v1
    exact State.idxSend_good hv2
  · refine good_ite ?_ (quarantinePort_good h2)
    extract_lets -useContext v3 v4
    clear_value v3 v4
    exact partnerTo_good (State.setIdx_good h2)

theorem crcErrorFrame_good {wq : Keep} {p : Nat} {s : State} (h1 : Good wq s) : Good wq (crcErrorFrame p s) := by
  unfold crcErrorFrame
  refine good_ite h1 ?_
  refine good_ite (State.setReg_good h1) ?_
  extract_lets -useContext v0 v1 v2
  have hv3 : Good wq v0 := State.addSat_good (lockSeen_good h1)
  clear_value v0 v1
  have hv4 : Good wq v2 := State.setIdx_good hv3
  clear_value v2
  exact good_ite (partnerTo_good hv4) (State.idxSend_good hv4)

theorem deadTimeout_good {wq : Keep} {p : Nat} {lockLost : Bool} {s : State} (h2 : Good wq s) : Good wq (deadTimeout p lockLost s) := by
  unfold deadTimeout
  extract_lets -useContext v0 v1
  clear_value v0
  have hv2 : Good wq v1 := good_ite (State.setIdx_good h2) h2
  clear_value v1
  exact good_ite (partnerTo_good hv2) (good_ite (State.setFld_good hv2) h2)

theorem domainEffects_good {wq : Keep} {d : Nat} {s : State} (h1 : Good wq s) : Good wq (domainEffects d s) := by
  unfold domainEffects
  exact good_ite (cutChecks_good (State.dropPwmPins_good (State.dropFollow_good h1))) (good_ite (State.dropPwmPins_good h1) (good_ite
      (good_ite h1 (searchAtBoundary_good h1)) (good_ite (State.quadrantLost_good h1) (good_ite (linkDown_good h1) (good_ite (portOff_good
      h1) (good_ite (portOff_good h1) (good_ite (good_upd h1 (fun hg => hg.buf)) (good_ite (good_upd h1 (fun hg => hg.buf)) h1))))))))

theorem execAuthFrame_good {wq : Keep} {p : Fin 2} {h : FrameHdr} {v : BitVec 64} {s : State} (hst : Good wq s) :
    ∃ wt, execAuthFrame p h v s = .next wt ∧ Good wq wt :=
  next_good rfl (receive_good (fun w0 hw1 => authFrame_good hw1) hst)

theorem execAuthTimeout_good {wq : Keep} {p : Fin 2} {s : State} (hst : Good wq s) : ∃ wt, execAuthTimeout p s = .next wt ∧ Good wq wt :=
  next_good rfl (good_ite (partnerTo_good hst) hst)

theorem execBounceFrame_good {wq : Keep} {p : Fin 2} {h : FrameHdr} {ws : List Word} {role : BitVec 4} {s : State} (hst : Good wq s) :
    ∃ wt, execBounceFrame p h ws role s = .next wt ∧ Good wq wt :=
  next_good rfl (receive_good (fun w0 hw1 => bounceRx_good hw1) hst)

theorem execCrcErrorFrame_good {wq : Keep} {p : Fin 2} {s : State} (hst : Good wq s) :
    ∃ wt, execCrcErrorFrame p s = .next wt ∧ Good wq wt :=
  next_good rfl (crcErrorFrame_good hst)

theorem execCreditTimeout_good {wq : Keep} {p : Fin 2} {s : State} (hst : Good wq s) :
    ∃ wt, execCreditTimeout p s = .next wt ∧ Good wq wt :=
  next_good rfl (good_ite hst (good_ite (partnerTo_good hst) (good_ite (State.setIdx_good hst) hst)))

theorem execDeadTimeout_good {wq : Keep} {p : Fin 2} {lockLost : Bool} {s : State} (hst : Good wq s) :
    ∃ wt, execDeadTimeout p lockLost s = .next wt ∧ Good wq wt :=
  next_good rfl (deadTimeout_good hst)

theorem execMap_good {wq : Keep} {p : Fin 2} {h : FrameHdr} {f : MapF} {s : State} (hst : Good wq s) :
    ∃ wt, execMap p h f s = .next wt ∧ Good wq wt :=
  next_good rfl (receive_good (fun w0 hw1 => mapRx_good hw1) hst)

theorem execSignalDetected_good {wq : Keep} {p : Fin 2} {s : State} (hst : Good wq s) :
    ∃ wt, execSignalDetected p s = .next wt ∧ Good wq wt :=
  next_good rfl (good_ite (partnerTo_good hst) hst)

theorem execSignalLost_good {wq : Keep} {p : Fin 2} {s : State} (hst : Good wq s) : ∃ wt, execSignalLost p s = .next wt ∧ Good wq wt :=
  next_good rfl (good_ite (partnerTo_good hst) hst)

theorem execState_good {wq : Keep} {p : Fin 2} {h : FrameHdr} {f : StateF} {s : State} (hst : Good wq s) :
    ∃ wt, execState p h f s = .next wt ∧ Good wq wt :=
  next_good rfl (receive_good (fun w0 hw1 => stateRx_good hw1) hst)

theorem hello_good {wq : Keep} {p : Nat} {f : HelloF} {s : State} (h2 : Good wq s) : Good wq (hello p f s) := by
  unfold hello
  refine good_ite h2 ?_
  extract_lets -useContext v0 v1 v2
  have hv3 : Good wq v0 := State.setFld_good h2
  clear_value v0
  have hv4 : Good wq v1 := State.setFld_good hv3
  clear_value v1
  have hv5 : Good wq v2 := partnerTo_good hv4
  clear_value v2
  exact good_ite (State.setFld_good hv3) (good_ite hv3 (good_ite (partnerTo_good hv4) (good_ite hv5 (quarantinePort_good hv5))))

theorem idxCmd_good {wq : Keep} {code : Nat} {rq : Req} {z : State}  (h : Good wq z) : Good wq ((idxCmd code).run rq z) := by
  unfold idxCmd
  split
  · exact readmit_good h
  · exact retrain_good h
  · exact undefinedCmd_good h

theorem inTime_good {wq : Keep} {p : Nat} {s : State} (h1 : Good wq s) : Good wq (inTime p s) := by
  unfold inTime
  extract_lets -useContext v0
  clear_value v0
  exact good_ite (good_ite (partnerTo_good h1) (State.setIdx_good h1)) h1

theorem inactiveAt_good {wq : Keep} {u : Nat} {t : Nat} {x2 : Nat} {s : State} (h3 : Good wq s) : Good wq (inactiveAt u t x2 s) := by
  unfold inactiveAt
  refine good_ite h3 ?_
  split
  · exact h3
  · extract_lets -useContext v0 v1 v2 v3
    have hv4 : Good wq v0 := State.upTo_good h3
    clear_value v0 v1 v2 v3
    exact tooth_good hv4

theorem leaveOn_good {wq : Keep} {d : Nat} {x : Nat} {s : State} (h2 : Good wq s) : Good wq (leaveOn d x s) := by
  unfold leaveOn
  extract_lets -useContext v0 v1 v2 v3 v4 v5 v6 v7 v8 v9 v10 v11 v12
  clear_value v0 v1 v2 v3 v4
  have hv13 : Good wq v5 := good_foldl h2 (fun z15 y16 hz14 => noteLost_good hz14)
  clear_value v5
  have hv17 : Good wq v6 := good_upd hv13 (fun hg => hg.buf)
  clear_value v6 v7
  have hv18 : Good wq v8 := good_upd hv13 (fun hg => hg.buf)
  clear_value v8
  have hv19 : Good wq v9 := setDst_good (holdBank_good hv18)
  clear_value v9
  have hv20 : Good wq v10 := good_ite (State.setSt_good hv19) hv19
  clear_value v10
  have hv21 : Good wq v11 := good_foldl hv20 (fun z23 y24 hz22 => State.endRun_good hz22)
  clear_value v11
  have hv25 : Good wq v12 := domainEffects_good (dealLost_good hv17 hv21)
  clear_value v12
  exact good_ite (State.consumersChanged_good hv17 hv25) hv25

theorem leaveService_good {wq : Keep} {p : Nat} {s : State} (h1 : Good wq s) : Good wq (leaveService p s) := by
  unfold leaveService
  extract_lets -useContext v0
  clear_value v0
  split
  · exact dropRole_good (cancelCluster_good h1)
  · exact State.dropPwmPins_good (State.stopPwm_good h1)
  · exact cutChecks_good h1
  · exact closeAllLanes_good h1
  · exact State.cancelCalendar_good h1
  · exact portOff_good h1
  · exact good_ite h1 (wheelOff_good (good_ite (wheelDisabled_good h1) h1))
  · exact h1

theorem malformedFrame_good {wq : Keep} {p : Nat} {s : State} (h1 : Good wq s) : Good wq (malformedFrame p s) := by
  unfold malformedFrame
  refine good_ite h1 ?_
  extract_lets -useContext v0 v1
  have hv2 : Good wq v0 := State.setReg_good h1
  clear_value v0
  have hv3 : Good wq v1 := State.addSat_good hv2
  clear_value v1
  exact good_ite hv2 (good_ite (quarantinePort_good hv3) hv3)

theorem msgRx_good {wq : Keep} {p : Nat} {h : FrameHdr} {addr : Word} {sender : Word} {body : List Word} {s : State} (h5 : Good wq s) :
    Good wq (msgRx p h addr sender body s) := by
  unfold msgRx
  refine good_ite h5 ?_
  extract_lets -useContext v0 v1 v2 v3
  clear_value v0
  have hv4 : Good wq v1 := State.setIdx_good h5
  clear_value v1 v2 v3
  exact good_ite (quarantinePort_good hv4) (good_ite (deliver_good hv4) (good_ite (State.idxSend_good hv4) (bounce_good (sMSGBNC_good
      hv4))))

theorem primaryAt_good {wq : Keep} {u : Nat} {t : Nat} {x2 : Nat} {s : State} (h3 : Good wq s) : Good wq (primaryAt u t x2 s) := by
  unfold primaryAt
  refine good_ite h3 ?_
  extract_lets -useContext v0 v1 v2 v3
  have hv4 : Good wq v0 := State.upTo_good h3
  clear_value v0 v1
  have hv5 : Good wq v2 := by
    unfold v2
    split
    · exact tooth_good hv4
    · exact hv4
  clear_value v2 v3
  exact good_ite (State.addSat_good hv4) (good_ite (State.setWheel_good hv5) (tooth_good hv5))

theorem primaryEdge_good {wq : Keep} {p : Nat} {t : Nat} {amp : Nat} {s : State} (h3 : Good wq s) : Good wq (primaryEdge p t amp s) := by
  unfold primaryEdge
  refine good_foldl h3 ?_
  intro z1 y2 hz0
  refine good_ite (primaryAt_good hz0) ?_
  refine good_ite hz0 ?_
  extract_lets -useContext v3 v4
  clear_value v3
  have hv5 : Good wq v4 := State.setPeak_good hz0
  clear_value v4
  exact good_ite (primaryAt_good hv5) hv5

theorem primaryInactive_good {wq : Keep} {p : Nat} {t : Nat} {s : State} (h2 : Good wq s) : Good wq (primaryInactive p t s) := by
  unfold primaryInactive
  exact good_foldl h2 (fun z1 y2 hz0 => good_ite (inactiveAt_good hz0) hz0)

theorem retire_good {wq : Keep} {p : Nat} {x : Nat} {s : State} (h2 : Good wq s) : Good wq (retire p x s) := by
  unfold retire
  extract_lets -useContext v0
  have hv1 : Good wq v0 := leaveService_good (State.setSt_good h2)
  clear_value v0
  split
  · exact State.consumersChanged_good h2 hv1
  · exact hv1

theorem synLoop_good {wq : Keep} {v : Nat} {key : Nat} {lvl : Bool} {s : State} (h3 : Good wq s) : Good wq (synLoop v key lvl s) := by
  unfold synLoop
  extract_lets -useContext v0
  clear_value v0
  exact good_ite (camAt_good h3) (good_ite (primaryAt_good h3) (inactiveAt_good h3))

theorem timeReply_good {wq : Keep} {f : TimeF} {rx : BitVec 64} {s : State} (h2 : Good wq s) : Good wq (timeReply f rx s) := by
  unfold timeReply
  extract_lets -useContext v0 v1 v2 v3 v4 v5 v6 v7 v8
  clear_value v0 v1 v2 v3
  have hv9 : Good wq v4 := good_upd h2 (fun hg => hg.buf)
  clear_value v4 v5
  have hv10 : Good wq v6 := State.setReg_good hv9
  clear_value v6
  have hv11 : Good wq v7 := State.setReg_good hv10
  clear_value v7
  have hv12 : Good wq v8 := State.setReg_good hv11
  clear_value v8
  exact good_ite h2 (judgeAligned_good (timeStep_good (setRate_good (inTime_good hv12))))

theorem blockCmd_good {wq : Keep} {p : Nat} {code : Nat} {rq : Req} {z : State}  (h : Good wq z) :
    Good wq ((blockCmd p code).run rq z) := by
  unfold blockCmd
  split
  · exact sysCmd_good h
  · exact pwrCmd_good h
  · exact rindCmd_good h
  · exact dbgCmd_good h
  · exact good_ite_run (groupCmd_good h) (undefinedCmd_good h)
  · exact good_ite_run (tgtReset_good h) (undefinedCmd_good h)
  · exact wuCmd_good h
  · exact angCmd_good h
  · exact pchgCmd_good h
  · exact pwmCmd_good h
  · exact adcCmd_good h
  · exact good_ite_run (tdCompare_good h) (undefinedCmd_good h)
  · exact rsmpCmd_good h
  · exact clCmd_good h
  · exact pressCmd_good h
  · exact idxCmd_good h
  · exact undefinedCmd_good h

theorem cmdFor_good {wq : Keep} {p code : Nat} {rq : Req} {z : State} (h : Good wq z) : Good wq ((cmdFor p code).run rq z) := by
  unfold cmdFor
  dsimp only
  split
  · exact h
  · split
    · exact nop_good h
    · exact resetBlock_good h
    · exact enable_good h
    · exact disable_good h
    · exact commitCmd_good h
    · exact abort_good h
    · exact selftest_good h
    · exact blockCmd_good h

theorem credit_good {wq : Keep} {p : Nat} {f : CreditF} {s : State} (h2 : Good wq s) : Good wq (credit p f s) := by
  unfold credit
  extract_lets -useContext v0 v1 v2 v3 v4 v5 v6
  clear_value v0 v1 v2
  have hv7 : Good wq v3 := State.setIdx_good h2
  clear_value v3
  have hv8 : Good wq v4 := State.setReg_good hv7
  clear_value v4 v5
  have hv9 : Good wq v6 := good_ite (State.setIdx_good hv8) (inTime_good hv7)
  clear_value v6
  exact drainWaiting_good hv9

theorem disarmBegin_good {wq : Keep} {s : State} (h0 : Good wq s) : Good wq (disarmBegin s) := by
  unfold disarmBegin
  extract_lets -useContext v0
  have hv1 : Good wq v0 := State.cancelCalendar_good h0
  clear_value v0
  exact good_foldl hv1 (fun z3 y4 hz2 => good_ite (State.setEnpend_good (retire_good hz2)) hz2)

theorem dmaReadCompletion_good {wq : Keep} {p : Nat} {r : DmaResult} {s : State} (h2 : Good wq s) : Good wq (dmaReadCompletion p r s) := by
  unfold dmaReadCompletion
  refine good_ite h2 ?_
  extract_lets -useContext v0 v1 v2
  clear_value v0 v1
  have hv3 : Good wq v2 := good_ite (good_upd h2 (fun hg => hg.buf)) h2
  clear_value v2
  split
  · exact good_ite (loadComplete_good hv3) hv3
  · exact good_ite (retire_good (State.dmaFail_good hv3)) hv3
  · split
    · exact good_ite hv3 (State.endRun_good (State.dmaFail_good hv3))
    · exact hv3
  · exact hv3

theorem domainStep_good {wq : Keep} {r : Running} {s : State} (h1 : Good wq s) : Good wq (domainStep r s) := by
  unfold domainStep
  extract_lets -useContext v0 v1 v2 v3
  clear_value v0 v1
  have hv4 : Good wq v2 := good_ite (leaveOn_good h1) h1
  clear_value v2 v3
  split
  · exact good_ite (State.endRun_good (leaveOn_good h1)) (good_ite (stepRun_good (setDst_good (discardLoaded_good hv4))) (good_ite
        (stepRun_good (good_ite (leaveOn_good h1) h1)) (stepRun_good (beginRejoin_good h1))))
  · exact good_ite (stepRun_good (beginRejoin_good h1)) h1
  · exact good_ite (State.endRun_good (domainOn_good h1)) h1

theorem domainsAtBoundary_good {wq : Keep} {s : State} (h0 : Good wq s) : Good wq (domainsAtBoundary s) := by
  unfold domainsAtBoundary
  exact good_foldl h0 (fun z1 y2 hz0 => domainStep_good hz0)

theorem enablesAtBoundary_good {wq : Keep} {s : State} (h0 : Good wq s) : Good wq (enablesAtBoundary s) := by
  unfold enablesAtBoundary
  refine good_foldl h0 ?_
  intro z1 y2 hz0
  extract_lets -useContext v3
  clear_value v3
  exact good_ite (good_ite (State.endRun_good (enterService_good hz0)) (State.endRun_good hz0)) (good_ite (State.endRun_good (retire_good
      hz0)) (State.endRun_good hz0))

theorem enterMode_good {wq : Keep} {new : Nat} {s : State} (h1 : Good wq s) : Good wq (enterMode new s) := by
  unfold enterMode
  extract_lets -useContext v0 v1 v2 v3 v4 v5 v6 v7 v8 v9 v10 v11 v12 v13 v14
  clear_value v0
  have hv15 : Good wq v1 := good_ite (endSynthesis_good h1) h1
  clear_value v1
  have hv16 : Good wq v2 := putMode_good hv15
  clear_value v2 v3
  have hv17 : Good wq v4 := good_ite (good_upd hv16 (fun hg => hg.buf)) hv16
  clear_value v4
  have hv18 : Good wq v5 := good_ite (armBegin_good hv17) hv17
  clear_value v5
  have hv19 : Good wq v6 := good_ite (limpBegin_good hv18) hv18
  clear_value v6
  have hv20 : Good wq v7 := good_ite (clearLimp_good (good_ite hv19 (disarmBegin_good hv19))) hv19
  clear_value v7 v8 v9
  have hv21 : Good wq v10 := State.clearAuth_good (State.endSessions_good hv20)
  clear_value v10 v11
  have hv22 : Good wq v12 := good_ite (good_upd hv21 (fun hg => hg.buf)) hv20
  clear_value v12 v13
  have hv23 : Good wq v14 := good_ite (good_upd hv22 (fun hg => hg.buf)) hv22
  clear_value v14
  exact State.dropPwmPins_good (State.dropFollow_good hv23)

theorem execCredit_good {wq : Keep} {p : Fin 2} {h : FrameHdr} {f : CreditF} {s : State} (hst : Good wq s) :
    ∃ wt, execCredit p h f s = .next wt ∧ Good wq wt :=
  next_good rfl (receive_good (fun w0 hw1 => credit_good hw1) hst)

theorem execDmaReadCompletion_good {wq : Keep} {page : BitVec 12} {r : DmaResult} {s : State} (hst : Good wq s) :
    ∃ wt, execDmaReadCompletion page r s = .next wt ∧ Good wq wt :=
  next_good rfl (dmaReadCompletion_good hst)

theorem execHello_good {wq : Keep} {p : Fin 2} {h : FrameHdr} {f : HelloF} {s : State} (hst : Good wq s) :
    ∃ wt, execHello p h f s = .next wt ∧ Good wq wt :=
  next_good rfl (receive_good (fun w0 hw1 => hello_good hw1) hst)

theorem execMalformedFrame_good {wq : Keep} {p : Fin 2} {s : State} (hst : Good wq s) :
    ∃ wt, execMalformedFrame p s = .next wt ∧ Good wq wt :=
  next_good rfl (malformedFrame_good hst)

theorem execMsg_good {wq : Keep} {p : Fin 2} {h : FrameHdr} {addr : Word} {sender : Word} {body : List Word} {s : State} (hst : Good wq s) :
    ∃ wt, execMsg p h addr sender body s = .next wt ∧ Good wq wt :=
  next_good rfl (receive_good (fun w0 hw1 => msgRx_good hw1) hst)

theorem execPrimaryEdge_good {wq : Keep} {p : Fin 8} {tb : Time} {amp : BitVec 16} {s : State} (hst : Good wq s) :
    ∃ wt, execPrimaryEdge p tb amp s = .next wt ∧ Good wq wt :=
  next_good rfl (primaryEdge_good hst)

theorem execPrimaryInactiveEdge_good {wq : Keep} {p : Fin 8} {tb : Time} {s : State} (hst : Good wq s) :
    ∃ wt, execPrimaryInactiveEdge p tb s = .next wt ∧ Good wq wt :=
  next_good rfl (primaryInactive_good hst)

theorem isolate_good {wq : Keep} {d : Nat} {s : State} (h1 : Good wq s) : Good wq (isolate d s) := by
  unfold isolate
  extract_lets -useContext v0 v1
  clear_value v0
  have hv2 : Good wq v1 := good_ite h1 (setDst_good h1)
  clear_value v1
  refine good_ite (leaveOn_good h1) ?_
  split
  · exact stepRun_good hv2
  · exact hv2

theorem issue_good {wq : Keep} {code : Nat} {q : Req} {s : State} (h2 : Good wq s) : Good wq (issue code q s).2 := by
  unfold issue
  exact offer_good (fun _ _ hx => cmdFor_good hx) h2

theorem modeStep_good {wq : Keep} {s : State} (h0 : Good wq s) : Good wq (modeStep s) := by
  unfold modeStep
  extract_lets -useContext v0 v1 v2 v3 v4 v5 v6 v7
  clear_value v0 v1 v2 v3
  have hv8 : Good wq v4 := good_ite (State.setFld_good h0) h0
  clear_value v4 v5
  have hv9 : Good wq v6 := good_ite (clearLimp_good h0) h0
  clear_value v6 v7
  refine good_ite (bootAt_good h0) ?_
  refine good_ite (enterMode_good (endMode_good h0)) ?_
  refine good_ite ?_ (good_ite (autoArm_good (enterMode_good h0)) (good_ite (endMode_good (enterMode_good h0)) (good_ite (endMode_good
      (enterMode_good h0)) (good_ite (endMode_good (enterMode_good hv8)) (good_ite (endMode_good (enterMode_good hv9)) (good_ite
      (State.intSet_good (endMode_good (enterMode_good h0))) h0))))))
  split
  · exact enterDormant_good h0
  · exact h0

theorem railFault_good {wq : Keep} {d : Nat} {s : State} (h1 : Good wq s) : Good wq (railFault d s) := by
  unfold railFault
  extract_lets -useContext v0 v1
  clear_value v0
  have hv2 : Good wq v1 := isolate_good h1
  clear_value v1
  exact good_ite h1 (good_ite (fatal_good h1) (good_ite (fatal_good (isolate_good h1)) (good_ite (issueRepairs_good (oweDomain_good hv2))
      hv2)))

theorem synEdge_good {wq : Keep} {u : Nat} {s : State} (h1 : Good wq s) : Good wq (synEdge u s) := by
  unfold synEdge
  extract_lets -useContext v0
  clear_value v0
  refine good_ite h1 ?_
  split
  · exact h1
  · split
    · exact h1
    · extract_lets -useContext v1 v2 v3 v4 v5 v6 v7 v8
      have hv9 : Good wq v1 := State.upTo_good h1
      clear_value v1 v2 v3 v4 v5 v6 v7
      have hv10 : Good wq v8 := State.setWheel_good hv9
      clear_value v8
      exact good_ite (synLoop_good hv10) hv10

theorem takeEntry_good {wq : Keep} {e : Entry} {s : State} (h0 : Good wq s) : Good wq (takeEntry e s) := by
  unfold takeEntry
  dsimp only
  split
  · exact good_ite (rejectEntry_good h0) (groupCommit_good h0)
  · exact good_ite (offer_good (fun _ _ hx => Cmd.also_good (fun _ _ hy => cmdFor_good hy) hx) h0) (rejectEntry_good h0)

theorem timeFrame_good {wq : Keep} {p : Nat} {h : FrameHdr} {f : TimeF} {rx : BitVec 64} {s : State} (h4 : Good wq s) :
    Good wq (timeFrame p h f rx s) := by
  unfold timeFrame
  exact good_ite h4 (good_ite (good_ite (timeReply_good h4) h4) (timeRequest_good h4))

theorem writeAt_good {wq : Keep} {port : Port} {seq a : Nat} {w : Word} {len : Nat} {s : State} (h0 : Good wq s) :
    Good wq (writeAt port seq a w len s).2 := by
  unfold writeAt
  dsimp only
  split
  · exact offer_good (fun _ _ hx => Cmd.also_good (fun _ _ hy => cmdFor_good hy) hx) h0
  · split
    · exact writeEffect_good h0
    · exact State.markReject_good (logRefusedWrite_good h0)

theorem boundaryCommits_good {wq : Keep} {s : State} (h0 : Good wq s) : Good wq (boundaryCommits s) := by
  unfold boundaryCommits
  extract_lets -useContext v0 v1
  have hv2 : Good wq v0 := commitsAtBoundary_good h0
  clear_value v0
  have hv3 : Good wq v1 := good_foldl hv2 (fun z5 y6 hz4 => applyIdleCounters_good hz4)
  clear_value v1
  exact levelAtBoundary_good (judgeSettings_good (enablesAtBoundary_good hv3))

theorem commandFetch_good {wq : Keep} {e : Entry} {s : State} (h1 : Good wq s) : Good wq (commandFetch e s) := by
  unfold commandFetch
  exact good_ite h1 (takeEntry_good (State.headOn_good h1))

theorem commitPosted_good {wq : Keep} {e : Posted} {s : State} (h1 : Good wq s) : Good wq (commitPosted e s) := by
  unfold commitPosted
  exact finishPosted_good (fun w0 hw1 => writeAt_good hw1) h1

theorem engineClockLoss_good {wq : Keep} {s : State} (h0 : Good wq s) : Good wq (engineClockLoss s) := by
  unfold engineClockLoss
  refine good_ite h0 ?_
  extract_lets -useContext v0 v1 v2
  clear_value v0
  have hv3 : Good wq v1 := fatal_good (good_upd h0 (fun hg => hg.buf))
  clear_value v1
  have hv4 : Good wq v2 := good_ite hv3 (enterMode_good (endMode_good hv3))
  clear_value v2
  exact State.setFld_good hv4

theorem execCommandFetch_good {wq : Keep} {e : Entry} {s : State} (hst : Good wq s) : ∃ wt, execCommandFetch e s = .next wt ∧ Good wq wt :=
  next_good rfl (commandFetch_good hst)

theorem execDomainRailFault_good {wq : Keep} {d : Fin 92} {s : State} (hst : Good wq s) :
    ∃ wt, execDomainRailFault d s = .next wt ∧ Good wq wt :=
  next_good rfl (good_ite (aonFault_good hst) (railFault_good hst))

theorem execEngineClockLoss_good {wq : Keep} {s : State} (hst : Good wq s) : ∃ wt, execEngineClockLoss s = .next wt ∧ Good wq wt :=
  next_good rfl (engineClockLoss_good hst)

theorem execSynEdge_good {wq : Keep} {u : Fin 8} {s : State} (hst : Good wq s) : ∃ wt, execSynEdge u s = .next wt ∧ Good wq wt :=
  next_good rfl (synEdge_good hst)

theorem execTime_good {wq : Keep} {p : Fin 2} {h : FrameHdr} {f : TimeF} {rx : BitVec 64} {s : State} (hst : Good wq s) :
    ∃ wt, execTime p h f rx s = .next wt ∧ Good wq wt :=
  next_good rfl (receive_good (fun w0 hw1 => timeFrame_good hw1) hst)

theorem tickBoundary_good {wq : Keep} {s : State} (h0 : Good wq s) : Good wq (tickBoundary s) := by
  unfold tickBoundary
  refine good_ite h0 ?_
  extract_lets -useContext v0 v1 v2 v3 v4 v5
  clear_value v0
  have hv6 : Good wq v1 := State.upTo_good h0
  clear_value v1
  have hv7 : Good wq v2 := wdCount_good (wheyBoundary_good hv6)
  clear_value v2
  have hv8 : Good wq v3 := boundaryCommits_good (closeIntake_good (abandonOverruns_good hv7))
  clear_value v3
  have hv9 : Good wq v4 := domainsAtBoundary_good (migrations_good (switchAtBoundary_good hv8))
  clear_value v4
  have hv10 : Good wq v5 := modeStep_good hv9
  clear_value v5
  exact good_ite (gridStep_good hv10) (blanksAtBoundary_good hv6 (tickBegins_good (gridStep_good (publishStep_good hv10))))

theorem commitEarlier_good {wq : Keep} {l : List Posted} {p : Nat} {s : State} (h2 : Good wq s) : Good wq (commitEarlier l p s) := by
  unfold commitEarlier
  exact good_foldl h2 (fun z1 y2 hz0 => commitPosted_good hz0)

theorem execTickBoundary_good {wq : Keep} {s : State} (hst : Good wq s) : ∃ wt, execTickBoundary s = .next wt ∧ Good wq wt :=
  next_good rfl (tickBoundary_good hst)

theorem State.settlePage_good {wq : Keep} {s : State} {p : Nat} (h0 : Good wq s) : Good wq (State.settlePage s p) := by
  unfold State.settlePage
  exact commitEarlier_good h0

theorem hostRead_good {wq : Keep} {port : Port} {a : Nat} {meets : Bool} {s : State} (h3 : Good wq s) :
    Good wq (hostRead port a meets s) := by
  unfold hostRead
  split
  · exact good_ite (readReg_good (State.settlePage_good h3)) (State.pcieClosed_good h3)
  · refine good_ite h3 ?_
    refine good_ite ?_ (spiTurnAway_good h3)
    extract_lets -useContext v0
    have hv1 : Good wq v0 := readReg_good (State.settlePage_good h3)
    clear_value v0
    exact State.report_good hv1
  · refine good_ite h3 ?_
    extract_lets -useContext v2 v3
    have hv4 : Good wq v2 := State.tapSelect_good h3
    clear_value v2
    have hv5 : Good wq v3 := readReg_good (State.settlePage_good hv4)
    clear_value v3
    exact good_ite (State.tapDone_good hv5) (tapDenyRead_good hv4)

theorem oddRead_good {wq : Keep} {port : Port} {a : Nat} {len : Nat} {s : State} (h3 : Good wq s) : Good wq (oddRead port a len s) := by
  unfold oddRead
  refine good_ite h3 ?_
  refine good_ite (State.pcieClosed_good h3) ?_
  refine good_ite (hostRead_good h3) ?_
  extract_lets -useContext v0 v1
  clear_value v0
  have hv2 : Good wq v1 := State.putRead_good (State.settlePage_good h3)
  clear_value v1
  exact good_ite (State.setReg_good hv2) hv2

theorem pcieWrite_good {wq : Keep} {a : Nat} {w : Word} {len : Nat} {act : Nat → State → Nat × State} {s : State} (h3 : ∀ w0 w1, Good wq w1
    → Good wq (act w0 w1).2) (h4 : Good wq s) :
    Good wq (pcieWrite a w len act s) := by
  unfold pcieWrite
  split
  · extract_lets -useContext v2
    have hv3 : Good wq v2 := commitEarlier_good h4
    clear_value v2
    exact finishPosted_good (fun w4 hw5 => h3 _ _ hw5) hv3
  · refine good_ite (State.pcieClosed_good h4) ?_
    refine good_ite h4 ?_
    extract_lets -useContext v6 v7 v8
    have hv9 : Good wq v6 := State.settlePage_good h4
    clear_value v6 v7 v8
    exact finishPosted_good (fun w10 hw11 => h3 _ _ hw11) (good_upd hv9 (fun hg => hg.buf))

theorem spiRead_good {wq : Keep} {seq : Nat} {a : Nat} {s : State} (h2 : Good wq s) : Good wq (spiRead seq a s) := by
  unfold spiRead
  refine good_ite h2 ?_
  extract_lets -useContext v0 v1
  have hv2 : Good wq v0 := spiRespond_good h2
  clear_value v0
  have hv3 : Good wq v1 := readReg_good (State.settlePage_good hv2)
  clear_value v1
  exact good_ite (spiTurnAway_good hv2) (State.report_good hv3)

theorem spiWriteNow_good {wq : Keep} {seq : Nat} {a : Nat} {act : Nat → State → Nat × State} {s : State} (h2 : ∀ w0 w1, Good wq w1 → Good
    wq (act w0 w1).2) (h3 : Good wq s) :
    Good wq (spiWriteNow seq a act s) := by
  unfold spiWriteNow
  refine good_ite ?_ (spiTurnAway_good h3)
  extract_lets -useContext v2
  have hv3 : Good wq v2.2 := h2 _ _ (State.settlePage_good h3)
  clear_value v2
  exact State.report_good hv3

theorem tapWrite_good {wq : Keep} {a : Nat} {w : Word} {act : Nat → State → Nat × State} {s : State} (h2 : ∀ w0 w1, Good wq w1 → Good wq
    (act w0 w1).2) (h3 : Good wq s) :
    Good wq (tapWrite a w act s) := by
  unfold tapWrite
  refine good_ite h3 ?_
  extract_lets -useContext v2 v3
  have hv4 : Good wq v2 := State.tapSelect_good h3
  clear_value v2
  have hv5 : Good wq v3.2 := h2 _ _ (State.settlePage_good hv4)
  clear_value v3
  exact good_ite (State.tapDone_good hv5) (tapDenied_good hv4)

theorem throughPort_good {wq : Keep} {port : Port} {a : Nat} {w : Word} {len : Nat} {act : Nat → State → Nat × State} {s : State} (h4 : ∀
    w0 w1, Good wq w1 → Good wq (act w0 w1).2) (h5 : Good wq s) :
    Good wq (throughPort port a w len act s) := by
  unfold throughPort
  split
  · exact good_ite (pcieWrite_good (fun w2 w3 hw4 => h4 _ _ hw4) h5) h5
  · exact good_ite (spiWriteNow_good (fun w5 w6 hw7 => h4 _ _ hw7) h5) h5
  · exact tapWrite_good (fun w8 w9 hw10 => h4 _ _ hw10) h5

theorem dbgRead_good {wq : Keep} {bar2 : Bool} {a : Nat} {s : State} (h2 : Good wq s) : Good wq (dbgRead bar2 a s) := by
  unfold dbgRead
  refine good_ite (hostRead_good h2) ?_
  refine good_ite h2 ?_
  extract_lets -useContext v0 v1 v2
  have hv3 : Good wq v0 := State.tapSelect_good h2
  clear_value v0
  have hv4 : Good wq v1.2 := bar2Fetch_good hv3
  clear_value v1 v2
  exact good_ite (State.tapDone_good (State.putRead_good hv4)) (tapDenyRead_good hv3)

theorem execCappopRead_good {wq : Keep} {port : Port} {c : Fin 160} {s : State} (hst : Good wq s) :
    ∃ wt, execCappopRead port c s = .next wt ∧ Good wq wt :=
  next_good rfl (hostRead_good hst)

theorem execDbgaccRead_good {wq : Keep} {bar2 : Bool} {addr : BitVec 28} {s : State} (hst : Good wq s) :
    ∃ wt, execDbgaccRead bar2 addr s = .next wt ∧ Good wq wt :=
  next_good rfl (dbgRead_good hst)

theorem execNon32BitRead_good {wq : Keep} {port : Port} {addr : BitVec 24} {len : Nat} {s : State} (hst : Good wq s) :
    ∃ wt, execNon32BitRead port addr len s = .next wt ∧ Good wq wt :=
  next_good rfl (oddRead_good hst)

theorem execRcRead_good {wq : Keep} {port : Port} {addr : BitVec 24} {meets : Bool} {s : State} (hst : Good wq s) :
    ∃ wt, execRcRead port addr meets s = .next wt ∧ Good wq wt :=
  next_good rfl (hostRead_good hst)

theorem execSpiRead_good {wq : Keep} {seq : BitVec 4} {addr : BitVec 24} {s : State} (hst : Good wq s) :
    ∃ wt, execSpiRead seq addr s = .next wt ∧ Good wq wt :=
  next_good rfl (spiRead_good hst)

theorem execTbNowLoRead_good {wq : Keep} {port : Port} {s : State} (hst : Good wq s) :
    ∃ wt, execTbNowLoRead port s = .next wt ∧ Good wq wt :=
  next_good rfl (hostRead_good hst)

theorem hostWrite_good {wq : Keep} {port : Port} {a : Nat} {w : Word} {len : Nat} {s : State} (h4 : Good wq s) :
    Good wq (hostWrite port a w len s) := by
  unfold hostWrite
  exact throughPort_good (fun w0 w1 hw2 => writeAt_good hw2) h4

theorem issueRow_good {wq : Keep} {kinds : List Kind} {code : Nat} {q : Req} {s : State} (h0 : Good wq s) :
    Good wq (issueRow kinds code q s) := by
  unfold issueRow
  have hc : ∀ b : Bool, ∀ r z, Good wq z → Good wq ((if b then cmdFor q.page.toNat code else undefinedCmd).run r z) := by
    intro b r z hz
    split
    · exact cmdFor_good hz
    · exact undefinedCmd_good hz
  dsimp only
  split
  · exact throughPort_good (fun _ _ hz => offer_good (hc _) hz) h0
  · exact offer_good (hc _) h0

theorem portWrite_good {wq : Keep} {port : Port} {p : Nat} {o : Nat} {w : Word} {s : State} (h4 : Good wq s) :
    Good wq (portWrite port p o w s) := by
  unfold portWrite
  exact hostWrite_good h4

theorem registerWrite_good {wq : Keep} {w : HostWrite} {s : State} (h1 : Good wq s) : Good wq (registerWrite w s) := by
  unfold registerWrite
  extract_lets -useContext v0
  have hv1 : Good wq v0 := hostWrite_good h1
  clear_value v0
  exact good_ite (setWins_good h1 hv1) hv1

theorem spiWrite_good {wq : Keep} {seq : Nat} {a : Nat} {w : Word} {s : State} (h3 : Good wq s) : Good wq (spiWrite seq a w s) := by
  unfold spiWrite
  exact good_ite h3 (spiWriteNow_good (fun w0 w1 hw2 => writeAt_good hw2) (spiRespond_good h3))

theorem dbgWrite_good {wq : Keep} {bar2 : Bool} {a : Nat} {w : Word} {s : State} (h3 : Good wq s) : Good wq (dbgWrite bar2 a w s) := by
  unfold dbgWrite
  refine good_ite (hostWrite_good h3) ?_
  refine good_ite h3 ?_
  extract_lets -useContext v0
  have hv1 : Good wq v0 := State.tapSelect_good h3
  clear_value v0
  exact good_ite (State.tapDone_good (bar2Write_good hv1)) (tapDenied_good hv1)

theorem execAbort_good {wq : Keep} {q : Req} {s : State} (hst : Good wq s) : ∃ wt, execAbort q s = .next wt ∧ Good wq wt :=
  next_good rfl (issueRow_good hst)

theorem execAdcRelease_good {wq : Keep} {q : Req} {s : State} (hst : Good wq s) : ∃ wt, execAdcRelease q s = .next wt ∧ Good wq wt :=
  next_good rfl (issueRow_good hst)

theorem execAdcSubstitute_good {wq : Keep} {q : Req} {s : State} (hst : Good wq s) : ∃ wt, execAdcSubstitute q s = .next wt ∧ Good wq wt :=
  next_good rfl (issueRow_good hst)

theorem execArm_good {wq : Keep} {q : Req} {s : State} (hst : Good wq s) : ∃ wt, execArm q s = .next wt ∧ Good wq wt :=
  next_good rfl (issueRow_good hst)

theorem execAuth_good {wq : Keep} {q : Req} {s : State} (hst : Good wq s) : ∃ wt, execAuth q s = .next wt ∧ Good wq wt :=
  next_good rfl (issueRow_good hst)

theorem execBankSwitch_good {wq : Keep} {q : Req} {s : State} (hst : Good wq s) : ∃ wt, execBankSwitch q s = .next wt ∧ Good wq wt :=
  next_good rfl (issueRow_good hst)

theorem execCalibrate_good {wq : Keep} {q : Req} {s : State} (hst : Good wq s) : ∃ wt, execCalibrate q s = .next wt ∧ Good wq wt :=
  next_good rfl (issueRow_good hst)

theorem execCapFlush_good {wq : Keep} {q : Req} {s : State} (hst : Good wq s) : ∃ wt, execCapFlush q s = .next wt ∧ Good wq wt :=
  next_good rfl (issueRow_good hst)

theorem execChgAuth_good {wq : Keep} {q : Req} {s : State} (hst : Good wq s) : ∃ wt, execChgAuth q s = .next wt ∧ Good wq wt :=
  next_good rfl (issueRow_good hst)

theorem execCmpFlush_good {wq : Keep} {q : Req} {s : State} (hst : Good wq s) : ∃ wt, execCmpFlush q s = .next wt ∧ Good wq wt :=
  next_good rfl (issueRow_good hst)

theorem execCmpPush_good {wq : Keep} {q : Req} {s : State} (hst : Good wq s) : ∃ wt, execCmpPush q s = .next wt ∧ Good wq wt :=
  next_good rfl (issueRow_good hst)

theorem execCntdec_good {wq : Keep} {port : Port} {data : Word} {s : State} (hst : Good wq s) :
    ∃ wt, execCntdec port data s = .next wt ∧ Good wq wt :=
  next_good rfl (portWrite_good hst)

theorem execCommit_good {wq : Keep} {q : Req} {s : State} (hst : Good wq s) : ∃ wt, execCommit q s = .next wt ∧ Good wq wt :=
  next_good rfl (issueRow_good hst)

theorem execCptailWrite_good {wq : Keep} {port : Port} {data : Word} {s : State} (hst : Good wq s) :
    ∃ wt, execCptailWrite port data s = .next wt ∧ Good wq wt :=
  next_good rfl (portWrite_good hst)

theorem execCrtailWrite_good {wq : Keep} {port : Port} {data : Word} {s : State} (hst : Good wq s) :
    ∃ wt, execCrtailWrite port data s = .next wt ∧ Good wq wt :=
  next_good rfl (portWrite_good hst)

theorem execDbgaccWrite_good {wq : Keep} {bar2 : Bool} {addr : BitVec 28} {data : Word} {s : State} (hst : Good wq s) :
    ∃ wt, execDbgaccWrite bar2 addr data s = .next wt ∧ Good wq wt :=
  next_good rfl (dbgWrite_good hst)

theorem execDeauth_good {wq : Keep} {q : Req} {s : State} (hst : Good wq s) : ∃ wt, execDeauth q s = .next wt ∧ Good wq wt :=
  next_good rfl (issueRow_good hst)

theorem execDisable_good {wq : Keep} {q : Req} {s : State} (hst : Good wq s) : ∃ wt, execDisable q s = .next wt ∧ Good wq wt :=
  next_good rfl (issueRow_good hst)

theorem execDisarm_good {wq : Keep} {q : Req} {s : State} (hst : Good wq s) : ∃ wt, execDisarm q s = .next wt ∧ Good wq wt :=
  next_good rfl (issueRow_good hst)

theorem execDomIsolate_good {wq : Keep} {q : Req} {s : State} (hst : Good wq s) : ∃ wt, execDomIsolate q s = .next wt ∧ Good wq wt :=
  next_good rfl (issueRow_good hst)

theorem execDomOff_good {wq : Keep} {q : Req} {s : State} (hst : Good wq s) : ∃ wt, execDomOff q s = .next wt ∧ Good wq wt :=
  next_good rfl (issueRow_good hst)

theorem execDomOn_good {wq : Keep} {q : Req} {s : State} (hst : Good wq s) : ∃ wt, execDomOn q s = .next wt ∧ Good wq wt :=
  next_good rfl (issueRow_good hst)

theorem execDomReset_good {wq : Keep} {q : Req} {s : State} (hst : Good wq s) : ∃ wt, execDomReset q s = .next wt ∧ Good wq wt :=
  next_good rfl (issueRow_good hst)

theorem execEnable_good {wq : Keep} {q : Req} {s : State} (hst : Good wq s) : ∃ wt, execEnable q s = .next wt ∧ Good wq wt :=
  next_good rfl (issueRow_good hst)

theorem execEnterLimp_good {wq : Keep} {q : Req} {s : State} (hst : Good wq s) : ∃ wt, execEnterLimp q s = .next wt ∧ Good wq wt :=
  next_good rfl (issueRow_good hst)

theorem execEoiWrite_good {wq : Keep} {port : Port} {n : Fin 4} {data : Word} {s : State} (hst : Good wq s) :
    ∃ wt, execEoiWrite port n data s = .next wt ∧ Good wq wt :=
  next_good rfl (portWrite_good hst)

theorem execEvCancel_good {wq : Keep} {q : Req} {s : State} (hst : Good wq s) : ∃ wt, execEvCancel q s = .next wt ∧ Good wq wt :=
  next_good rfl (issueRow_good hst)

theorem execEvCancelRole_good {wq : Keep} {q : Req} {s : State} (hst : Good wq s) : ∃ wt, execEvCancelRole q s = .next wt ∧ Good wq wt :=
  next_good rfl (issueRow_good hst)

theorem execEvFlushWheel_good {wq : Keep} {q : Req} {s : State} (hst : Good wq s) : ∃ wt, execEvFlushWheel q s = .next wt ∧ Good wq wt :=
  next_good rfl (issueRow_good hst)

theorem execEvw3Write_good {wq : Keep} {port : Port} {data : Word} {s : State} (hst : Good wq s) :
    ∃ wt, execEvw3Write port data s = .next wt ∧ Good wq wt :=
  next_good rfl (portWrite_good hst)

theorem execForceSafe_good {wq : Keep} {q : Req} {s : State} (hst : Good wq s) : ∃ wt, execForceSafe q s = .next wt ∧ Good wq wt :=
  next_good rfl (issueRow_good hst)

theorem execGoOpen_good {wq : Keep} {q : Req} {s : State} (hst : Good wq s) : ∃ wt, execGoOpen q s = .next wt ∧ Good wq wt :=
  next_good rfl (issueRow_good hst)

theorem execGoTeam_good {wq : Keep} {q : Req} {s : State} (hst : Good wq s) : ∃ wt, execGoTeam q s = .next wt ∧ Good wq wt :=
  next_good rfl (issueRow_good hst)

theorem execHalt_good {wq : Keep} {q : Req} {s : State} (hst : Good wq s) : ∃ wt, execHalt q s = .next wt ∧ Good wq wt :=
  next_good rfl (issueRow_good hst)

theorem execHaltReq_good {wq : Keep} {q : Req} {s : State} (hst : Good wq s) : ∃ wt, execHaltReq q s = .next wt ∧ Good wq wt :=
  next_good rfl (issueRow_good hst)

theorem execLoad_good {wq : Keep} {q : Req} {s : State} (hst : Good wq s) : ∃ wt, execLoad q s = .next wt ∧ Good wq wt :=
  next_good rfl (issueRow_good hst)

theorem execLrnClear_good {wq : Keep} {q : Req} {s : State} (hst : Good wq s) : ∃ wt, execLrnClear q s = .next wt ∧ Good wq wt :=
  next_good rfl (issueRow_good hst)

theorem execMatchArm_good {wq : Keep} {port : Port} {n : Fin 4} {data : Word} {s : State} (hst : Good wq s) :
    ∃ wt, execMatchArm port n data s = .next wt ∧ Good wq wt :=
  next_good rfl (portWrite_good hst)

theorem execMclogpop_good {wq : Keep} {port : Port} {c : Fin 16} {data : Word} {s : State} (hst : Good wq s) :
    ∃ wt, execMclogpop port c data s = .next wt ∧ Good wq wt :=
  next_good rfl (portWrite_good hst)

theorem execMirrorCopy_good {wq : Keep} {q : Req} {s : State} (hst : Good wq s) : ∃ wt, execMirrorCopy q s = .next wt ∧ Good wq wt :=
  next_good rfl (issueRow_good hst)

theorem execNewNonce_good {wq : Keep} {q : Req} {s : State} (hst : Good wq s) : ∃ wt, execNewNonce q s = .next wt ∧ Good wq wt :=
  next_good rfl (issueRow_good hst)

theorem execNop_good {wq : Keep} {q : Req} {s : State} (hst : Good wq s) : ∃ wt, execNop q s = .next wt ∧ Good wq wt :=
  next_good rfl (issueRow_good hst)

theorem execPwelpop_good {wq : Keep} {port : Port} {data : Word} {s : State} (hst : Good wq s) :
    ∃ wt, execPwelpop port data s = .next wt ∧ Good wq wt :=
  next_good rfl (portWrite_good hst)

theorem execPwmRelease_good {wq : Keep} {q : Req} {s : State} (hst : Good wq s) : ∃ wt, execPwmRelease q s = .next wt ∧ Good wq wt :=
  next_good rfl (issueRow_good hst)

theorem execPwmSubstitute_good {wq : Keep} {q : Req} {s : State} (hst : Good wq s) : ∃ wt, execPwmSubstitute q s = .next wt ∧ Good wq wt :=
  next_good rfl (issueRow_good hst)

theorem execQheadWrite_good {wq : Keep} {port : Port} {n : Fin 4} {data : Word} {s : State} (hst : Good wq s) :
    ∃ wt, execQheadWrite port n data s = .next wt ∧ Good wq wt :=
  next_good rfl (portWrite_good hst)

theorem execQpossetWrite_good {wq : Keep} {port : Port} {u : Fin 8} {data : Word} {s : State} (hst : Good wq s) :
    ∃ wt, execQpossetWrite port u data s = .next wt ∧ Good wq wt :=
  next_good rfl (portWrite_good hst)

theorem execRaise_good {wq : Keep} {port : Port} {data : Word} {s : State} (hst : Good wq s) :
    ∃ wt, execRaise port data s = .next wt ∧ Good wq wt :=
  next_good rfl (portWrite_good hst)

theorem execReadmit_good {wq : Keep} {q : Req} {s : State} (hst : Good wq s) : ∃ wt, execReadmit q s = .next wt ∧ Good wq wt :=
  next_good rfl (issueRow_good hst)

theorem execReadout_good {wq : Keep} {q : Req} {s : State} (hst : Good wq s) : ∃ wt, execReadout q s = .next wt ∧ Good wq wt :=
  next_good rfl (issueRow_good hst)

theorem execReboot_good {wq : Keep} {q : Req} {s : State} (hst : Good wq s) : ∃ wt, execReboot q s = .next wt ∧ Good wq wt :=
  next_good rfl (issueRow_good hst)

theorem execRefcfgWrite_good {wq : Keep} {port : Port} {n : Fin 5} {data : Word} {s : State} (hst : Good wq s) :
    ∃ wt, execRefcfgWrite port n data s = .next wt ∧ Good wq wt :=
  next_good rfl (portWrite_good hst)

theorem execRegisterWrite_good {wq : Keep} {w : HostWrite} {s : State} (hst : Good wq s) :
    ∃ wt, execRegisterWrite w s = .next wt ∧ Good wq wt :=
  next_good rfl (registerWrite_good hst)

theorem execResetBlock_good {wq : Keep} {q : Req} {s : State} (hst : Good wq s) : ∃ wt, execResetBlock q s = .next wt ∧ Good wq wt :=
  next_good rfl (issueRow_good hst)

theorem execResume_good {wq : Keep} {q : Req} {s : State} (hst : Good wq s) : ∃ wt, execResume q s = .next wt ∧ Good wq wt :=
  next_good rfl (issueRow_good hst)

theorem execResync_good {wq : Keep} {q : Req} {s : State} (hst : Good wq s) : ∃ wt, execResync q s = .next wt ∧ Good wq wt :=
  next_good rfl (issueRow_good hst)

theorem execRetrain_good {wq : Keep} {q : Req} {s : State} (hst : Good wq s) : ∃ wt, execRetrain q s = .next wt ∧ Good wq wt :=
  next_good rfl (issueRow_good hst)

theorem execRingReset_good {wq : Keep} {q : Req} {s : State} (hst : Good wq s) : ∃ wt, execRingReset q s = .next wt ∧ Good wq wt :=
  next_good rfl (issueRow_good hst)

theorem execRouteWrite_good {wq : Keep} {port : Port} {page : Fin 8} {w : Fin 64} {data : Word} {s : State} (hst : Good wq s) :
    ∃ wt, execRouteWrite port page w data s = .next wt ∧ Good wq wt :=
  next_good rfl (portWrite_good hst)

theorem execSeal_good {wq : Keep} {q : Req} {s : State} (hst : Good wq s) : ∃ wt, execSeal q s = .next wt ∧ Good wq wt :=
  next_good rfl (issueRow_good hst)

theorem execSelftest_good {wq : Keep} {q : Req} {s : State} (hst : Good wq s) : ∃ wt, execSelftest q s = .next wt ∧ Good wq wt :=
  next_good rfl (issueRow_good hst)

theorem execSeqRestart_good {wq : Keep} {q : Req} {s : State} (hst : Good wq s) : ∃ wt, execSeqRestart q s = .next wt ∧ Good wq wt :=
  next_good rfl (issueRow_good hst)

theorem execShiftAbort_good {wq : Keep} {q : Req} {s : State} (hst : Good wq s) : ∃ wt, execShiftAbort q s = .next wt ∧ Good wq wt :=
  next_good rfl (issueRow_good hst)

theorem execSleep_good {wq : Keep} {q : Req} {s : State} (hst : Good wq s) : ∃ wt, execSleep q s = .next wt ∧ Good wq wt :=
  next_good rfl (issueRow_good hst)

theorem execSpiWrite_good {wq : Keep} {seq : BitVec 4} {addr : BitVec 24} {data : Word} {s : State} (hst : Good wq s) :
    ∃ wt, execSpiWrite seq addr data s = .next wt ∧ Good wq wt :=
  next_good rfl (spiWrite_good hst)

theorem execStagger_good {wq : Keep} {q : Req} {s : State} (hst : Good wq s) : ∃ wt, execStagger q s = .next wt ∧ Good wq wt :=
  next_good rfl (issueRow_good hst)

theorem execSynStart_good {wq : Keep} {q : Req} {s : State} (hst : Good wq s) : ∃ wt, execSynStart q s = .next wt ∧ Good wq wt :=
  next_good rfl (issueRow_good hst)

theorem execSynStop_good {wq : Keep} {q : Req} {s : State} (hst : Good wq s) : ∃ wt, execSynStop q s = .next wt ∧ Good wq wt :=
  next_good rfl (issueRow_good hst)

theorem execTaskCancel_good {wq : Keep} {q : Req} {s : State} (hst : Good wq s) : ∃ wt, execTaskCancel q s = .next wt ∧ Good wq wt :=
  next_good rfl (issueRow_good hst)

theorem execTaskReady_good {wq : Keep} {q : Req} {s : State} (hst : Good wq s) : ∃ wt, execTaskReady q s = .next wt ∧ Good wq wt :=
  next_good rfl (issueRow_good hst)

theorem execTbPreset_good {wq : Keep} {q : Req} {s : State} (hst : Good wq s) : ∃ wt, execTbPreset q s = .next wt ∧ Good wq wt :=
  next_good rfl (issueRow_good hst)

theorem execTdCompare_good {wq : Keep} {q : Req} {s : State} (hst : Good wq s) : ∃ wt, execTdCompare q s = .next wt ∧ Good wq wt :=
  next_good rfl (issueRow_good hst)

theorem execTgtReset_good {wq : Keep} {q : Req} {s : State} (hst : Good wq s) : ∃ wt, execTgtReset q s = .next wt ∧ Good wq wt :=
  next_good rfl (issueRow_good hst)

theorem execTidleWrite_good {wq : Keep} {port : Port} {n : Fin 4} {data : Word} {s : State} (hst : Good wq s) :
    ∃ wt, execTidleWrite port n data s = .next wt ∧ Good wq wt :=
  next_good rfl (portWrite_good hst)

theorem execUnseal_good {wq : Keep} {q : Req} {s : State} (hst : Good wq s) : ∃ wt, execUnseal q s = .next wt ∧ Good wq wt :=
  next_good rfl (issueRow_good hst)

theorem execUrgent_good {wq : Keep} {q : Req} {s : State} (hst : Good wq s) : ∃ wt, execUrgent q s = .next wt ∧ Good wq wt :=
  next_good rfl (issueRow_good hst)

theorem execWcfgWrite_good {wq : Keep} {port : Port} {u : Fin 8} {data : Word} {s : State} (hst : Good wq s) :
    ∃ wt, execWcfgWrite port u data s = .next wt ∧ Good wq wt :=
  next_good rfl (portWrite_good hst)

theorem execWdkick_good {wq : Keep} {port : Port} {data : Word} {s : State} (hst : Good wq s) :
    ∃ wt, execWdkick port data s = .next wt ∧ Good wq wt :=
  next_good rfl (portWrite_good hst)

theorem execWheyReadIndexWrite_good {wq : Keep} {port : Port} {ring : WheyRing} {data : Word} {s : State} (hst : Good wq s) :
    ∃ wt, execWheyReadIndexWrite port ring data s = .next wt ∧ Good wq wt :=
  next_good rfl (portWrite_good hst)

theorem execWinClose_good {wq : Keep} {q : Req} {s : State} (hst : Good wq s) : ∃ wt, execWinClose q s = .next wt ∧ Good wq wt :=
  next_good rfl (issueRow_good hst)

theorem spiFrame_good {wq : Keep} {clocks : Nat} {w0 : Word} {w1 : Word} {w2 : Word} {s : State} (h4 : Good wq s) :
    Good wq (spiFrame clocks w0 w1 w2 s) := by
  unfold spiFrame
  refine good_ite h4 ?_
  refine good_ite (State.intSet_good (State.addSat_good h4)) ?_
  extract_lets -useContext v0 v1 v2 v3
  clear_value v0 v1 v2 v3
  exact good_ite (spiTurnAway_good (spiRespond_good h4)) (good_ite (State.intSet_good (State.addSat_good (State.report_good
      (spiRespond_good h4)))) (good_ite (State.report_good (spiRespond_good h4)) (good_ite (spiNop_good h4) (good_ite (spiRead_good h4)
      (spiWrite_good h4)))))

theorem execSpiFrame_good {wq : Keep} {clocks : Nat} {w0 : Word} {w1 : Word} {w2 : Word} {s : State} (hst : Good wq s) :
    ∃ wt, execSpiFrame clocks w0 w1 w2 s = .next wt ∧ Good wq wt :=
  next_good rfl (spiFrame_good hst)

end Sys2Proof.Machine
end

