-- ==== Sys2Proof/Tests/Slice0.lean ====
section
/-! SUPPORT. Tests of our own: ill-formed commands that WellFormed refuses, values that the spec gives, and for every statement with
hypotheses a state and operands that meet them. -/

open Sys2Proof Sys2Proof.Machine Sys2Proof.Claims

namespace Sys2Proof.Tests

set_option Elab.async false

/-! ### Small states -/

def inMode (m : Nat) (s : State) : State := s.setFld pageSYS Off.sys_MODE 0 3 m
def withSt (p x : Nat) (s : State) : State := s.setPage p { s.page p with st := x }
/-- A request of the command ring, and one of the PCIe port. -/
def fromRing (p : Nat) (w2 : Word := 0) : Req := { src := .ring, page := BitVec.ofNat 12 p, tag := 7, args := { w2 := w2 } }
def fromPcie (p : Nat) : Req := { src := .port .pcie, page := BitVec.ofNat 12 p, tag := 0 }
/-- After reset, with the PCIe link up and memory space on. -/
def live0 : State := { State.reset with host := { linkUp := true, cfg := { memSpace := true } } }
def run0 : State := inMode mRUN live0
/-- RUN, with cluster 0 ACTIVE and engine 0 running task 3. -/
def clu0 : State := withSt (pageCL 0) stACTIVE run0
def eng0 (x : Eng) : State := clu0.setEng 0 { x with task := some 3 }

/-! ### Engines -/

/-- A microword by its fields, laid out as R137 lays them, with its parity bits (R138). -/
def mword (ac : Nat) (f : AFields) (xc : Nat) (x : XFields) (nx : Nat) (n : NFields) : MicroWord :=
  let b := x.xarg.toNat + bit x.ximm * 2 ^ 13 + x.xs2.toNat * 2 ^ 14 + x.xs1.toNat * 2 ^ 18 + x.xd.toNat * 2 ^ 22 + xc * 2 ^ 26 +
    f.ahd.toNat * 2 ^ 40 + bit f.aflg * 2 ^ 44 + bit f.aimm * 2 ^ 45 + f.as2.toNat * 2 ^ 46 + f.as1.toNat * 2 ^ 50 + f.ad.toNat * 2 ^ 54 +
    ac * 2 ^ 58 + (f.imm ||| x.imm).toNat * 2 ^ 64 + n.target.toNat * 2 ^ 108 + n.cond.toNat * 2 ^ 120 + nx * 2 ^ 124 + bit n.last * 2 ^ 127
  let ones (q : Nat) : Nat := ((List.range 32).map (fun i => bit (b.testBit (32 * q + i)))).sum
  BitVec.ofNat 132 (b + ((List.range 4).map (fun q => (ones q + 1) % 2 * 2 ^ (128 + q))).sum)

/-- A word in progress, and the state in which engine 0 holds it. -/
def wA (c : Nat) (f : AFields) : WordSt := { m := mword c f 0 {} 1 { target := 5 }, g := [(2, 9)], fl := {} }
def wX (c : Nat) (x : XFields) (g : Store Word := []) : WordSt :=
  { m := mword 0 {} c { x with imm := x.imm } 1 { target := 5 }, g := g, fl := {} }
def wN (nx : Nat) (n : NFields) (fl : Flags := {}) : WordSt := { m := mword 0 {} 0 {} nx n, g := [], fl := fl }
def inWord (w : WordSt) (x : Eng := {}) : State := eng0 { x with word := some w, g := w.g, fl := w.fl }

def okA (e : Fin 128) (c : Nat) (f : AFields) (w : WordSt) (s : State) : Bool :=
  s.issues e && s.opened e == some w && wordFault (s.eng e) w == none && !w.a && w.holdsA c f
def okX (e : Fin 128) (c : Nat) (x : XFields) (w : WordSt) (s : State) : Bool :=
  s.issues e && s.opened e == some w && wordFault (s.eng e) w == none && !w.x && w.holdsX c x
def okN (e : Fin 128) (c : Nat) (n : NFields) (w : WordSt) (s : State) : Bool :=
  s.issues e && s.opened e == some w && wordFault (s.eng e) w == none && w.aDone && w.xDone && w.holdsN c n && !givesUp (xopOf w.m) &&
    !n.last
theorem takesA {e : Fin 128} {c : Nat} {f : AFields} {w : WordSt} {s : State} (h : okA e c f w s = true) : TakesA e c f w s := by
  simp only [okA, Bool.and_eq_true, beq_iff_eq, Bool.not_eq_true'] at h; exact ⟨h.1.1.1.1, h.1.1.1.2, h.1.1.2, h.1.2, h.2⟩
theorem takesX {e : Fin 128} {c : Nat} {f : XFields} {w : WordSt} {s : State} (h : okX e c f w s = true) : TakesX e c f w s := by
  simp only [okX, Bool.and_eq_true, beq_iff_eq, Bool.not_eq_true'] at h; exact ⟨h.1.1.1.1, h.1.1.1.2, h.1.1.2, h.1.2, h.2⟩
theorem takesN {e : Fin 128} {c : Nat} {n : NFields} {w : WordSt} {s : State} (h : okN e c n w s = true) : TakesN e c n w s := by
  simp only [okN, Bool.and_eq_true, beq_iff_eq, Bool.not_eq_true'] at h
  obtain ⟨⟨⟨⟨⟨⟨⟨h1, h2⟩, h3⟩, h4⟩, h5⟩, h6⟩, h7⟩, h8⟩ := h
  exact ⟨⟨h1, h2, h3, ⟨h4, h5⟩, h6, h7⟩, fun hl => by rw [hl] at h8; cases h8⟩

def fA : AFields := { ad := 1, as1 := 2, as2 := 3, aflg := true }
def fMov : AFields := { ad := 1, as2 := 3 }
def fBfi : AFields := { ad := 1, as1 := 2, aimm := true, imm := 0xE8 }
def fCmp : AFields := { as1 := 2, as2 := 3, aflg := true }
def fMul : AFields := { ad := 1, ahd := 2, as1 := 3, as2 := 4 }

theorem wit_AluValues : (∀ c ∈ [0x01, 0x09], TakesA 0 c fMov (wA c fMov) (inWord (wA c fMov))) ∧
    ∀ c ∈ [0x06, 0x07, 0x08, 0x12, 0x13, 0x14, 0x15, 0x16], TakesA 0 c fA (wA c fA) (inWord (wA c fA)) := by
  constructor <;> intro c h <;> apply takesA <;> revert c <;> decide +kernel
theorem wit_AluFields : TakesA 0 0x17 fMov (wA 0x17 fMov) (inWord (wA 0x17 fMov)) ∧ TakesA 0 0x18 fA (wA 0x18 fA) (inWord (wA 0x18 fA)) ∧
    TakesA 0 0x19 fBfi (wA 0x19 fBfi) (inWord (wA 0x19 fBfi)) := by
  refine ⟨takesA ?_, takesA ?_, takesA ?_⟩ <;> decide +kernel
theorem wit_AluArithmetic : (∀ c ∈ [2, 3, 4, 5], TakesA 0 c fA (wA c fA) (inWord (wA c fA))) ∧
    ∀ c ∈ [0x0E, 0x0F], TakesA 0 c fCmp (wA c fCmp) (inWord (wA c fCmp)) := by
  constructor <;> intro c h <;> apply takesA <;> revert c <;> decide +kernel
/-- Engine 127 at the 64th word of its run, which it fetches from its control store. -/
def sLast (c : Nat) : State :=
  { (withSt (pageCL 15) stACTIVE run0).setEng 127 { task := some 63, run := 63, pc := 0xFFF, bank := true } with
    cstore := [(storeKey 15 true 0xFFF, mword c fA 0 {} 1 { target := 5 })] }
theorem wit_AluShifts : ∀ c ∈ [0x0A, 0x0B, 0x0C, 0x0D],
    TakesA 127 c fA { m := mword c fA 0 {} 1 { target := 5 }, g := [], fl := {} } (sLast c) := by
  intro c h; apply takesA; revert c; decide +kernel
theorem wit_AluProducts : ∀ c ∈ [0x10, 0x11], TakesA 0 c fMul (wA c fMul) (inWord (wA c fMul)) := by
  intro c h; apply takesA; revert c; decide +kernel

def nGo : NFields := { target := 9 }
def nIf : NFields := { cond := 1, target := 9 }
theorem wit_SequencerNext :
    TakesN 0 0 {} (wN 0 {}) (inWord (wN 0 {}) { pc := 0xFFE, run := 63 }) ∧ TakesN 0 1 nGo (wN 1 nGo) (inWord (wN 1 nGo)) ∧
    (TakesN 0 2 nIf (wN 2 nIf) (inWord (wN 2 nIf)) ∧ ¬ Holds (wN 2 nIf) nIf ∧
      TakesN 0 2 nIf (wN 2 nIf { z := true }) (inWord (wN 2 nIf { z := true })) ∧ Holds (wN 2 nIf { z := true }) nIf) ∧
    TakesN 0 3 nGo (wN 3 nGo) (inWord (wN 3 nGo) { stack := [1, 2, 3] }) ∧
    (TakesN 0 4 nIf (wN 4 nIf { z := true }) (inWord (wN 4 nIf { z := true }) { stack := [1, 2, 3] }) ∧
      TakesN 0 4 nIf (wN 4 nIf) (inWord (wN 4 nIf) { stack := [1, 2, 3, 4] })) ∧
    TakesN 0 5 {} (wN 5 {}) (inWord (wN 5 {}) { stack := [7] }) ∧
    (TakesN 0 6 { cond := 1 } (wN 6 { cond := 1 } { z := true }) (inWord (wN 6 { cond := 1 } { z := true }) { stack := [7] }) ∧
      TakesN 0 6 { cond := 1 } (wN 6 { cond := 1 }) (inWord (wN 6 { cond := 1 }))) := by
  refine ⟨takesN ?_, takesN ?_, ⟨takesN ?_, ?_, takesN ?_, ?_⟩, takesN ?_, ⟨takesN ?_, takesN ?_⟩, takesN ?_, takesN ?_, takesN ?_⟩ <;>
    (try unfold Holds) <;> decide +kernel
/-- A word that ends its instruction, and the state in which engine 0 holds it with its task cancelled or its cluster out of service. -/
def nEnd : NFields := { target := 9, last := true }
theorem ends {e : Fin 128} {nxt : Nat} {n : NFields} {w : WordSt} {s : State}
    (h : (s.issues e && s.opened e == some w && wordFault (s.eng e) w == none && w.aDone && w.xDone && w.holdsN nxt n &&
      !givesUp (xopOf w.m)) = true) : EndsWord e nxt n w s := by
  simp only [Bool.and_eq_true, beq_iff_eq, Bool.not_eq_true'] at h
  obtain ⟨⟨⟨⟨⟨⟨h1, h2⟩, h3⟩, h4⟩, h5⟩, h6⟩, h7⟩ := h
  exact ⟨h1, h2, h3, ⟨h4, h5⟩, h6, h7⟩
theorem wit_SequencerEnds :
    (let s := inWord (wN 1 nEnd) { overrun := true }
     EndsWord 0 1 nEnd (wN 1 nEnd) s ∧ (s.eng 0).overrun = true ∧ (s.eng 0).task = some 3 ∧
       (match nextAddr (s.eng 0) 1 nEnd (condHolds {} 0) with | .go pc st => pc == 9 && st.isEmpty | _ => false) = true) ∧
    (let s := withSt (pageCL 0) stCONFIGURED (inWord (wN 1 nEnd))
     EndsWord 0 1 nEnd (wN 1 nEnd) s ∧ (s.eng 0).overrun = false ∧ s.inService 0 = false) ∧
    (let s := (inWord (wN 1 nEnd)).setTask 0 3 { cancel := true }
     EndsWord 0 1 nEnd (wN 1 nEnd) s ∧ (s.eng 0).overrun = false ∧ s.inService 0 = true ∧ (s.task 0 3).cancel = true) := by
  refine ⟨⟨ends ?_, ?_, ?_, ?_⟩, ⟨ends ?_, ?_, ?_⟩, ends ?_, ?_, ?_, ?_⟩ <;> decide +kernel
/-- A word that ends its instruction where nothing waits. -/
theorem wit_calm : Calm 0 (inWord (wN 1 { target := 9, last := true })) := by
  refine ⟨?_, ?_, fun k hk => ?_⟩
  · decide +kernel
  · decide +kernel
  · have h : ((inWord (wN 1 { target := 9, last := true })).eng 0).task = some 3 := by decide +kernel
    cases h.symm.trans hk; decide +kernel

/-- X fields at a place given by IMM alone. -/
def fAt (imm : Word) (xarg : BitVec 13) : XFields := { xd := 4, xs1 := 1, ximm := true, xarg := xarg, imm := imm }
def fSto (imm : Word) (xarg : BitVec 13) : XFields := { xs1 := 1, xs2 := 8, ximm := true, xarg := xarg, imm := imm }
def goX (c : Nat) (f : XFields) : Prop := TakesX 0 c f (wX c f) (inWord (wX c f))
theorem wit_EngineReads :
    goX 0x01 (fAt 0xFFC 6) ∧ goX 0x01 (fAt 0xFFE 5) ∧ goX 0x03 (fAt 0xFFFC 2) ∧ goX 0x06 (fAt 0xFF0 0) ∧ goX 0x1A (fAt 0x3FFFC 0) ∧
    goX 0x1A (fAt 0x3FFF0 1) ∧ (inWord (wX 0x1A (fAt 0x3FFFC 0))).dst 86 = 0 ∧
    (∀ a ∈ [0, 1, 2, 3], goX 0x10 { xd := 4, xarg := BitVec.ofNat 13 a }) ∧ (∀ a ∈ [0, 1], goX 0x11 { xd := 4, xarg := BitVec.ofNat 13 a }) ∧
    goX 0x08 {} := by
  refine ⟨takesX ?_, takesX ?_, takesX ?_, takesX ?_, takesX ?_, takesX ?_, ?_, fun a h => takesX ?_, fun a h => takesX ?_, takesX ?_⟩ <;>
    (try revert a) <;> decide +kernel
theorem wit_EngineStores :
    goX 0x02 (fSto 0xFFC 2) ∧ goX 0x02 (fSto 0xFFF 0) ∧ goX 0x04 (fSto 0xFFFE 1) ∧ goX 0x07 (fSto 0xFF0 0) ∧
    goX 0x05 { fSto 0xFFFC 0 with xd := 4 } := by
  refine ⟨takesX ?_, takesX ?_, takesX ?_, takesX ?_, takesX ?_⟩ <;> decide +kernel

def msg0 : Msg := ⟨0x101, 0x201, 5, 6⟩
def fMsg : XFields := { xd := 4, xs1 := 1, xs2 := 2 }
def fQuad : XFields := { xd := 8 }
theorem wit_EngineQueues :
    (∀ v ∈ [0x105, 0x4105, 0x100], TakesX 0 0x14 fMsg (wX 0x14 fMsg [(1, BitVec.ofNat 32 v)]) (inWord (wX 0x14 fMsg [(1, BitVec.ofNat 32 v)]))) ∧
    (({ eng0 {} with msgs := List.replicate 7 (0, msg0) } : State).msgs.filter (·.1 == 0)).length < 8 ∧
    8 ≤ (({ eng0 {} with msgs := List.replicate 8 (0, msg0) } : State).msgs.filter (·.1 == 0)).length ∧
    goX 0x15 fQuad ∧ goX 0x16 fQuad ∧
    ((eng0 {}).setClu 0 { msgq := [msg0], ecq := [[1, 2, 3, 4]] }).clu 0 = { msgq := msg0 :: [], ecq := [1, 2, 3, 4] :: [] } ∧
    ((eng0 {}).clu 0).msgq = [] ∧ ((eng0 {}).clu 0).ecq = [] := by
  refine ⟨fun v h => takesX ?_, ?_, ?_, takesX ?_, takesX ?_, ?_, ?_, ?_⟩ <;> (try revert v) <;> decide +kernel

/-- The calendar and channel 0 in service, with an entry at 0xFF0 of engine 0. -/
def dev0 (x : Eng) : State := (withSt pageANG stACTIVE (eng0 x)).setReg (pagePCHG 0) (Off.pchg_CHCFG 0) 1
def fPost : XFields := { xd := 4, xs1 := 1, ximm := true, imm := 0xFF0 }
def sPost (pch : Word) : State :=
  dev0 { word := some (wX 0x12 fPost), mem := Memory.setWords [] 0xFF0 [1000, 0, pch, 0] }
def ev0 (owner : Nat) : CalEv :=
  { slot := 5, gen := 1, order := 0, target := 1000, tag := 9, pch := 0, kind := 0, angle := false, wheel := 0, drop := false,
    nextcyc := false, unres := false, cpl := true, owner := owner, epoch := 1, dur := 0, fresh := false, st := 0, spill := false,
    late := false, status := 0, code := 0, tb := 0, fin := 0 }
def fCan : XFields := { xd := 4, xs1 := 1 }
def sEv (owner : Nat) : State := let s := dev0 { word := some (wX 0x13 fCan [(1, 0x4005)]) }
                                 { s with cal := { evs := [ev0 owner] } }
def fCap : XFields := { xd := 8, ximm := true, imm := 159 }
def sCap : State := (dev0 { word := some (wX 0x1B fCap) }).setChan 159 { capq := [{ tb := 77, pol := true, ang := none }] }
theorem wit_EngineDevices :
    (TakesX 0 0x12 fPost (wX 0x12 fPost) (sPost 0) ∧ TakesX 0 0x12 fPost (wX 0x12 fPost) (sPost 0xFF) ∧ (sPost 0).freeSlot = some 0 ∧
      (let code (pch : Word) (s : State) :=
        let ws := fourWords (s.eng 0).mem 0xFF0
        let y := entryFields (ws.getD 0 0) (ws.getD 1 0) (ws.getD 2 0) (ws.getD 3 0)
        ws = [1000, 0, pch, 0] ∧ firstErr (entryErrs y false s ++ [(0x0C, s.calFull (s.role 0))]) = 0
       code 0 (sPost 0)) ∧ (entryErrs (entryFields 1000 0 0xFF 0) false (sPost 0xFF)).any (·.2) = true) ∧
    (TakesX 0 0x13 fCan (wX 0x13 fCan [(1, 0x4005)]) (sEv 0) ∧ (sEv 0).byHandle 0x4005 = some (ev0 0) ∧ (ev0 0).st ≠ 2 ∧
      (ev0 0).owner = (sEv 0).role 0 ∧ (ev0 15).owner ≠ (sEv 15).role 0 ∧ (sEv 0).byHandle 5 = none) ∧
    (goX 0x17 { xarg := 0x7FF } ∧ goX 0x17 { xs1 := 1, xarg := 0x1000 }) ∧
    (goX 0x18 { xs1 := 4, xarg := 0xFFF } ∧ ((inWord (wX 0x18 { xs1 := 4, xarg := 0xFFF })).whey.queued.filter (·.1 == pageCL 0)).length < 8) ∧
    (TakesX 0 0x1B fCap (wX 0x1B fCap) sCap ∧ chanX (wX 0x1B fCap) fCap = 159 ∧ sCap.pageOn (chPage 159) = true ∧
      (sCap.chan 159).capq = { tb := 77, pol := true, ang := none } :: [] ∧ (sCap.chan 158).capq = []) := by
  refine ⟨⟨takesX ?_, takesX ?_, ?_, ?_, ?_⟩, ⟨takesX ?_, ?_, ?_, ?_, ?_, ?_⟩, ⟨takesX ?_, takesX ?_⟩, ⟨takesX ?_, ?_⟩,
    ⟨takesX ?_, ?_, ?_, ?_, ?_⟩⟩ <;> decide +kernel

/-- Channel 3 with a shift unit in the given mode, and a SHIFT of operation `op` on it: 8 bits, or a CFG or ST. -/
def fSh (op : Nat) : XFields :=
  { xd := 4, xs1 := 2, ximm := true, imm := 3, xarg := BitVec.ofNat 13 (op * 2 ^ 11 + if op = 1 ∨ op = 2 then 7 else 0) }
def sUnit (op mode : Nat) (buf : List Bool) : State :=
  (dev0 { word := some (wX 0x19 (fSh op) [(2, 0x0803), (3, 0x08000050)]) }).setChan 3 { shift := { w0 := BitVec.ofNat 32 mode, buf := buf } }
theorem wit_ShiftOperations :
    (∀ op ∈ [0, 1, 2, 3], TakesX 0 0x19 (fSh op) (wX 0x19 (fSh op) [(2, 0x0803), (3, 0x08000050)]) (sUnit op 4 []) ∧
      chanX (wX 0x19 (fSh op)) (fSh op) = 3 ∧ (fSh op).xarg.toNat / 2 ^ 11 = op) ∧
    (((sUnit 1 4 (List.replicate 24 true)).unit 3).transmits = true ∧ ((sUnit 1 4 (List.replicate 24 true)).unit 3).buf.length + 8 ≤ 32 ∧
      32 < ((sUnit 1 4 (List.replicate 25 true)).unit 3).buf.length + 8 ∧ ((sUnit 1 3 []).unit 3).transmits = false) ∧
    (((sUnit 2 3 (List.replicate 8 true)).unit 3).receives = true ∧ 8 ≤ ((sUnit 2 3 (List.replicate 8 true)).unit 3).buf.length ∧
      ((sUnit 2 3 (List.replicate 7 true)).unit 3).buf.length < 8 ∧ ((sUnit 2 4 []).unit 3).receives = false) ∧
    (let s := (sUnit 0 0 []).setReg (pagePCHG 0) (Off.pchg_CHCFG 3) 2
     firstErr (descErrs 3 { w0 := 0x0803, w1 := 0x08000050, frames := (s.unit 3).frames } s) = 0 ∧ s.stalledOn 3 = [] ∧
      firstErr (descErrs 3 { w0 := 0x0803, w1 := 0x08000050, frames := 0 } (sUnit 0 0 [])) ≠ 0) := by
  refine ⟨fun op h => ⟨takesX ?_, ?_⟩, ?_, ?_, ?_⟩ <;> (try revert op) <;> decide +kernel

/-- A DONE, YIELD or WAITEV that goes on at 0x20. -/
def nCtl : CtlNext := { nxt := 1, n := { target := 0x20, last := true } }
def fWait : XFields := { ximm := true, imm := 0x8 }
def wCtl (c : Nat) : WordSt := { m := mword 0 {} c (if c = 0x1E then fWait else {}) 1 nCtl.n, g := [], fl := {} }
def sDisp : State := { clu0 with clus := [(0, { holds := true, tasks := [(3, { st := tREADY })] })] }
theorem givesUp_of {c : Nat} {f : XFields} {w : WordSt} {s : State} (h1 : okX 0 c f w s = true)
    (h2 : (w.aDone && w.holdsN nCtl.nxt.toNat nCtl.n && (s.eng 0).task == some 3 && !(s.eng 0).overrun && s.inService 0 && !(s.task 0 3).cancel) = true) :
    GivesUp 0 c f nCtl w 3 s := by
  simp only [Bool.and_eq_true, beq_iff_eq, Bool.not_eq_true'] at h2
  obtain ⟨⟨⟨⟨⟨h3, h4⟩, h5⟩, h6⟩, h7⟩, h8⟩ := h2
  refine ⟨takesX h1, h3, h4, h5, h6, h7, fun k hk => ?_⟩
  cases h5.symm.trans hk; exact h8
theorem wit_TaskControl :
    (∀ c ∈ [0x1C, 0x1D], GivesUp 0 c {} nCtl (wCtl c) 3 (inWord (wCtl c))) ∧ GivesUp 0 0x1E fWait nCtl (wCtl 0x1E) 3 (inWord (wCtl 0x1E)) ∧
    ((inWord (wCtl 0x1C)).task 0 3).rdy = 0 ∧ ((inWord (wCtl 0x1C) { overrun := true }).eng 0).overrun = true ∧
    (let s := (inWord (wCtl 0x1C)).setTask 0 3 { cancel := true }
     okX 0 0x1C {} (wCtl 0x1C) s = true ∧ s.inService 0 = true ∧ (s.task 0 3).cancel = true) ∧
    sDisp.mayDispatch 0 = true ∧ sDisp.nextTask 0 = some 3 ∧ clu0.nextTask 0 = none := by
  refine ⟨fun c h => givesUp_of ?_ ?_, givesUp_of ?_ ?_, ?_, ?_, ?_, ?_, ?_, ?_⟩ <;> (try revert c) <;> decide +kernel

/-- Cluster 0 in mirror mode, whose active bank lacks a good word where the mirror bank has one. -/
def sMirror : State := { eng0 {} with
  cstore := [(4096, mword 0 {} 0 {} 0 {})], banks := [(1, { valid := true, copy := true })] }
/-- Engine 0 leads a checked pair. -/
def inPair (w : WordSt) : State := (inWord w).setReg (pageCL 0) Off.cl_PAIRCFG 1
theorem wit_MachineChecks :
    (let s := inWord (wA 0x1A fA)
     s.issues 0 = true ∧ (s.eng 0).task = some 3 ∧ (s.clu 0).mclog.length < 8 ∧ s.opened 0 = some (wA 0x1A fA) ∧
      wordFault (s.eng 0) (wA 0x1A fA) = some 3) ∧
    (wordFault ((inWord (wX 0x01 (fAt 0x1000 2))).eng 0) (wX 0x01 (fAt 0x1000 2)) = some 7 ∧
      (wX 0x01 (fAt 0x1000 2)).x = false ∧ xopOf (wX 0x01 (fAt 0x1000 2)).m = 0x01) ∧
    (wordFault ((inWord (wN 5 {})).eng 0) (wN 5 {}) = some 6 ∧ (wN 5 {}).aDone = true ∧ (wN 5 {}).xDone = true ∧ givesUp (xopOf (wN 5 {}).m) = false ∧
      nxtOf (wN 5 {}).m = 5) ∧
    (wordFault ((inWord (wA 0x01 fMov) { run := 64 }).eng 0) (wA 0x01 fMov) = some 4 ∧ wordFault ((inWord (wN 0 {}) { pc := 0xFFF }).eng 0) (wN 0 {}) = some 3 ∧
      wordFault ((inWord (wN 3 nGo) { stack := [1, 2, 3, 4] }).eng 0) (wN 3 nGo) = some 6) ∧
    ((∀ c ∈ [0x01, 0x03], TakesX 0 c (fAt 0xFFC 2) (wX c (fAt 0xFFC 2)) (inPair (wX c (fAt 0xFFC 2)))) ∧
      (inPair (wX 0x01 (fAt 0xFFC 2))).checked 0 = true ∧ TakesN 0 1 nGo (wN 1 nGo) (inPair (wN 1 nGo))) ∧
    ((eng0 {}).issues 0 = true ∧ ((eng0 {}).eng 0).fresh = true ∧ parityOk ((eng0 {}).activeWord 0) = false ∧ (eng0 {}).mirrorOn 0 = false ∧
      ((eng0 { run := 64 }).eng 0).run = 64) ∧
    (sMirror.issues 0 = true ∧ parityOk (sMirror.activeWord 0) = false ∧ sMirror.mirrorOn 0 = true ∧ parityOk (sMirror.mirrorWord 0) = true ∧
      sMirror.press.repair.length < 16 ∧ (sMirror.whey.queued.filter (·.1 == pageCL 0)).length < 8) ∧
    16 ≤ ({ sMirror with press := { repair := List.replicate 16 (0, false, 0) } } : State).press.repair.length ∧
    8 ≤ ((inWord (wA 0x1A fA)).setClu 0 { mclog := List.replicate 8 (0, 0) } |>.clu 0).mclog.length ∧
    clu0.issues 0 = false := by
  refine ⟨?_, ?_, ?_, ?_, ⟨fun c h => takesX ?_, ?_, takesN ?_⟩, ?_, ?_, ?_, ?_, ?_⟩ <;> (try revert c) <;> decide +kernel
/-- Words of reserved codes alone: an A code, an X code and NXT 7 are machine checks of the rows that end them. -/
theorem wit_reserved_codes :
    (∀ w ∈ [wA 0x1A {}, wX 0x09 {}, wX 0x1F {}, wN 7 {}], wordFault ((inWord w).eng 0) w = some 3 ∧ ((inWord w).eng 0).run ≠ 64 ∧
      w.aDone = true ∧ w.xDone = true ∧ (inWord w).opened 0 = some w) ∧ nxtOf (wN 7 {}).m = 7 ∧ (wN 7 {}).aDone = true ∧ (wN 7 {}).xDone = true ∧
    (inPair (wN 1 nGo)).pairState 0 0 = 1 := by decide +kernel

/-! ### Accesses -/

theorem open_pcie : Open .pcie live0 := ⟨by decide +kernel, by decide +kernel, by decide +kernel⟩
def sTap : State := live0.setReg pageDBG Off.dbg_DBGCFG 2
def sSpi : State := live0.setReg pageHOSTIF Off.hostif_HCFG 1
theorem open_tap : Open .tap sTap := ⟨by decide +kernel, by decide +kernel, by decide +kernel⟩
theorem open_spi : Open .spi sSpi := ⟨by decide +kernel, by decide +kernel, by decide +kernel⟩
theorem wit_RegisterWriteCommits :
    (Unbarred .pcie (pagePWR) 0x014 5 live0 ∧ Unbarred .pcie pagePWR 0x018 0x10000 live0 ∧
      Unbarred .tap pagePWR 0x01C 0x10000 sTap) ∧
    (Unbarred .spi (pagePCHG 3) (Off.pchg_CNTTOP 15) 7 sSpi ∧ isShadowed (adr (pagePCHG 3) (Off.pchg_CNTTOP 15)) = true) ∧
    (Unbarred .pcie pagePWR Off.pwr_TEMPCFG 0x8B live0 ∧ isShadowed (adr pagePWR Off.pwr_TEMPCFG) = false ∧ Plain pagePWR ∧
      regRow (adr pagePWR Off.pwr_TEMPCFG) = some ⟨0x44, 4, 1, .rw, false, 0x8C, 0xFF, 0xFF, false⟩) ∧
    (Unbarred .pcie (pagePWR) 0x018 1 live0 ∧ accessAt (adr pagePWR 0x018) = some .w1c) := by
  refine ⟨⟨?_, ?_, ?_⟩, ⟨?_, ?_⟩, ⟨?_, ?_, ?_, ?_⟩, ?_, ?_⟩ <;> (try unfold Unbarred) <;> (try unfold Plain) <;> decide +kernel
theorem wit_RegisterWriteRejected : live0.pcieOpen = true ∧ live0.host.posted = [] ∧ (∀ r ∈ live0.running, r.code ≠ 1) ∧
    pageTB ≠ pageRIND ∧ (pageKind pageTB).isSome = true ∧ live0.pageOn pageTB = true ∧ Off.tb_TICKCFG ≠ 0x008 ∧
    live0.host.pwel.length < 64 ∧ firstErr (writeErrs .pcie (adr pageTB Off.tb_TICKCFG) 999 4 live0) = eVALUE ∧
    firstErr (writeErrs .pcie (adr pageTB Off.tb_NOW_LO) 0 4 live0) = eACCESS ∧ eVALUE ≠ 0 := by
  refine ⟨?_, ?_, ?_, ?_, ?_, ?_, ?_, ?_, ?_, ?_, ?_⟩ <;> decide +kernel

theorem unb {port : Port} {p o : Nat} {w : Word} {s : State} (h : (writeErrs port (adr p o) w 4 s).all (fun x => !x.2) = true) :
    Unbarred port p o w s := by simpa [Unbarred] using h
def sRef : State := live0.setReg (pageADC 4) Off.adc_REFCFG 0
def sGrp : State := live0.setReg pageWHEY Off.whey_CFG 1
theorem wit_SpecialRegisterWrites :
    (Unbarred .spi pageHOSTIF Off.hostif_PWELPOP 1 sSpi ∧ (1 : Word).toNat % 2 = 1) ∧
    (Unbarred .pcie pageCMDQ Off.cmdq_CRTAIL 0x1FF live0 ∧ live0.reg pageCMDQ Off.cmdq_CRTAIL ≠ 0x1FF ∧
      Unbarred .pcie pageCMDQ Off.cmdq_CRTAIL 0 live0 ∧ live0.reg pageCMDQ Off.cmdq_CRTAIL = 0) ∧
    Unbarred .tap pageCMDQ Off.cmdq_CPTAIL 0 sTap ∧ Unbarred .pcie pageSYS Off.sys_WDKICK 1 live0 ∧
    Unbarred .pcie pageTB (Off.tb_MATCH_HI 3) 0xFFFFFFFF live0 ∧ Unbarred .pcie (pageWU 7) Off.wu_QPOSSET 719 live0 ∧
    (Unbarred .pcie (pageWU 0) Off.wu_WCFG 0x13C00 live0 ∧ fieldOf (live0.reg (pageWU 0) Off.wu_WCFG) 8 10 ≠ fieldOf 0x13C00 8 10) ∧
    Unbarred .pcie (pageCL 15) Off.cl_MCLOGPOP 1 live0 ∧
    (Unbarred .pcie (pageADC 4) Off.adc_REFCFG 1 sRef ∧ sRef.flag (pageADC 4) Off.adc_REFCFG 0 = false) ∧
    Unbarred .pcie (pageADC 0) Off.adc_REFCFG 0 live0 ∧ Unbarred .pcie pageWHEY (readIndexOff .general) 0 sGrp := by
  refine ⟨⟨unb ?_, ?_⟩, ⟨unb ?_, ?_, unb ?_, ?_⟩, unb ?_, unb ?_, unb ?_, unb ?_, ⟨unb ?_, ?_⟩, unb ?_, ⟨unb ?_, ?_⟩, unb ?_, unb ?_⟩ <;>
    decide +kernel

/-- The calendar in service and a host event for channel 0 staged at the PCIe port. -/
def sAng : State := let s := (withSt pageANG stACTIVE run0).setReg (pagePCHG 0) (Off.pchg_CHCFG 0) 1
                    { s with cal := { evw := s.cal.evw.set 0 2 0xF80000 } }
def sFull : State := { sAng.setReg pageANG Off.ang_CALCFG 2 with
  cal := { sAng.cal with evs := List.replicate 2 { ev0 0x1F with st := 0 } } }
def evw2 (s : State) (w : Word) : State := { s with cal := { s.cal with evw := s.cal.evw.set 0 2 w } }
theorem wit_HostEventPost : (Unbarred .pcie pageANG Off.ang_EVW3 0 sAng ∧ sAng.freeSlot = some 0 ∧ sAng.ownCount hostOwner < sAng.quota hostOwner) ∧
    (Open .pcie sAng ∧ Open .pcie sFull) ∧
    (Unbarred .pcie pageANG Off.ang_EVW3 0 sFull ∧ sFull.calFull hostOwner = true ∧ (sFull.evwEntry (portNum .pcie) 0).cpl = false) ∧
    (let s := evw2 sFull 0xFA0000
     Unbarred .pcie pageANG Off.ang_EVW3 0 s ∧ (s.evwEntry (portNum .pcie) 0).cpl = true) ∧
    ((sAng.evwEntry (portNum .pcie) 0).angle = false ∧ ((evw2 sAng 0xF80800).evwEntry (portNum .pcie) 0).angle = true) := by
  refine ⟨⟨unb ?_, ?_, ?_⟩, ⟨⟨?_, ?_, ?_⟩, ⟨?_, ?_, ?_⟩⟩, ⟨unb ?_, ?_, ?_⟩, ⟨unb ?_, ?_⟩, ?_, ?_⟩ <;> decide +kernel
def sIu : State := (live0.setIsrc 0xFFF { live0.isrc 0xFFF with cnt := 16 }).setItgt 3 { active := some 0xFFF }
theorem wit_InterruptRegisterWrites :
    (Unbarred .pcie pageIU Off.iu_RAISE 0xFFF sIu ∧ sIu.cntBase 0xFFF + sIu.iu.clk.bells.get 0 0xFFF - sIu.iu.clk.decs.get 0 0xFFF < 255 ∧
      255 ≤ (sIu.setIsrc 0xFFF { cnt := 255 }).cntBase 0xFFF + 0 - 0) ∧ 0xFFF ∉ sIu.iu.clk.lost ∧
    (0 ∉ sIu.iu.clk.shown ∧ (∀ e ∈ sIu.iu.clk.ended, e.1 ≠ 0) ∧ 0 ∈ (sIu.setClk { shown := [0] }).iu.clk.shown ∧
      (∃ e ∈ (sIu.setClk { ended := [(0, none)] }).iu.clk.ended, e.1 = 0)) ∧
    Unbarred .pcie pageIU Off.iu_CNTDEC 0x00100FFF sIu ∧ Unbarred .pcie pageIU (Off.iu_EOI 3) 0xFFF sIu ∧ Open .pcie sIu ∧
    (Unbarred .pcie pageIU (Off.iu_TIDLE 0) 1 live0 ∧ live0.tcfg 0 2 = false) ∧
    Unbarred .pcie pageIU (Off.iu_QHEAD 2) 0 live0 ∧ Unbarred .pcie (pageIU + 7) (Off.iu_ROUTE 63) 1 live0 := by
  refine ⟨⟨unb ?_, ?_, ?_⟩, ?_, ⟨?_, ?_, ?_, ?_⟩, unb ?_, unb ?_, ⟨?_, ?_, ?_⟩, ⟨unb ?_, ?_⟩, unb ?_, unb ?_⟩ <;> decide +kernel

def sCap0 : State := live0.setChan 17 { capq := [{ tb := 5, pol := false, ang := some 9 }] }
theorem wit_RegisterReads :
    (OpenRead .pcie live0 ∧ OpenRead .spi sSpi ∧ OpenRead .tap sTap) ∧
    (live0.pageOn pageTB = true ∧ ¬ (pageKind pageTB = some .pchg ∧ hits Off.tb_RESYNCERR (Off.pchg_CAPPOP 0) 128 16 = true) ∧
      adr pageTB Off.tb_RESYNCERR ≠ adr pageTB Off.tb_NOW_LO ∧ (regRow (adr pageTB Off.tb_RESYNCERR)).isSome) ∧
    (live0.pageOn pageHOSTIF = true ∧ (regRow (adr pageHOSTIF Off.hostif_SPIERR)).map (·.access) = some .rc ∧
      pageKind pageHOSTIF ≠ some .pchg ∧ adr pageHOSTIF Off.hostif_SPIERR ≠ adr pageTB Off.tb_NOW_LO) ∧
    (sCap0.pageOn (chPage 17) = true ∧ (sCap0.chan 17).capq = { tb := 5, pol := false, ang := some 9 } :: []) ∧ (2 : Nat) ≠ 4 := by
  refine ⟨⟨⟨?_, ?_⟩, ⟨?_, ?_⟩, ⟨?_, ?_⟩⟩, ⟨?_, ?_, ?_, ?_⟩, ⟨?_, ?_, ?_, ?_⟩, ⟨?_, ?_⟩, ?_⟩ <;> decide +kernel
theorem wit_PostedWriteAccepted : live0.pcieOpen = true ∧ live0.host.posted.length < 256 := by decide +kernel
theorem wit_Bar2Accesses : live0.pcieOpen = true ∧
    (State.reset.answers = true ∧ ({ State.reset with host := { linkUp := true } } : State).host.cfg.memSpace = false ∧
      ({ State.reset with host := { linkUp := true, cfg := { memSpace := true, d3 := true } } } : State).host.cfg.d3 = true) ∧ live0.dst 85 = 0 ∧ live0.dst 86 = 0 ∧
    (0xFFFFC : BitVec 26).toNat + 4 ≤ 0x100000 ∧ 0x100000 ≤ (0x13FFFF : BitVec 26).toNat ∧ (0x13FFFF : BitVec 26).toNat + 1 ≤ 0x140000 ∧
    (0x800000 : BitVec 26).toNat < 0x3FFF000 ∧ 0x3FFF000 ≤ (0x3FFF074 : BitVec 26).toNat ∧ (0x3FFF074 : BitVec 26).toNat < 0x3FFF080 ∧
    (0x3FFF074 : BitVec 26).toNat / 4 % 4 = 1 := by decide +kernel
theorem wit_SpiFrames : sSpi.spiOn = true ∧ sSpi.host.spi.pend = false ∧ sSpi.host.posted = [] ∧
    (Unbarred .spi pagePWR Off.pwr_TEMPCFG 0x8B sSpi ∧ isShadowed (adr pagePWR Off.pwr_TEMPCFG) = false ∧ Plain pagePWR) ∧
    (frameCrc 0 0 ≠ 1 ∧ frameCrc 0x80000000 7 = (BitVec.ofNat 32 (frameCrc 0x80000000 7)).toNat % 256 ∧
      spiOdd 0x80000000 (BitVec.ofNat 32 (frameCrc 0x80000000 7)) = false) ∧
    (frameCrc 0xC0000001 7 = (BitVec.ofNat 32 (frameCrc 0xC0000001 7)).toNat % 256 ∧ (0xC0000001 : Word).toNat / 2 ^ 30 = 3 ∧
      (0x10000000 : Word).toNat / 2 ^ 28 % 4 ≠ 0 ∧ (0x40000001 : Word).toNat % 4 ≠ 0 ∧ (0x100 : Word).toNat / 256 ≠ 0) := by
  refine ⟨?_, ?_, ?_, ⟨unb ?_, ?_, ?_⟩, ?_, ?_⟩ <;> (try unfold Plain) <;> decide +kernel
theorem wit_TapInstructions : sTap.pageOn pageDBG = true ∧ sTap.portOpen = true ∧ sTap.granted = 2 ∧ sTap.tapDrives = true ∧
    (live0.setReg pageDBG Off.dbg_DBGCFG 0).granted = 0 ∧ live0.tapDrives = false ∧ sTap.pinDrive 5 = none ∧ sTap.rind.scan = 0 ∧ OpenRead .tap sTap ∧
    Unbarred .tap pagePWR Off.pwr_TEMPCFG 0x8B sTap := by
  refine ⟨?_, ?_, ?_, ?_, ?_, ?_, ?_, ?_, ⟨?_, ?_⟩, unb ?_⟩ <;> decide +kernel

/-! ### Commands -/

/-- The command of the PCIe port goes: `Goes` as one check. -/
def goesNow (k : Kind) (code p : Nat) (s : State) : Bool :=
  s.pcieOpen && s.host.posted.isEmpty && s.running.all (fun r => r.code != 1) && pageKind p == some k && !isSecondary p &&
    (commonErrs code (fromPcie p) s).all (fun x => !x.2) && ((cmdFor p code).errs (fromPcie p) s).all (fun x => !x.2) &&
    (!s.calibrating p || code == 1 || code == 6)
theorem goes {k : Kind} {code p : Nat} {s : State} (hp : p < 4096) (h : goesNow k code p s = true) : Goes k code (fromPcie p) s := by
  have hq : (fromPcie p).page.toNat = p := by simpa [fromPcie] using Nat.mod_eq_of_lt hp
  simp only [goesNow, Bool.and_eq_true, List.all_eq_true, List.isEmpty_iff, bne_iff_ne, beq_iff_eq, Bool.not_eq_true', Bool.or_eq_true] at h
  obtain ⟨⟨⟨⟨⟨⟨⟨h1, h2⟩, h3⟩, h4⟩, h5⟩, h6⟩, h7⟩, h8⟩ := h
  refine ⟨fun port hs => by cases hs; exact ⟨h1, h2, h3⟩, h3, by rw [hq]; exact h4, by rw [hq]; exact h5, h6, by rw [hq]; exact h7, ?_⟩
  rw [hq]; intro hc; rcases h8 with (h8 | h8) | h8
  · rw [hc] at h8; cases h8
  · exact .inl h8
  · exact .inr h8
/-- The conditions that every command shares: `Ready` as one check. -/
def readyNow (k : Kind) (p : Nat) (s : State) : Bool :=
  s.pcieOpen && s.host.posted.isEmpty && s.running.all (fun r => r.code != 1) && pageKind p == some k && !isSecondary p && s.pageOn p &&
    s.md != mBOOT && s.running.all (fun r => r.req.page != BitVec.ofNat 12 p)
theorem ready {k : Kind} {p : Nat} {s : State} (hp : p < 4096) (h : readyNow k p s = true) : Ready k (fromPcie p) s := by
  have hq : (fromPcie p).page.toNat = p := by simpa [fromPcie] using Nat.mod_eq_of_lt hp
  simp only [readyNow, Bool.and_eq_true, List.all_eq_true, List.isEmpty_iff, bne_iff_ne, beq_iff_eq, Bool.not_eq_true'] at h
  obtain ⟨⟨⟨⟨⟨⟨⟨h1, h2⟩, h3⟩, h4⟩, h5⟩, h6⟩, h7⟩, h8⟩ := h
  refine ⟨fun port hs => by cases hs; exact ⟨h1, h2, h3⟩, h3, by rw [hq]; exact h4, by rw [hq]; exact h5, by rw [hq]; exact h6, h7, h8, ?_⟩
  intro hr; rcases hr with hr | ⟨_, _, hr⟩
  · cases hr
  · exact absurd rfl hr

theorem wit_CommandRejected :
    (∀ port : Port, (fromRing pageSYS).src ≠ .port port) ∧ (pageKind (fromRing pageSYS).page.toNat).isSome ∧
    live0.pageOn (fromRing pageSYS).page.toNat = true ∧
    firstErr (commonErrs 3 (fromRing pageSYS) live0 ++ (cmdFor pageSYS 3).errs (fromRing pageSYS) live0) ≠ 0 ∧
    firstErr (commonErrs 2 (fromRing pageSYS) live0 ++ (cmdFor pageSYS 2).errs (fromRing pageSYS) live0) ≠ 0 ∧
    (withSt (pageADC 1) stCALIBRATING run0).calibrating (fromRing (pageADC 1)).page.toNat = true := by
  refine ⟨fun _ => (nofun), ?_, ?_, ?_, ?_, ?_⟩ <;> decide +kernel

/-- BENCH at OPEN, with full debug access. -/
def bench0 : State := inMode mBENCH sTap
/-- PWM module 3 in a state, in CONFIGURE and in RUN. -/
def cfg3 (x : Nat) : State := withSt (pagePWM 3) x live0
def run3 (x : Nat) : State := withSt (pagePWM 3) x run0
theorem wit_CommonCommands :
    (Goes .pwm 1 (fromPcie (pagePWM 9)) live0 ∧ live0.host.posted = []) ∧
    Goes .wu 2 (fromPcie (pageWU 7)) live0 ∧
    (Goes .pwm 3 (fromPcie (pagePWM 3)) (cfg3 stCONFIGURED) ∧ (cfg3 stCONFIGURED).md = mCONFIGURE ∧ pagePWM 3 ≠ pageCMDQ) ∧
    (Goes .pwm 3 (fromPcie (pagePWM 3)) (run3 stCONFIGURED) ∧ (run3 stCONFIGURED).md ≠ mCONFIGURE) ∧
    (Goes .pwm 4 (fromPcie (pagePWM 3)) (cfg3 stCONFIGURED) ∧ (cfg3 stCONFIGURED).st (pagePWM 3) = stCONFIGURED) ∧
    (Goes .pwm 4 (fromPcie (pagePWM 3)) (run3 stACTIVE) ∧ (run3 stACTIVE).st (pagePWM 3) = stACTIVE) ∧
    (Goes .wu 4 (fromPcie (pageWU 3)) (withSt (pageWU 3) stACTIVE run0) ∧ (withSt (pageWU 3) stACTIVE run0).st (pageWU 3) = stACTIVE) ∧
    (Goes .tb 5 (fromPcie pageTB) live0 ∧ prepareCode pageTB [pageTB] true (live0.accept 5 (fromPcie pageTB)) = 0) ∧
    (Goes .pwm 6 (fromPcie (pagePWM 3)) live0 ∧ live0.abortable (pagePWM 3) = [] ∧
      (live0.groups.all fun g => !g.pages.contains (pagePWM 3)) = true) ∧
    Goes .wu 6 (fromPcie (pageWU 3)) (withSt (pageWU 3) stSYNTH bench0) ∧
    Goes .pwm 7 (fromPcie (pagePWM 3)) live0 := by
  refine ⟨⟨goes ?_ ?_, ?_⟩, goes ?_ ?_, ⟨goes ?_ ?_, ?_, ?_⟩, ⟨goes ?_ ?_, ?_⟩, ⟨goes ?_ ?_, ?_⟩, ⟨goes ?_ ?_, ?_⟩, ⟨goes ?_ ?_, ?_⟩,
    ⟨goes ?_ ?_, ?_⟩, ⟨goes ?_ ?_, ?_, ?_⟩, goes ?_ ?_, goes ?_ ?_⟩ <;> decide +kernel

def slow0 : State := live0.setFld pageTB Off.tb_SLOWSTAT 1 1 1
/-- The checks of an ARM stand, in a chip whose switchable domains are OFF, but for domain `d`. -/
def arming (d : Nat) : State :=
  { live0 with
    dom := ((List.range 92).filter (· != d)).map fun i => (i, { st := 1 })
    mode := { live0.mode with arm := 1 } }
/-- As before, with PWM module 0 ON and its CRC one off. -/
def wrongCrc : State := (arming 57).setReg (pagePWM 0) 0x014 ((arming 57).regionCrc (pagePWM 0) + 1)
theorem wrongCrc_region : wrongCrc.regionCrc (pagePWM 0) = (arming 57).regionCrc (pagePWM 0) := by
  refine congrArg (fun r => crc32 (regionBytes r)) (List.map_congr_left fun i _ => State.reg_setReg_ne ?_)
  simp only [adr]; omega
theorem wrongCrc_ne : wrongCrc.regionCrc (pagePWM 0) ≠ wrongCrc.reg (pagePWM 0) 0x014 := by
  rw [wrongCrc_region, wrongCrc, State.reg_setReg_self]
  generalize (arming 57).regionCrc (pagePWM 0) = c
  bv_omega
theorem wrongCrc_live : pagePWM 0 ∈ wrongCrc.livePages := by
  have h (d : Nat) : wrongCrc.dst d = (arming 57).dst d := by simp only [State.dst, wrongCrc, State.setReg_mode, State.setReg_dom]; congr
  simp only [State.livePages, State.pageOn, h]; decide +kernel
theorem wrongCrc_fails : armFails wrongCrc ≠ [] := by
  refine List.ne_nil_of_mem (a := ⟨pagePWM 0, 1, 0x014⟩) ?_
  simp only [armFails, mem_sortBy, List.mem_eraseDups, List.mem_append, crcFails, List.mem_map, List.mem_filter]
  exact .inl (.inl (.inl (.inl (.inl ⟨pagePWM 0, ⟨wrongCrc_live, by simpa using wrongCrc_ne⟩, rfl⟩))))
theorem wit_ModeCommands :
    Goes .sys 0x40 (fromPcie pageSYS) live0 ∧ Goes .sys 0x41 (fromPcie pageSYS) run0 ∧ Goes .sys 0x42 (fromPcie pageSYS) run0 ∧
    Goes .sys 0x43 (fromPcie pageSYS) (inMode mLIMP live0) ∧ (Goes .sys 0x44 (fromPcie pageSYS) run0 ∧ run0.level ≠ lvTEAM) ∧
    Goes .sys 0x45 (fromPcie pageSYS) slow0 ∧ Goes .sys 0x46 (fromPcie pageSYS) run0 ∧
    (Goes .sys 0x47 (fromPcie pageSYS) run0 ∧ run0.mode.safeDue = false) ∧
    (Goes .dbg 0x43 (fromPcie pageDBG) bench0 ∧ bench0.level ≠ lvTEAM) ∧ Goes .dbg 0x44 (fromPcie pageDBG) bench0 ∧
    ((arming 92).mode.arm = 1 ∧ armFails (arming 92) = []) ∧ (wrongCrc.mode.arm = 1 ∧ armFails wrongCrc ≠ []) ∧
    pagePWM 0 ∈ wrongCrc.livePages ∧ wrongCrc.regionCrc (pagePWM 0) ≠ wrongCrc.reg (pagePWM 0) 0x014 := by
  refine ⟨goes ?_ ?_, goes ?_ ?_, goes ?_ ?_, goes ?_ ?_, ⟨goes ?_ ?_, ?_⟩, goes ?_ ?_, goes ?_ ?_, ⟨goes ?_ ?_, ?_⟩, ⟨goes ?_ ?_, ?_⟩,
    goes ?_ ?_, ⟨rfl, ?_⟩, ⟨rfl, wrongCrc_fails⟩, wrongCrc_live, wrongCrc_ne⟩ <;> decide +kernel
theorem wit_DomainCommands : Goes .pwr 0x40 (fromPcie pagePWR) run0 ∧
    Goes .pwr 0x41 (fromPcie pagePWR) { run0 with dom := [(0, { st := 1 })] } ∧
    Goes .pwr 0x42 (fromPcie pagePWR) run0 ∧ Goes .pwr 0x43 (fromPcie pagePWR) (run0.setReg pagePWR Off.pwr_DOMSEL 90) := by
  refine ⟨goes ?_ ?_, goes ?_ ?_, goes ?_ ?_, goes ?_ ?_⟩ <;> decide +kernel

/-- The chip at a level, keys loaded, with an open session of the host and a full budget. -/
def atLevel (lv : Nat) : State :=
  let s := (live0.setFld pageRIND Off.rind_LEVEL 0 2 lv).setReg pageRIND Off.rind_BUDGET 0x03030303
  { s with rind := { s.rind with hostSess := true, teamMask := 0xF, scrMask := 0xFFFF } }
/-- A slot with a nonce, and its challenge answered rightly in RESP. -/
def asked (k : Slot) : State := (atLevel lvOPEN).setNonce k 5
def answered (k : Slot) : State :=
  let v := leVal ((macBytes (asked k).rind.teamKey (challenge (asked k) k)).take 8)
  { asked k with regs := (adr (slotPage k) (respLo k), BitVec.ofNat 32 v) :: (adr (slotPage k) (respHi k), BitVec.ofNat 32 (v / 2 ^ 32)) ::
      (asked k).regs }
theorem leBytes_leVal {l : List Byte} (h : l.length = 8) : leBytes 8 (leVal l) = l := by
  match l, h with
  | [a, b, c, d, e, f, g, i], _ =>
    simp only [leBytes, leVal, List.range, List.range.loop, List.map, List.foldr, List.cons.injEq, and_true]
    refine ⟨?_, ?_, ?_, ?_, ?_, ?_, ?_, ?_⟩ <;> apply BitVec.eq_of_toNat_eq <;> simp only [BitVec.toNat_ofNat] <;> omega
theorem leVal_lt {l : List Byte} (h : l.length = 8) : leVal l < 2 ^ 64 := by
  match l, h with
  | [a, b, c, d, e, f, g, i], _ => simp only [leVal, List.foldr]; omega
theorem authOk_answered (k : Slot) : (answered k).authOk k = true := by
  have h1 : (answered k).nonceOf k = 5 := by cases k <;> decide +kernel
  have h2 : (answered k).teamLoaded = true := by cases k <;> decide +kernel
  have h3 : challenge (answered k) k = challenge (asked k) k := by
    have : (asked k).nonceOf k = 5 := by cases k <;> decide +kernel
    simp only [challenge, h1, this]
  have h4 : (answered k).rind = (asked k).rind := rfl
  have h5 : ((macBytes (asked k).rind.teamKey (challenge (asked k) k)).take 8).length = 8 := by simp [macBytes, beBytes, leBytes]
  have h6 : (answered k).reg64 (slotPage k) (respLo k) (respHi k) =
      leVal ((macBytes (asked k).rind.teamKey (challenge (asked k) k)).take 8) := by
    have h7 : adr (slotPage k) (respLo k) ≠ adr (slotPage k) (respHi k) := by cases k <;> decide
    have := leVal_lt h5
    simp [State.reg64, State.reg, answered, Store.get, h7]
    omega
  simp only [State.authOk, h1, h2, h3, h4, h6, leBytes_leVal h5]
  simp
theorem wit_RindCommands :
    Goes .rind 0x40 (fromPcie pageRIND) live0 ∧ Goes .dbg 0x40 (fromPcie pageDBG) live0 ∧
    (Goes .rind 0x41 (fromPcie pageRIND) (answered .host) ∧ (answered .host).lockEnd (slotOf pageRIND) ≤ (answered .host).now ∧
      (answered .host).authOk (slotOf pageRIND) = true) ∧
    (let s : State := { atLevel lvTEAM with rind := { (atLevel lvTEAM).rind with lockTap := 1 } }
     Goes .dbg 0x41 (fromPcie pageDBG) s ∧ s.now < s.lockEnd (slotOf pageDBG)) ∧
    Goes .rind 0x42 (fromPcie pageRIND) (atLevel lvTEAM) ∧
    (Goes .rind 0x43 (fromPcie pageRIND) (atLevel lvOPEN) ∧ (atLevel lvOPEN).budget 1 ≠ 0 ∧ (atLevel lvOPEN).teamLoaded = true ∧
      (atLevel lvOPEN).scrLoaded = true) ∧
    (Goes .rind 0x44 (fromPcie pageRIND) (atLevel lvTEAM) ∧ (atLevel lvTEAM).rind.hostSess = true ∧ (atLevel lvTEAM).budget 1 ≠ 0) ∧
    Goes .rind 0x45 (fromPcie pageRIND) (atLevel lvTEAM) ∧
    (Goes .rind 0x46 (fromPcie pageRIND) (atLevel lvSEALED) ∧ (atLevel lvSEALED).budget 1 ≠ 0) ∧
    Goes .rind 0x47 (fromPcie pageRIND) (atLevel lvSEALED) ∧ Goes .rind 0x48 (fromPcie pageRIND) live0 := by
  refine ⟨goes ?_ ?_, goes ?_ ?_, ⟨goes ?_ ?_, ?_, authOk_answered .host⟩, ⟨goes ?_ ?_, ?_⟩, goes ?_ ?_, ⟨goes ?_ ?_, ?_, ?_, ?_⟩,
    ⟨goes ?_ ?_, ?_, ?_⟩, goes ?_ ?_, ⟨goes ?_ ?_, ?_⟩, goes ?_ ?_, goes ?_ ?_⟩ <;> decide +kernel

def pin0 : State := (((withSt (pagePCHG 0) stACTIVE run0).setReg (pagePCHG 0) (Off.pchg_CHCFG 2) 5).setReg (pagePCHG 0) Off.pchg_CHSEL 4).setReg
  (pagePCHG 0) Off.pchg_STAGCFG 4
/-- The synthesis of unit 3, on pins that no source drives. -/
def bench3 (st : Nat) : State := (withSt (pageWU 3) st bench0).setReg (pageWUS 3) Off.wus_PROF 1
theorem wit_PinWheelCalendarCommands :
    (Ready .pchg (fromPcie (pagePCHG 0)) pin0 ∧ pin0.st (pagePCHG 0) = stACTIVE ∧ selection (fromPcie (pagePCHG 0)) pin0 = [2] ∧
      pin0.chcfg 2 0 2 % 2 = 1 ∧ pin0.chcfg 2 2 1 = 1 ∧ (pin0.chan 2).cq.length < 4 ∧ (pin0.staged 2).kind ≠ 3) ∧
    (let s := pin0.setChan 2 { top := 9 }
     Ready .pchg (fromPcie (pagePCHG 0)) s ∧ s.fld (pagePCHG 0) Off.pchg_STAGCFG 8 8 + 1 ≤ s.fld (pagePCHG 0) Off.pchg_STAGCFG 0 8 ∧
      (s.chan 2).top ≠ 0) ∧
    (Ready .wu (fromPcie (pageWU 3)) (withSt (pageWU 3) stACTIVE run0) ∧ ((withSt (pageWU 3) stACTIVE run0).wheel 3).state ≠ wFULL ∧
      ((withSt (pageWU 3) stACTIVE run0).wheel 3).state ≠ wCAM ∧ ((({} : State).setWheel 3 { state := wCAM }).wheel 3).state = wCAM) ∧
    (let s := (bench3 stCONFIGURED).setReg (pageWU 3) Off.wu_SYNCFG 0x03020100
     Ready .wu (fromPcie (pageWU 3)) s ∧ s.md = mBENCH ∧ s.level ≠ lvSEALED ∧ (∀ i < 3, s.pinDriven i = false) ∧
      s.flag (pageWU 3) Off.wu_SYNCFG 24 = true ∧ s.flag (pageWU 3) Off.wu_SYNCFG 25 = true ∧
      (s.flag (pageWU 3) Off.wu_SYNCFG 26 = true → s.fld (pageWU 3) Off.wu_SYNCFG 27 3 ≠ 3) ∧
      s.teeth 3 * s.fld (pageWUS 3) (Off.wus_SEG 0) 0 16 ≤ 12000000) ∧
    (Ready .wu (fromPcie (pageWU 3)) (bench3 stSYNTH) ∧ (bench3 stSYNTH).st (pageWU 3) = stSYNTH) ∧
    (Ready .ang (fromPcie pageANG) sAng ∧ sAng.st pageANG = stACTIVE ∧ sAng.flag pageANG Off.ang_CANSEL 8 = false) := by
  refine ⟨⟨ready ?_ ?_, ?_, ?_, ?_, ?_, ?_, ?_⟩, ⟨ready ?_ ?_, ?_, ?_⟩, ⟨ready ?_ ?_, ?_, ?_, ?_⟩, ⟨ready ?_ ?_, ?_, ?_, ?_, ?_, ?_, ?_, ?_⟩,
    ⟨ready ?_ ?_, ?_⟩, ⟨ready ?_ ?_, ?_, ?_⟩⟩ <;> decide +kernel

def adc0 (n x : Nat) : State := (withSt (pageADC n) x run0).setFld (pageADC n) Off.adc_CORESTAT 8 2 3
def conv1 : State := ((adc0 1 stACTIVE).setReg (pageADC 1) Off.adc_ENMASK 1).setAdc 1 { kind := 1 }
def sub4 : State := (withSt (pageADC 0) stCONFIGURED ((adc0 4 stACTIVE).setAdc 4 { sub := some 0 })).setFld (pageADC 0) Off.adc_CORESTAT 8 2 3
def td0 : State := (((withSt pageTDAC stACTIVE bench0).setFld pageTDAC Off.tdac_TDSTAT 0 1 1).setReg pageTDAC Off.tdac_TDCFG 0x30000).setReg
  pageTDAC Off.tdac_TDCMP 0x100
theorem wit_ConverterPwmLinkCommands :
    (Ready .adc (fromPcie (pageADC 1)) (adc0 1 stIDLE) ∧ (adc0 1 stIDLE).st (pageADC 1) = stIDLE ∧
      (adc0 1 stIDLE).flag (pageADC 1) Off.adc_CORESTAT 8 = true) ∧
    (Ready .adc (fromPcie (pageADC 1)) conv1 ∧ conv1.converts 1 = true ∧ conv1.flag (pageADC 1) Off.adc_ENMASK (conv1.urgCh (fromPcie (pageADC 1))) = true ∧
      (conv1.adc 1).urg.length < 4) ∧
    (Ready .adc (fromPcie (pageADC 4)) (adc0 4 stSPARE) ∧ (adc0 4 stSPARE).st (pageADC 4) = stSPARE ∧
      (adc0 4 stSPARE).flag (pageADC 4) Off.adc_CORESTAT 9 = true) ∧
    (Ready .adc (fromPcie (pageADC 4)) sub4 ∧ sub4.st (pageADC 4) = stACTIVE ∧ (sub4.adc 4).sub = some 0 ∧ sub4.st (pageADC 0) = stCONFIGURED ∧
      sub4.flag (pageADC 0) Off.adc_CORESTAT 8 = true ∧ sub4.flag (pageADC 0) Off.adc_CORESTAT 9 = true) ∧
    (Ready .tdac (fromPcie pageTDAC) td0 ∧ td0.st pageTDAC = stACTIVE ∧ td0.flag pageTDAC Off.tdac_TDCFG 16 = true ∧
      td0.flag pageTDAC Off.tdac_TDSTAT 0 = true ∧ td0.flag pageTDAC Off.tdac_TDCFG 17 = true ∧ td0.flag pageTDAC Off.tdac_TDCMP 8 = true) ∧
    (let s := (withSt pageRSMP stACTIVE run0).setReg pageRSMP Off.rsmp_LANESEL 0x8000
     Ready .rsmp (fromPcie pageRSMP) s ∧ s.laneSel (fromPcie pageRSMP) ≠ 0 ∧ s.st pageRSMP = stACTIVE) ∧
    (let s := withSt (pagePWM 9) stSPARE (run3 stACTIVE)
     Ready .pwm (fromPcie (pagePWM 9)) s ∧ s.pwmSubMod (fromPcie (pagePWM 9)) ≤ 9 ∧ s.pwmSubMod (fromPcie (pagePWM 9)) ≠ 9 ∧
      s.st (pagePWM (s.pwmSubMod (fromPcie (pagePWM 9)))) ≠ stSPARE ∧
      s.fld pagePINMUX1 (Off.pinmuxX_MODMAP (s.pwmSubMod (fromPcie (pagePWM 9)))) 0 4 = s.pwmSubMod (fromPcie (pagePWM 9))) ∧
    (let s := (withSt (pagePWM 9) stACTIVE (run3 stCONFIGURED)).setPwm 9 { sub := some 3 }
     Ready .pwm (fromPcie (pagePWM 9)) s ∧ (s.pwm 9).sub = some 3 ∧ s.st (pagePWM 3) = stCONFIGURED) ∧
    (Ready .iu (fromPcie pageIU) live0 ∧ live0.st pageIU = stACTIVE) ∧
    (let s := (withSt (pageIDX 1) stACTIVE run0).setFld (pageIDX 1) Off.idx_PSTAT 0 3 pQUARANTINED
     Ready .idx (fromPcie (pageIDX 1)) s ∧ s.pst 1 = pQUARANTINED) ∧
    (Ready .idx (fromPcie (pageIDX 0)) (withSt (pageIDX 0) stACTIVE run0) ∧ (withSt (pageIDX 0) stACTIVE run0).pst 0 ≠ pQUARANTINED) := by
  refine ⟨⟨ready ?_ ?_, ?_, ?_⟩, ⟨ready ?_ ?_, ?_, ?_, ?_⟩, ⟨ready ?_ ?_, ?_, ?_⟩, ⟨ready ?_ ?_, ?_, ?_, ?_, ?_, ?_⟩,
    ⟨ready ?_ ?_, ?_, ?_, ?_, ?_, ?_⟩, ⟨ready ?_ ?_, ?_, ?_⟩, ⟨ready ?_ ?_, ?_, ?_, ?_, ?_⟩, ⟨ready ?_ ?_, ?_, ?_⟩, ⟨ready ?_ ?_, ?_⟩,
    ⟨ready ?_ ?_, ?_⟩, ready ?_ ?_, ?_⟩ <;> decide +kernel

/-- Cluster 0 in service with task 3 configured, in a state. -/
def task0 (x : Nat) : State :=
  let s := (clu0.setReg (pageCLT 0) (Off.clt_TASKCFG 3) 0x8000).setReg (pageCL 0) Off.cl_TASKSEL 3
  s.setClu 0 { s.clu 0 with tasks := [(3, { st := x })] }
def press0 : State := (live0.setReg pagePRESS Off.press_CLMASK 0x8001).setReg pagePRESS Off.press_IMGLEN 64
theorem wit_ClusterPressCommands :
    (Ready .cl (fromPcie (pageCL 0)) (task0 tDONE) ∧ (task0 tDONE).st (pageCL 0) = stACTIVE ∧ (task0 tDONE).taskSel (pageCL 0) = 3 ∧
      (task0 tDONE).taskOn 0 3 = true ∧ ((task0 tDONE).task 0 3).canAt ≠ (task0 tDONE).cycle) ∧
    (((task0 tREADY).task 0 3).st = tREADY ∧ ((task0 tREADY).task 0 3).shiftWait = false ∧ ((task0 tRUNNING).task 0 3).st = tRUNNING ∧
      ((task0 tIDLE).task 0 3).st = tIDLE) ∧
    (let s := (task0 tREADY).setTask 0 3 { st := tREADY, canAt := (task0 tREADY).cycle }
     (s.task 0 3).canAt = s.cycle) ∧
    (let s := ((task0 tRUNNING).setTask 0 3 { st := tRUNNING, disAt := (task0 tRUNNING).cycle }).setEng 0 { task := some 3 }
     Ready .cl (fromPcie (pageCL 0)) s ∧ (s.task 0 3).disAt = s.cycle ∧ s.engineOf 0 3 = some 0 ∧ (s.eng 0).run = 0 ∧ (s.eng 0).word = none) ∧
    (let s := ((task0 tSTALLED).setTask 0 3 { st := tSTALLED, shiftWait := true }).setEng 0
       { task := some 3, wait := some { chan := 3, tx := false, n := 8, xd := 4, data := 0, since := 0 } }
     Ready .cl (fromPcie (pageCL 0)) s ∧ (s.task 0 3).shiftWait = true ∧ s.engineOf 0 3 = some 0) ∧
    (Ready .press (fromPcie pagePRESS) press0 ∧ press0.md = mCONFIGURE ∧ press0.clMask = [0, 15] ∧
      (∀ c ∈ press0.clMask, press0.split c = false) ∧ 64 ≤ press0.fld pagePRESS Off.press_IMGLEN 0 21) ∧
    (let s : State := { press0 with banks := [(1, { valid := true }), (31, { valid := true })] }
     Ready .press (fromPcie pagePRESS) s ∧ ∀ c ∈ s.clMask, (s.bankSt c (!s.bankOf c)).valid = true) := by
  refine ⟨⟨ready ?_ ?_, ?_, ?_, ?_, ?_⟩, ?_, ?_, ⟨ready ?_ ?_, ?_, ?_, ?_, ?_⟩, ⟨ready ?_ ?_, ?_, ?_⟩, ⟨ready ?_ ?_, ?_, ?_, ?_, ?_⟩,
    ready ?_ ?_, ?_⟩ <;> decide +kernel

/-! ### Events -/

def dorm0 : State := { inMode mDORMANT State.reset with tbStopped := true, mode := { wake := 1 } }
theorem comes {f : Nat} {s : State} (h : (!s.mode.clockLost && decide (f < (s.era + 1) * 2 ^ 64)) = true) : Comes f s := by
  simpa [Comes] using h
theorem wit_match : (let s := State.reset.setReg pageTB Off.tb_MATCHARM 8
    Comes (max (s.clockOf (s.matchVal.get 0 3)) (s.matchTb.get 0 3)) s) := comes (by decide +kernel)
theorem wit_TimeBaseEvents :
    (let s := State.reset.setReg pageTB Off.tb_MATCHARM 8
     s.flag pageTB Off.tb_MATCHARM (3 : Fin 4).val = true ∧ s.tbStopped = false) ∧
    (dorm0.mode.dark = false ∧ ({ dorm0 with mode := { dark := true } } : State).mode.dark = true ∧
      ∀ n < 5, (dorm0.adc n).pipe = [] ∧ dorm0.pageOn (pageADC n) = true) ∧
    (let s : State := { State.reset with tb := BitVec.allOnes 64 }
     s.tb = BitVec.allOnes 64 ∧ s.tbStopped = false) ∧ run0.md ≠ mBOOT ∧ run0.md ≠ mDORMANT ∧ (inMode mBOOT State.reset).md = mBOOT ∧
    dorm0.md = mDORMANT ∧ dorm0.tbStopped = true ∧ dorm0.mode.wake ≠ 0 := by decide +kernel

/-- Channel 0 in service with two entries that are due, and an event of the calendar that is due. -/
def due0 : State := { sAng with
  cal := { evs := [{ ev0 0x1F with slot := 0, target := 300 }] }, tick := { bnd := 0, next := 4000 } }
def sync0 : State := (withSt (pageWU 0) stACTIVE run0).setWheel 0 { state := wFULL, pubState := wFULL, pubs := [⟨3000, 2000⟩, ⟨2000, 1000⟩] }
theorem wit_TickEvents :
    Quiet State.reset ∧ State.reset.now ≤ State.reset.tick.next ∧ Comes State.reset.tick.next State.reset ∧
    ({ State.reset with mode := { clockLost := true } } : State).mode.clockLost = true ∧
    (let s := (task0 tRUNNING).setEng 0 { task := some 3 }
     s.serving = true ∧ s.running? 0 = true) ∧
    (let u := due0.upTo 256
     u.draining = true ∧ (u.dueEvents.find? (fun y => u.canDrain y.2.1 y.2.2)).isSome = true ∧ u.pageOn (chPage 0) = true) ∧
    (let u := sync0.upTo 256
     u.imports 0 = false ∧ (predict u 0 4000 (u.boundaryAfter 4000)).isSome = true ∧ 4000 ≤ u.boundaryAfter 4000 ∧
      u.imports 1 = false ∧ (predict u 1 4000 (u.boundaryAfter 4000)).isNone = true) ∧
    (let s : State := { clu0 with clus := [(0, { tasks := [(3, { st := tSTALLED, mask := 8 })] })] }
     s.clus.has 0 = true ∧ (s.task 0 3).waits 3 = true) ∧ (withSt pageRSMP stACTIVE run0).resamples = true := by
  refine ⟨⟨?_, ?_, ?_, ?_, ?_, ?_, ?_, ?_, ?_, ?_, ?_, ?_⟩, ?_, comes ?_, ?_, ?_, ?_, ?_, ?_, ?_⟩ <;> decide +kernel

/-- What a boundary finds, and that nothing moves at it: `Due` and `Stays` as checks. -/
def isDue (s : State) : Bool :=
  decide (s.now ≤ s.tick.next) && !s.mode.clockLost && decide (s.tick.next < (s.era + 1) * 2 ^ 64) && s.lost.isEmpty &&
    s.twinDue.isEmpty && (List.range 16).all (fun c => !(s.clu c).faultDue) && !s.tbStopped && s.md != mBOOT && s.md != mDORMANT
theorem due {s : State} (h : isDue s = true) : Due s.running s.groups s := by
  simp only [isDue, Bool.and_eq_true, decide_eq_true_eq, Bool.not_eq_true', List.isEmpty_iff, bne_iff_ne, List.all_eq_true,
    List.mem_range] at h
  obtain ⟨⟨⟨⟨⟨⟨⟨⟨h1, h2⟩, h3⟩, h4⟩, h5⟩, h6⟩, h7⟩, h8⟩, h9⟩ := h
  exact ⟨h1, ⟨h2, h3⟩, rfl, rfl, h4, h5, h6, h7, h8, h9⟩
def stays (s : State) : Bool :=
  !s.mode.safeDue && !s.mode.cfgDue && !s.mode.limpDue && (List.range 16).all (fun c => !(s.clu c).moveDue)
theorem stays_of {s : State} (h : stays s = true) : Stays s := by
  simp only [stays, Bool.and_eq_true, Bool.not_eq_true', List.all_eq_true, List.mem_range] at h
  exact ⟨h.1.1.1, h.1.1.2, h.1.2, h.2⟩
/-- The first command of the list runs alone and the boundary finds it, its page lit. -/
def runs0 (r : Running) (s : State) : State := { s with running := [r] }
def waits0 (r : Running) (s : State) : Bool :=
  let t := runs0 r s
  isDue t && stays t && (pageKind r.req.page.toNat).isSome && !isSecondary r.req.page.toNat && t.pageOn r.req.page.toNat && t.groups.isEmpty
theorem waits {r : Running} {s : State} (h : waits0 r s = true) :
    Due [r] [] (runs0 r s) ∧ Stays (runs0 r s) ∧ Lit r.req.page.toNat (runs0 r s) := by
  simp only [waits0, Bool.and_eq_true, List.isEmpty_iff, Bool.not_eq_true'] at h
  obtain ⟨⟨⟨⟨⟨h1, h2⟩, h3⟩, h4⟩, h5⟩, h6⟩ := h
  exact ⟨h6 ▸ due h1, stays_of h2, h3, h4, h5⟩
def cmd0 (p code : Nat) (data : List Nat := []) : Running := ⟨code, fromPcie p, false, data⟩

/-- Page PCHG 0 PREPARED with one shadowed value, in a state. -/
def prep0 (x : Nat) : State :=
  let s := withSt (pagePCHG 0) x run0
  { s with shadow := [(adr (pagePCHG 0) (Off.pchg_CNTTOP 15), 7)], groups := [⟨fromPcie (pagePCHG 0), true, false, [pagePCHG 0], 0, true, [], false⟩] }
theorem wit_BoundaryCommits :
    (∀ x ∈ [stIDLE, stACTIVE, stFAULT], Due [] [⟨fromPcie (pagePCHG 0), true, false, [pagePCHG 0], 0, true, [], false⟩] (prep0 x) ∧
      Stays (prep0 x) ∧ Lit (pagePCHG 0) (prep0 x) ∧ (prep0 x).st (pagePCHG 0) = x) ∧
    isShadowed (adr (pagePCHG 0) (Off.pchg_CNTTOP 15)) = true := by
  refine ⟨fun x h => ⟨due (s := prep0 x) ?_, stays_of ?_, ⟨?_, ?_, ?_⟩, ?_⟩, ?_⟩ <;> (try revert x) <;> decide +kernel
theorem wit_BoundaryService :
    (∀ x ∈ [(pagePWM 3, 3, stCONFIGURED), (pagePWM 3, 4, stACTIVE), (pagePWM 3, 3, stIDLE), (pageCL 15, 3, stCONFIGURED),
        (pageWU 0, 4, stACTIVE), (pageIDX 1, 3, stCONFIGURED)],
      (let s := withSt x.1 x.2.2 run0
       waits0 (cmd0 x.1 x.2.1) s = true ∧ s.st x.1 = x.2.2)) ∧
    (let s := (withSt (pageCL 15) stCONFIGURED run0).setReg (pageCL 15) Off.cl_ROLECFG 0x100
     waits0 (cmd0 (pageCL 15) 3) s = true ∧ s.isReserve 15 = true ∧ s.st (pageCL 15) = stCONFIGURED) ∧
    (let s := (withSt (pagePWM 9) stCONFIGURED run0).setReg (pagePWM 9) Off.pwm_MCFG 1
     waits0 (cmd0 (pagePWM 9) 3) s = true ∧ s.flag (pagePWM 9) Off.pwm_MCFG 0 = true ∧ (s.pwm 9).sub = none) := by decide +kernel
theorem wit_BoundaryModes :
    (∀ code ∈ [0x40, 0x41, 0x42, 0x43, 0x44, 0x45, 0x46], waits0 (cmd0 pageSYS code) run0 = true) ∧
    (waits0 (cmd0 pageSYS 0x43) (inMode mHALT live0) = true ∧ (inMode mHALT live0).md = mHALT ∧
      waits0 (cmd0 pageSYS 0x43) (inMode mLIMP live0) = true ∧ (inMode mLIMP live0).md = mLIMP) ∧
    (let s : State := { live0 with mode := { arm := 2 } }
     waits0 (cmd0 pageSYS 0x40) s = true ∧ s.mode.arm = 2 ∧ s.md = mCONFIGURE) ∧
    (run0.setFld pageTB Off.tb_SLOWSTAT 0 1 1).flag pageTB Off.tb_SLOWSTAT 0 = true ∧ waits0 (cmd0 pageDBG 0x43) run0 = true ∧
    (let s : State := { run0 with mode := { safeDue := true } }
     isDue s = true ∧ s.running = [] ∧ s.groups = [] ∧ (∀ c < 16, (s.clu c).moveDue = false)) ∧
    (let s : State := { run0 with mode := { limpDue := true } }
     isDue s = true ∧ s.md = mRUN ∧ s.mode.safeDue = false) := by decide +kernel
theorem wit_BoundaryDomains :
    (∀ d ∈ [0, 16, 51 / 2 * 2, 87], leadDomain d = d ∧ d < 88 ∧ (∀ code ∈ [0x40, 0x41, 0x42, 0x43], ∀ n ∈ [0, 1, 2],
      waits0 (cmd0 pagePWR code [d, n]) run0 = true) ∧ (run0.dom.get {} d).st = 0) ∧
    (let s : State := { run0 with tb := 9, dom := [(87, { st := 4, worked := true, since := 5 })] }
     waits0 (cmd0 pagePWR 0x43 [87, 2]) s = true ∧ (s.dom.get {} 87).worked = true ∧ (s.dom.get {} 87).since < s.tick.next) ∧
    (run0.dom.get {} 87).worked = false := by decide +kernel
theorem wit_BoundaryBlocks :
    (let s := withSt (pagePCHG 9) stACTIVE run0
     waits0 (cmd0 (pagePCHG 9) 0x42 [255, 254, 0xFFFFFFFF, 159]) s = true ∧ [159].Nodup) ∧
    (waits0 (cmd0 (pageADC 4) 0x42) (adc0 4 stACTIVE) = true ∧ (((adc0 4 stACTIVE).setAdc 4 { kind := 1, entry := 5 }).adc 4).kind ≠ 0) ∧
    (let s : State := { run0 with press := { dest := [(15, true)] } }
     waits0 (cmd0 pagePRESS 0x41 [0, 15]) s = true ∧ (∀ e : Fin 128, (s.eng e.val).overrun = false) ∧
      (∀ e ∈ s.unswitched [15], (s.eng (s.leads e)).atBoundary = true) ∧
      (let t := s.setEng 127 { task := some 3, run := 5 }
       waits0 (cmd0 pagePRESS 0x41 [3, 15]) t = true ∧ 127 ∈ t.unswitched [15] ∧ (t.eng (t.leads 127)).atBoundary = false)) ∧
    (waits0 (cmd0 (pageWU 7) 0x41) (withSt (pageWU 7) stCONFIGURED bench0) = true ∧ bench0.md = mBENCH ∧
      waits0 (cmd0 (pageWU 7) 0x42) (withSt (pageWU 7) stSYNTH bench0) = true) ∧
    (let v (w : Word) (s : State) := s.setReg pageDBG Off.dbg_TBPRESET_HI w
     waits0 (cmd0 pageDBG 0x44) (v 0 bench0) = true ∧ (v 0 bench0).reg64 pageDBG Off.dbg_TBPRESET_LO Off.dbg_TBPRESET_HI ≤ (v 0 bench0).tick.next % 2 ^ 64 ∧
      (v 9 bench0).tick.next % 2 ^ 64 < (v 9 bench0).reg64 pageDBG Off.dbg_TBPRESET_LO Off.dbg_TBPRESET_HI) := by decide +kernel
/-- Cluster 15 serves a role and is due to lose it; cluster 0 is a spare with the same image. -/
def move0 : State :=
  let s := withSt (pageCL 0) stSPARE (withSt (pageCL 15) stACTIVE run0)
  { s with clus := [(15, { holds := true, moveDue := true })], banks := [(0, { valid := true, sha := some 5 }), (30, { valid := true, sha := some 5 })] }
theorem wit_BoundaryMoves :
    isDue move0 = true ∧ move0.running = [] ∧ move0.groups = [] ∧ move0.mode.safeDue = false ∧ move0.mode.limpDue = false ∧
    (∀ i < 16, (move0.clu i).moveDue = decide (i = 15)) ∧ (move0.clu 15).holds = true ∧ move0.takesOver = true ∧
    move0.st (pageCL 15) = stACTIVE ∧ move0.qualifies 15 0 = true := by decide +kernel

def fire0 (kind : Nat) (e : Option Nat) : State :=
  (dev0 {}).setChan 0 { cq := [⟨100, kind, 9, none⟩], headTb := 5, pulseEnd := e, capq := [{ tb := 1, pol := true, ang := none }] }
theorem wit_PinEvents :
    (fire0 3 none).pageOn (chPage 0) = true ∧
    ((fire0 3 none).chan 0).cq = ⟨100, 3, 9, none⟩ :: [] ∧
    (∀ k ∈ [0, 1, 2, 3, 4, 5], (fire0 k none).clockOf 100 < ((fire0 k none).setChan 0 { headTb := 105 } |>.chan 0).headTb ∧
      ((fire0 k none).chan 0).headTb ≤ (fire0 k none).clockOf 100) ∧
    (let s := ((((withSt (pageADC 4) stACTIVE (fire0 4 none)).setReg (pageADC 4) (Off.adc_TRGCFG 3) 1).setReg (pageADC 4) (Off.adc_TRGDLY 3) 9).setReg
       (pagePCHG 0) (Off.pchg_CHINTEN 0) 0x10)
     s.active (pageADC 4) = true ∧ s.fld (pageADC 4) (Off.adc_TRGCFG 3) 0 4 = 1 ∧ s.fld (pageADC 4) (Off.adc_TRGCFG 3) 16 8 = 0 ∧
      s.flag (chPage 0) (Off.pchg_CHINTEN 0) 4 = true) ∧
    ((fire0 5 (some 80)).chan 0).pulseEnd = some 80 ∧ ((fire0 0 (some 800)).chan 0).pulseEnd.isSome = true ∧
    (let s := (dev0 {}).setReg (pagePCHG 0) (Off.pchg_CHCFG 0) 0x33
     2 ≤ s.chcfg 0 0 2 ∧ s.chcfg 0 4 2 / 1 % 2 = 1 ∧ s.chcfg 0 4 2 / 2 % 2 = 1) ∧
    (let s := ((withSt (pagePCHG 0) stACTIVE run0).setReg (pagePCHG 0) (Off.pchg_CNTCFG 0) 1).setChan 0 { top := 7, cnt := 6 }
     s.counting 0 = true ∧ (s.chan 0).cnt + 1 = (s.chan 0).top) := by decide +kernel
theorem wit_pin_clocks : Comes (max ((fire0 3 none).clockOf 100) ((fire0 3 none).chan 0).headTb) (fire0 3 none) ∧ Comes 0 (fire0 3 none) :=
  ⟨comes (by decide +kernel), comes (by decide +kernel)⟩

/-- Unit 0 decodes, and turns forwards in a state. -/
def wu0 (x : Wheel) : State := ((withSt (pageWU 0) stACTIVE run0).setReg (pageWU 0) Off.wu_WCFG 0x23C01).setWheel 0 x
def turn0 (st : Nat) : Wheel := { state := st, hist := [100000], lastTb := 100000, seen := true, per := 10000, nper := 2, tooth := 4 }
/-- Unit 0 with a Hall sensor that shows the direction by the width of its pulses. -/
def hall0 (x : Wheel) : State :=
  (((wu0 x).setReg (pageWU 0) Off.wu_WCFG 0x23C03).setReg (pageWU 0) Off.wu_DIRCFG 1).setReg (pageWU 0) Off.wu_DIRWIN 0x04030201
def forward (tb : Nat) (x : Wheel) : Bool :=
  let s := wu0 x
  (decide (x.hist = []) || decide (x.lastTb + 8 * s.fld (pageWU 0) Off.wu_FILTCFG 16 16 ≤ tb)) && x.open_.isNone &&
    !s.widthChecked 0 (tb - x.lastTb)
theorem wit_PrimaryEdges :
    (∀ x ∈ [({} : Wheel), turn0 wSEARCH, turn0 wFULL], (wu0 x).crankTakers 0 = [0] ∧ (wu0 x).decodes 0 = true ∧ (wu0 x).arms 0 100 = true ∧
      (wu0 x).hall 0 = false ∧ (wu0 x).arms 0 0 = false) ∧
    (State.reset.setReg (pageWU 3) Off.wu_WCFG 0).crankTakers 3 = [] ∧ State.reset.crankTakers 7 = [7] ∧ State.reset.decodes 7 = false ∧
    (let s := (wu0 (turn0 wFULL)).setFld (pageWU 0) Off.wu_FILTCFG 16 16 9
     (s.wheel 0).hist ≠ [] ∧ (100071 : Time).toNat < (s.wheel 0).lastEdge + 8 * s.fld (pageWU 0) Off.wu_FILTCFG 16 16) ∧
    (let s := hall0 (turn0 wFULL)
     s.crankTakers 0 = [0] ∧ s.decodes 0 = true ∧ s.hall 0 = true ∧ (s.wheel 0).open_ = none ∧
      (s.wheel 0).lastTb + 8 * s.fld (pageWU 0) Off.wu_FILTCFG 16 16 ≤ 110000 ∧ s.widthChecked 0 (110000 - (s.wheel 0).lastTb) = true) ∧
    (forward 130000 (turn0 wSEARCH) = true ∧ 1 ≤ (turn0 wSEARCH).nper ∧ (turn0 wSEARCH).counting = false ∧ (turn0 wSEARCH).per ≠ 0 ∧
      (wu0 (turn0 wSEARCH)).inWindow 0 .gap (ratioAt 0 130000 (wu0 (turn0 wSEARCH))) = true) ∧
    (let x : Wheel := { turn0 wGAP with counting := true }
     forward 104000 x = true ∧ (wu0 x).inWindow 0 .gap (ratioAt 0 104000 (wu0 x)) = false ∧
      (wu0 x).classify 0 (expectedWindow 58 (nextTooth 58 4 0 false).1 false) (ratioAt 0 104000 (wu0 x)) ≠ .valid) ∧
    (let s := wu0 (turn0 wFULL)
     let cls (tb : Nat) := s.classify 0 (expectedWindow (s.teeth 0 - s.missing 0) (nextTooth (s.teeth 0 - s.missing 0) 4 0 false).1 false) (ratioAt 0 tb s)
     forward 110000 (turn0 wFULL) = true ∧ cls 110000 = .valid ∧ forward 130000 (turn0 wFULL) = true ∧ cls 130000 = .mismatched ∧
      s.flag (pageWU 0) Off.wu_SYNCCFG 9 = false ∧ forward 104000 (turn0 wFULL) = true ∧ cls 104000 = .invalid ∧
      (0 : Nat) + 1 < s.fld (pageWU 0) Off.wu_SYNCCFG 4 4) ∧
    (let x := turn0 wLOST
     forward 150000 x = true ∧ x.counting = false ∧ (wu0 x).inWindow 0 .gap (ratioAt 0 150000 (wu0 x)) = false ∧
      (wu0 x).inWindow 0 .after (ratioAt 0 150000 (wu0 x)) = false ∧ (wu0 x).inWindow 0 .normal (ratioAt 0 150000 (wu0 x)) = false) ∧
    ((hall0 { open_ := some 20000 }).wheel 0).open_ = some 20000 := by decide +kernel

/-- Unit 0 with one cam edge, rising, at angle `a`. -/
def cam0 (a : Nat) (x : Wheel) : State :=
  ((wu0 x).setFld (pageWU 0) Off.wu_SECACFG 0 22 0x010001).setReg (pageWUX 0) (Off.wux_CAMA 0) (BitVec.ofNat 32 (a + 2 ^ 24))
/-- A rising edge of channel 0 at TB 100,000. -/
def camHits (s : State) (x m : Int) : List (Nat × Bool) :=
  let a := camState (.tio 0) 0 100000 s
  (a.camTable 0 false).filter (fun e => e.2 == true && decide (modDist x e.1 m ≤ a.camTol 0 false))
def camReaches (s : State) : Bool := s.delivers (.tio 0) true && s.camTakers (.tio 0) == [(0, false)] && s.camTable 0 false != []
theorem camReaches_of {s : State} (h : camReaches s = true) : CamReaches (.tio 0) 0 false true s := by
  simp only [camReaches, Bool.and_eq_true, beq_iff_eq, bne_iff_ne] at h; exact ⟨h.1.1, h.1.2, h.2⟩
theorem wit_CamEvents :
    (∀ st ∈ [wSEARCH, wGAP, wCRANK, wFULL, wCAM, wLOST, wREVERSE], camReaches (cam0 0 (turn0 st)) = true ∧ (cam0 0 (turn0 st)).active (pageWU 0) = true) ∧
    (State.reset.delivers (.whl 0 0) true = false ∧ State.reset.delivers (.tio 9) true = true ∧ State.reset.camTakers (.tio 9) = []) ∧
    (let near := cam0 559240 (turn0 wFULL)
     camHits near ((camState (.tio 0) 0 100000 near).camMeasured 0 100000) (2 ^ 24) ≠ []) ∧
    (let far := cam0 5000000 (turn0 wFULL)
     camHits far 559240 (2 ^ 24) = [] ∧ camHits far 559240 (2 ^ 23) = [] ∧ (camState (.tio 0) 0 100000 far).camMeasured 0 100000 = 559240 ∧
      far.revAc 0 = 2 ^ 23) ∧
    (let opp := cam0 (2 ^ 23 + 559240) (turn0 wFULL)
     camHits opp 559240 (2 ^ 24) = [] ∧ camHits opp 559240 (2 ^ 23) ≠ [] ∧ opp.fld (pageWU 0) Off.wu_SYNCCFG 12 4 ≠ 0 ∧
      (turn0 wFULL).opp + 1 < opp.fld (pageWU 0) Off.wu_SYNCCFG 12 4 ∧
      opp.fld (pageWU 0) Off.wu_SYNCCFG 12 4 ≤ ({ turn0 wFULL with opp := 14 } : Wheel).opp + 1) ∧
    ((cam0 0 {}).md ≠ mLIMP ∧ (cam0 0 {}).camSel 0 false = true ∧ (cam0 0 {}).camSel 0 true = false) ∧
    (let s := cam0 559240 (turn0 wCRANK)
     (camHits s ((camState (.tio 0) 0 100000 s).camMeasured 0 100000 - 0 + (camState (.tio 0) 0 100000 s).tdcofs 0) (2 ^ 23)).length ≤ 1 ∧
      s.fld (pageWU 0) Off.wu_SYNCCFG 2 2 ≤ 1) ∧
    (let s (t0 : Nat) := cam0 0 { state := wCAM, cams := [⟨90000, false, true, 2 ^ 24⟩, ⟨t0, false, true, 0⟩] }
     let a (t0 : Nat) := camState (.tio 0) 0 100000 (s t0)
     let far (t0 : Nat) := ((a t0).camPos 0 100000 - 2 ^ 25).natAbs
     (s 80000).camSeq 0 = [(0, false, true)] ∧ camSteps ((s 80000).wheel 0).cams = ((s 80000).wheel 0).cams ∧
      (camExpected ((a 80000).camSeq 0) ((s 80000).wheel 0).cams).find? (fun x => x.2.1 == false && x.2.2 == true) = some (2 ^ 25, false, true) ∧
      far 80000 ≤ (a 80000).camTol 0 false ∧ (a 70000).camTol 0 false < far 70000) ∧
    (let s := cam0 0 { state := wCAM, cams := [⟨90000, false, true, 2 ^ 24⟩, ⟨80000, false, true, 0⟩] }
     (s.wheel 0).state = wCAM ∧ !s.mode.clockLost ∧ 110000 < (s.era + 1) * 2 ^ 64) := by
  decide +kernel
theorem wit_camReaches : CamReaches (.tio 0) 0 false true (cam0 0 (turn0 wFULL)) := camReaches_of (by decide +kernel)

def syn0 (x : Wheel) : State := ((((withSt (pageWU 0) stSYNTH bench0).setReg (pageWU 0) Off.wu_WCFG 0x23C01).setReg (pageWUS 0) Off.wus_PROF 2
  |>.setReg (pageWUS 0) (Off.wus_SEG 0) 0x000103E8).setWheel 0 x)
def clo0 (w : Word) (x : Wheel) : State := ((withSt (pageWU 0) stACTIVE run0).setReg (pageWU 0) Off.wu_QCFG w).setWheel 0 x
theorem wit_SynthesisAndClover :
    (let s := syn0 { synRpm := 500 }
     s.st (pageWU 0) = stSYNTH ∧ nextKey (synEdges s 0) none = some (0, true) ∧ s.synReach 0 (({} : Wheel).countOn 0 / 4) = some 0 ∧
      s.flag (pageWU 0) Off.wu_SYNCFG 26 = false ∧ (s.setReg (pageWU 0) Off.wu_SYNCFG 0x0C000000).flag (pageWU 0) Off.wu_SYNCFG 26 = true ∧
      (s.wheel 0).synDone = false ∧ (s.wheel 0).synSeg + 1 < s.fld (pageWUS 0) Off.wus_PROF 0 6 ∧
      (∃ l : Bool, l ≠ (s.wheel 0).synLine 0)) ∧
    (let s := (syn0 { synKey := some 0 }).setReg (pageWUS 0) (Off.wus_SEG 0) 0x00010000
     nextKey (synEdges s 0) (some 0) ≠ none ∧ s.synReach 0 100 = none) ∧
    (let s := (syn0 { synDone := true }).setReg (pageWU 0) Off.wu_WCFG 0
     nextKey (synEdges s 0) none = none ∧ (s.wheel 0).synDone = true ∧ s.st (pageWU 1) ≠ stSYNTH) ∧
    (let s := syn0 { synSeg := 1 }
     s.fld (pageWUS 0) Off.wus_PROF 0 6 ≤ (s.wheel 0).synSeg + 1 ∧ s.flag (pageWUS 0) Off.wus_PROF 8 = false ∧
      (s.setReg (pageWUS 0) Off.wus_PROF 0x102).flag (pageWUS 0) Off.wus_PROF 8 = true) ∧
    ((clo0 5 {}).clover 0 = true ∧ (clo0 5 {}).flag (pageWU 0) Off.wu_QCFG 2 = true ∧ (clo0 1 {}).flag (pageWU 0) Off.wu_QCFG 2 = false ∧
      (clo0 0 {}).clover 0 = false ∧
      (List.range 4).map (fun i => (quadPlace (i / 2 == 1) (i % 2 == 1) + 4 - quadPlace false false) % 4) = [0, 1, 3, 2]) := by
  decide +kernel

/-- Core 0 converts a sequence of one triggered entry for channel 5 in range 2. -/
def conv0 (cfg : Word) (x : AdcCore) : State :=
  (((((adc0 0 stACTIVE).setReg (pageADC 0) (Off.adc_TRGCFG 0) cfg).setReg (pageADC 0) Off.adc_ENMASK 0x20).setReg (pageADCS 0)
    (Off.adcs_SEQA 0) 0x02000020).setReg (pageADCS 0) (Off.adcs_SEQB 0) 0x00100000).setAdc 0 { x with kind := 1 }
def hold0 : Held :=
  { samp := { tb := 500, ain := 5, rng := 2, value := 7, settle := false, diag := false, urgent := false }, due := 620 }
theorem wit_ConverterEvents :
    (conv0 0x501 {}).converts 0 = true ∧ (conv0 0x501 {}).fld (pageADC 0) (Off.adc_TRGCFG 0) 0 2 ≠ 0 ∧ (adc0 0 stIDLE).converts 0 = false ∧
    ((conv0 0x521 {}).flag (pageADC 0) (Off.adc_TRGCFG 0) 5 = true ∧ (conv0 0x521 {}).flag (pageADC 0) Off.adc_ENMASK 5 = true) ∧
    ((conv0 0x521 { urg := List.replicate 4 ⟨5, 0, false⟩ }).adc 0).urg.length = 4 ∧
    (let x := (conv0 0x501 { trig := 1 }).adc 0
     (conv0 0x501 {}).flag (pageADC 0) (Off.adc_TRGCFG 0) 5 = false ∧ x.kind = 1 ∧ x.phase = 0 ∧ x.trig = (0 : Fin 4).val + 1) ∧
    ((conv0 0x511 { phase := 1 }).flag (pageADC 0) (Off.adc_TRGCFG 0) 4 = true ∧
      ((conv0 0x501 { phase := 1, latch := [(0, 9)] }).adc 0).latch.has 0 = true ∧
      ((conv0 0x501 { phase := 1 }).adc 0).latch.has 0 = false) ∧
    (((conv0 0x501 { phase := 1 }).adc 0).phase = 1 ∧ (conv0 0x501 { phase := 1 }).seqMask 0 0 ≠ [] ∧
      (conv0 0x501 { phase := 1, entry := 1 }).seqMask 0 1 = []) ∧
    (((conv0 0x501 { phase := 2 }).nextHold 0 |>.map (·.2.1)) = some 5 ∧ (conv0 0x501 {}).nextHold 0 = none) ∧
    (((conv0 0x501 { pipe := [hold0] }).adc 0).pipe = hold0 :: [] ∧ (conv0 0x501 {}).md ≠ mDORMANT ∧ ((conv0 0x501 {}).adc 0).pipe = [] ∧
      (conv0 0x501 {}).pageOn (pageADC 0) = true) ∧
    (let s := ((withSt pageRSMP stACTIVE (conv0 0x501 { pipe := [hold0] })).setReg (lanePage 15) (Off.rsml_LCFG 1) 0x501)
     s.laneTakes 15 = true ∧ s.lcfg 15 8 6 = hold0.samp.ain ∧ ¬ (hold0.samp.urgent = true ∧ s.lcfg 15 2 1 = 1)) := by decide +kernel

theorem wit_hold_clock : Comes hold0.due (conv0 0x501 { pipe := [hold0] }) := comes (by decide +kernel)
def cal0 : Running := ⟨0x40, fromPcie (pageADC 0), false, [stIDLE, 0]⟩
theorem wit_CalibrationAndReference :
    (let s : State := { adc0 0 stCALIBRATING with running := [cal0] }
     s.running.find? (fun q => q.req.page.toNat == pageADC 0 && q.code == 0x40) = some cal0 ∧ s.pageOn (pageADC 0) = true ∧
      calOk ⟨[0x1000, 0xFFFFF000, 0, 0], [0x12000, 0xE000, 0x10000, 0x10000], List.replicate 10 0, true⟩ = true ∧
      calOk ⟨[0x1001, 0, 0, 0], List.replicate 4 0x10000, List.replicate 10 0, true⟩ = false) ∧
    (State.reset.running = [] ∧ (State.reset.adc 0).refDue = none ∧ State.reset.active (pageADC 0) = false ∧
      State.reset.td.settleDue = none) ∧
    ((adc0 0 stACTIVE).setAdc 0 { refDue := some 7 } |>.adc 0).refDue = some 7 ∧ (adc0 0 stACTIVE).active (pageADC 0) = true ∧
    (let r : Running := ⟨0x40, fromPcie pageTDAC, false, []⟩
     let s : State := { bench0 with running := [r], td := { settleDue := some 5, n := 1, sum := 40 } }
     s.td.settleDue = some 5 ∧ s.running.find? (fun r => r.req.page.toNat == pageTDAC && r.code == 0x40) = some r ∧
      2 ^ s.fld pageTDAC Off.tdac_TDCMP 0 4 ≤ s.td.n ∧ (0 : Nat) < 2 ^ s.fld pageTDAC Off.tdac_TDCMP 0 4) ∧
    Comes (run0.td.beg + 80000000) run0 := by
  refine ⟨?_, ?_, ?_, ?_, ?_, comes ?_⟩ <;> decide +kernel

def pwm0 (x : PwmMod) : State := (withSt (pagePWM 2) stACTIVE run0).setPwm 2 x
/-- Module 2 takes its sync events from VALLEY. -/
def pwmSync (x : PwmMod) : State := (pwm0 x).setReg (pagePWM 2) Off.pwm_MCFG 4
def syncDue (x : PwmMod) (s : State) : Bool := (s.syncEvent 2).any (fun t0 => decide (x.clockAfter t0 ≤ x.wrapAt))
theorem wit_PwmEvents :
    ((pwm0 {}).active (pagePWM 2) = true ∧ run0.active (pagePWM 2) = false) ∧
    (syncDue {} (pwm0 {}) = false ∧ (pwm0 {}).syncEvent 2 = none ∧ syncDue { sync := some 0 } (pwmSync { sync := some 0 }) = true) ∧
    (((pwm0 {}).pwm 2).mid = false ∧ ((pwm0 {}).pwm 2).cnt ≤ ((pwm0 {}).pwm 2).half ∧ ((pwm0 {}).pwm 2).endAt = none ∧
      ((pwm0 { mid := true }).pwm 2).mid = true) ∧
    (let x : PwmMod := { ref := [false, false, false, false, false, false, false, true] }
     x.ref.getD (7 : Fin 8).val false = true ∧ x.cmp.getD 7 0 ≤ x.per ∧ x.cmp.getD 7 0 < x.half ∧ x.ref.getD (6 : Fin 8).val false = false ∧
      (let y : PwmMod := { cmp := List.replicate 8 3999 }
       y.half ≤ y.cmp.getD (7 : Fin 8).val 0)) ∧
    (({} : PwmMod).pairs.getD 3 {} |>.h) = false ∧ (({} : PwmMod).pairs.getD 3 {} |>.l) = false ∧ ((3 : Fin 4).val < ({} : PwmMod).pairs.length) ∧
    ((pwmSync { sync := some 0, syncofs := 100 }).syncEvent 2 = some 0 ∧ ((pwmSync {}).pwm 2).syncofs = 0) ∧
    (let s := ((pwm0 {}).setReg pageTRIP (Off.trip_TRIPCFG 15) 9).setReg (pagePWM 2) (Off.pwm_TRIPSEL 1) 0x8000
     s.tripFiltered (15 : Fin 16).val true true 3 = true ∧ s.tripFiltered 15 true true 2 = false ∧ s.tripFiltered 15 false false 3 = true ∧
      s.tripFiltered 15 false false 2 = false ∧ s.flag pageTRIP Off.trip_TRIPLVL 15 = false ∧
      s.flag (pagePWM 2) (Off.pwm_TRIPSEL 1) 15 = true ∧ s.pwmBlank 2 (s.pwmEdge 2) = false ∧ 1 < (s.pwm 2).pairs.length) ∧
    (let s := clu0.setReg (pageCL 0) Off.cl_PAIRCFG 8
     s.active (pageCL 0) = true ∧ s.pairState 0 3 = 1) := by decide +kernel

def rxUnit (mode frm unit : Nat) (u : ShiftSt) : State :=
  run0.setChan 3 { shift := { u with w0 := BitVec.ofNat 32 mode, w1 := BitVec.ofNat 32 (frm * 2 ^ 24 + unit) } }
theorem wit_ShiftUnitEvents :
    (let s := rxUnit 3 9 50 { lvl := some true, quiet := 50, buf := List.replicate 23 true }
     let bs := false :: List.replicate 8 true
     s.pageOn (chPage (3 : Fin 160).val) = true ∧ s.stalledOn 3 = [] ∧ (s.unit 3).mode = 3 ∧ (s.unit 3).busy = false ∧ (s.unit 3).lvl = some true ∧
      (s.unit 3).unit ≤ (s.unit 3).quiet ∧ 0 < (s.unit 3).unit ∧ bs.length = (s.unit 3).frm ∧ bs.head? = some false ∧
      (s.unit 3).buf.length + (s.unit 3).frm = 32) ∧
    32 < ((rxUnit 3 9 50 { buf := List.replicate 24 true }).unit 3).buf.length + ((rxUnit 3 9 50 {}).unit 3).frm ∧
    (let u := (rxUnit 2 9 50 { lvl := some true, quiet := 100 }).unit 3
     u.mode = 2 ∧ u.busy = false ∧ u.lvl = some (!false) ∧ 2 * u.unit ≤ u.quiet ∧ 0 < u.unit ∧ 0 < u.frm ∧ u.receives = true) ∧
    (((rxUnit 1 9 100 {}).unit 3).mode = 1 ∧ 3 * 56 * ((rxUnit 1 9 100 {}).unit 3).unit ≤ 4 * 4200 ∧
      4 * 7000 ≤ 5 * 56 * ((rxUnit 1 9 100 {}).unit 3).unit) ∧
    (let u := (rxUnit 4 9 50 { buf := [true] }).unit 3
     u.transmits = true ∧ u.half = none ∧ u.buf = true :: [] ∧ u.busy = false ∧ u.receives = false) ∧
    (let u := (rxUnit 5 9 50 { busy := true, due := 7 }).unit 3
     u.transmits = true ∧ u.half = none ∧ u.buf = [] ∧ u.busy = true ∧ u.due = 7) ∧ Comes 7 run0 ∧
    ((rxUnit 5 9 50 { half := some true }).unit 3).half = some true ∧
    ({ run0 with dom := [(leadDomain (pageDomain (chPage 3)), { st := 1 })] } : State).pageOn (chPage (3 : Fin 160).val) = false ∧
    (let s := (rxUnit 3 0 50 {}).setChan 3 { shift := { w0 := 0x00050003 } }
     let s := s.setEng 0 { task := some 3, wait := some ⟨3, false, 8, 4, 0, 9⟩ }
     (s.eng 0).wait = some ⟨3, false, 8, 4, 0, 9⟩ ∧ (s.eng 0).task = some 3 ∧ (s.unit 3).timeout ≠ 0 ∧
      9 + (s.unit 3).timeout * 8000 < (s.era + 1) * 2 ^ 64 ∧ (State.reset.eng 0).wait = none ∧ (State.reset.unit 3).timeout = 0) := by
  refine ⟨?_, ?_, ?_, ?_, ?_, ?_, comes ?_, ?_, ?_, ?_⟩ <;> decide +kernel

/-- Cluster 0 holds role 1 with epoch 1. -/
def role0 (m : List (Nat × Msg)) (x : Clu) : State :=
  let s := clu0.setReg (pageCL 0) Off.cl_ROLECFG 1
  { s.setClu 0 { x with holds := true } with epochs := [(1, 1)], msgs := m }
/-- The command ring in service, the link up, one entry published. -/
def ring0 : State :=
  let s := (withSt pageCMDQ stACTIVE run0).setReg pageCMDQ Off.cmdq_CRTAIL 1
  { s with host := { linkUp := true, cfg := { busMaster := true } }, ring := { pubs := [(1, 0)] } }
theorem wit_MessagesAndCompletions :
    (let s := role0 [(3, msg0)] {}
     s.msgs = (3, msg0) :: [] ∧ fieldOf msg0.addr 12 2 = s.devnum ∧ s.holder (fieldOf msg0.addr 8 4) = some 0 ∧
      fieldOf msg0.addr 0 8 = s.epoch (fieldOf msg0.addr 8 4) ∧ (s.clu 0).msgq.length < 32 ∧
      (s.whey.queued.filter (·.1 == pageCL 0)).length < 8) ∧
    (State.reset.msgs = [] ∧ fieldOf msg0.addr 12 2 = run0.devnum ∧ run0.holder (fieldOf msg0.addr 8 4) = none) ∧
    fieldOf msg0.addr 0 8 ≠ ({ role0 [(3, msg0)] {} with epochs := [(1, 2)] } : State).epoch (fieldOf msg0.addr 8 4) ∧
    (let own : Msg := { msg0 with sender := 0x101 }
     let s := role0 [(3, own)] {}
     fieldOf own.sender 12 2 = s.devnum ∧ s.holder (fieldOf own.sender 8 4) = some 0 ∧
      BitVec.ofNat 32 (((s.sharedAt 0 (s.bncBase 0)).toNat % 16 + 1) % 16) ≠ s.sharedAt 0 (s.bncBase 0 + 4)) ∧
    32 ≤ ((role0 [] { msgq := List.replicate 32 msg0 }).clu 0).msgq.length ∧
    (let s : State := { role0 [] { ecq := List.replicate 255 [] } with cal := { evs := [{ ev0 1 with st := 2 }] } }
     s.holder 1 = some 0 ∧ sortBy (fun x y => x.fin < y.fin) (s.cal.evs.filter (fun e => e.st == 2 && e.owner == 1)) =
      { ev0 1 with st := 2 } :: [] ∧ (s.clu 0).ecq.length < 256 ∧ (s.clu 0).ecq.length = 255) ∧
    256 ≤ ((role0 [] { ecq := List.replicate 256 [] }).clu 0).ecq.length ∧
    (let s : State := { ring0 with cal := { evs := [{ ev0 0x1F with st := 2 }] } }
     s.hostEnded = { ev0 0x1F with st := 2 } :: [] ∧ s.slotFree = true ∧ s.host.linkUp = true) ∧
    (run0.slotFree = false ∧ run0.hostEnded = [] ∧ run0.cal.refused = [] ∧ (run0.clu 0).copy = none) ∧
    ((role0 [] { copy := some (3, false) }).clu 0).copy = some (3, false) := by decide +kernel

def group0 : Group := ⟨fromRing pageCMDQ, false, false, [pageTB], 0, false, [], true⟩
theorem wit_GroupsAndRing :
    (ring0.slotFree = true ∧ ring0.md ≠ mBOOT ∧ groupIllegal { w2 := 2 } = false ∧ ring0.outst < 512 ∧ groupIllegal {} = true ∧
      ring0.pageOn pageCMDQ = true ∧ maskPages { w2 := 2 } = [1]) ∧
    (State.reset.groups.find? (fun g => !g.ready) = none ∧ State.reset.canFetch = false) ∧
    (({ ring0 with groups := [group0] } : State).groups.find? (fun g => !g.ready) = some group0 ∧ group0.fails = [] ∧ group0.live ≠ [] ∧
      ({ group0 with fails := [(pageTB, 3)] } : Group).fails ≠ [] ∧ group0.part = false ∧ group0.single = false) ∧
    (ring0.canFetch = true ∧ ring0.host.linkUp = true ∧
      (let e : Entry := { w0 := 0x00070001, w1 := BitVec.ofNat 32 pageTB, args := {} }
       let u := { ring0.setFld pageCMDQ Off.cmdq_CRHEAD 0 12 1 with ring := {} }
       let q : Req := { src := .ring, page := BitVec.ofNat 12 (e.w1.toNat % 4096), tag := BitVec.ofNat 16 (e.w0.toNat / 2 ^ 16), args := e.args }
       (ring0.fld pageCMDQ Off.cmdq_CRHEAD 0 12 + 1) % ring0.crSize = 1 ∧ ring0.ring.pubs.dropWhile (fun n => n.1 == 1) = [] ∧
        e.w0.toNat / 2 ^ 9 % 2 ^ 7 = 0 ∧ e.w1.toNat / 2 ^ 12 = 0 ∧ e.w0.toNat / 2 ^ 8 % 2 = 0 ∧ e.w0.toNat % 256 = 1 ∧
        firstErr ((cmdFor (e.w1.toNat % 4096) 1).grounds 1 q u) = 0 ∧
        firstErr ((cmdFor (e.w1.toNat % 4096) 0x7F).grounds 0x7F q u) ≠ 0)) ∧
    (({ State.reset with running := [⟨7, fromPcie (pagePWM 3), false, []⟩] } : State).runs (pagePWM 3) 7 = true ∧
      State.reset.runs (pagePWM 3) 7 = false) := by decide +kernel

/-- A LOAD or a mirror copy of clusters 0 and 15 runs; the LOAD's image has `len` bytes. -/
def loads (code : Nat) (data : List Nat) : State :=
  { press0 with running := [⟨code, fromPcie pagePRESS, false, data⟩], host := { linkUp := true, cfg := { busMaster := true } } }
def image0 (dma : DmaResult) : Image := { dma := dma, bytes := List.replicate 8 0, words := [] }
theorem wit_PressEvents :
    (let s := loads 0x40 [8, 0, 15]
     s.running.find? (fun r => r.req.page.toNat == pagePRESS && r.code == 0x40) = some ⟨0x40, fromPcie pagePRESS, false, [8, 0, 15]⟩ ∧
      s.dmaReady = true ∧ s.host.linkUp = true ∧ (image0 .ok).bytes.length = 8 ∧ [0, 15].Nodup ∧ (image0 .ok).dma = .ok ∧
      (image0 .ok).words = [] ∧ (image0 .refused).dma ≠ .ok) ∧
    (State.reset.dmaReady = true ∧ State.reset.host.linkUp = false ∧ ({ press0 with host := { linkUp := true } } : State).dmaReady = false) ∧
    (press0.running.find? (fun r => r.req.page.toNat == pagePRESS && r.code == 0x40) = none ∧
      press0.running.find? (fun r => r.req.page.toNat == pagePRESS && r.code == 0x42) = none ∧ press0.press.own = []) ∧
    (loads 0x42 [0, 15]).running.find? (fun r => r.req.page.toNat == pagePRESS && r.code == 0x42) =
      some ⟨0x42, fromPcie pagePRESS, false, [0, 15]⟩ ∧
    ((0x7FFFF0 : BitVec 26).toNat % 8 = 0 ∧ (0x7FFFF0 : BitVec 26).toNat < 0x800000 ∧ (0x7FFFF0 : BitVec 26).toNat % 32 < 0x14 ∧
      0x10 ≤ (0x7FFFF0 : BitVec 26).toNat % 32 ∧ 0x14 ≤ (0x400014 : BitVec 26).toNat % 32) ∧
    (State.reset.level = lvOPEN ∧ State.reset.split 15 = false ∧ State.reset.bankOf 15 ≠ true ∧ State.reset.bankOf 0 = false ∧
      ∀ i < 4, ({ State.reset with press := { stage := (List.range 4).map (fun i => (0x7FFFE0 + 4 * i, 9)) } } : State).press.stage.find?
        (fun x => x.1 == (0x7FFFF0 : BitVec 26).toNat - 0x10 + 4 * i) = some ((0x7FFFF0 : BitVec 26).toNat - 0x10 + 4 * i, 9)) ∧
    (({ State.reset with press := { repair := [(15, true, 4095)] } } : State).press.repair = (15, true, 4095) :: [] ∧
      State.reset.press.repair = []) := by decide +kernel

def iu0 (cfg : Word) (x : IuTgt) : State :=
  let s := (withSt pageIU stACTIVE ring0).setReg pageIU (Off.iu_HTCFG 1) cfg
  let s := (s.setItgt 1 x).setIsrc 5 { cnt := 3, pend := true, asg := some 1 } |>.setReg pageIU (Off.iu_ROUTE 0) 0x200000 |>.setReg pageIU
    (Off.iu_MASK 0) 0
  { s with atClock := s.regs }
def link0 (c : PcieCfg) (m : Msix) : State := { run0 with host := { linkUp := true, cfg := c, msix := [(7, m)] } }
theorem wit_Presents : Presents 1 (iu0 3 { qtail := 1 }) ∧ Presents 1 (iu0 1 {}) := by
  refine ⟨⟨?_, ?_, ?_⟩, ⟨?_, ?_, ?_⟩⟩ <;> decide +kernel
theorem wit_MsixOut : MsixOut (link0 { msixEn := true, busMaster := true } { pend := true }) ∧ ¬ MsixOut (link0 {} {}) :=
  ⟨⟨rfl, rfl, rfl, rfl, rfl⟩, fun h => nomatch h.2.1⟩
theorem wit_InterruptEvents :
    (assignedSrc 0x00F = true ∧ assignedSrc 0x050 = false ∧ State.reset.dst 84 = 0 ∧ (State.reset.isrc 5).cnt < 255 ∧
      (({ run0 with dom := [(84, { st := 1 })] } : State)).dst 84 ≠ 0 ∧ ((run0.setIsrc 5 { cnt := 255 }).isrc 5).cnt = 255) ∧
    ((iu0 3 { qtail := 1 }).isCompact 1 = true ∧ ((iu0 3 { qtail := 1 }).itgt 1).notif = false ∧
      ((iu0 3 { qtail := 1 }).itgt 1).qtail ≠ (iu0 3 {}).qhead 1 ∧ ((iu0 3 {}).itgt 1).qtail = (iu0 3 {}).qhead 1) ∧
    ((iu0 1 {}).isCompact 1 = false ∧ ((iu0 1 {}).itgt 1).active = none ∧ (iu0 1 {}).topFor 1 true = some 5 ∧
      ((iu0 1 { active := some 9 }).itgt 1).active.isSome = true) ∧
    (run0.tcfg 1 0 = false ∧ run0.isCompact 1 = false) ∧
    ((iu0 3 {}).active pageIU = true ∧ (iu0 3 {}).tcfg 1 0 = true ∧ (iu0 3 {}).qfull 1 = false ∧ ((iu0 3 {}).itgt 1).waitHead = false ∧
      (iu0 3 {}).host.linkUp = true ∧ (iu0 3 {}).dmaReady = true ∧ (iu0 3 {}).topFor 1 true = some 5) ∧
    ((iu0 0x1000 {}).tcfg 1 12 = true ∧ (iu0 0x1000 {}).tcfg 1 2 = false ∧ run0.tcfg 1 12 = false) ∧
    (((iu0 1 { hold := some 9 }).itgt 1).hold = some 9 ∧ ((iu0 1 {}).itgt 1).hold = none ∧ run0.iu.group.get 0 63 < (run0.era + 1) * 2 ^ 64) ∧
    (let s := iu0 1 {}
     s.cntBase 5 + s.iu.clk.bells.get 0 5 - s.iu.clk.decs.get 0 5 < 255 ∧ s.pendBit 5 false = false ∧
      255 ≤ (run0.setIsrc 5 { cnt := 255 }).cntBase 5 + 0 - 0) ∧
    (let s : State := { State.reset.setFld pageIU Off.iu_WAKECFG 30 2 1 with iu := { armed := true } }
     s.iu.armed = true ∧ s.flag pageIU Off.iu_WAKECFG (2 * (15 : Fin 16).val + (if true then 0 else 1)) = true ∧
      s.flag pageIU Off.iu_WAKECFG (2 * (15 : Fin 16).val + (if false then 0 else 1)) = false ∧ s.flag pagePWR Off.pwr_WAKESRC 0 = true) ∧
    (State.reset.iu.armed = false ∧ ((link0 { msixEn := true, busMaster := true } { pend := true }).host.msix.get {} (7 : Fin 8).val).pend = true ∧
      (State.reset.host.msix.get {} (7 : Fin 8).val).pend = false) := by decide +kernel

def wrec (cls : Nat) : WRec := { cls := cls, origin := 0x800, kind := 5, rep := 0, tb := 9, wheel := 0, ang := none, coal := false, body := [1, 2] }
def whey0 : State := withSt pageWHEY stACTIVE run0
theorem wit_Fit :
    Fit .alarm (recLen (wrec 0)) { whey0 with whey := { alarms := [wrec 0] } } ∧
    Fit .general (recLen (wrec 1)) { whey0 with whey := { queued := [(pageTB, wrec 1)] } } ∧
    Fit .general (recLen (wrec 2)) { whey0 with whey := { queued := [(pageTB, wrec 2)] } } := by
  refine ⟨⟨?_, ?_, ?_, ?_, ?_, ?_⟩, ⟨?_, ?_, ?_, ?_, ?_, ?_⟩, ⟨?_, ?_, ?_, ?_, ?_, ?_⟩⟩ <;> decide +kernel
theorem wit_WheyTakesRecords :
    ({ whey0 with whey := { alarms := [wrec 0] } } : State).whey.alarms = [wrec 0] ∧
    (lowestQueued ({ whey0 with whey := { queued := [(pageTB, wrec 1)] } } : State).whey.queued = some (pageTB, wrec 1) ∧ (wrec 1).cls = 1) ∧
    (let s : State := { whey0 with whey := { queued := [(pageTB, wrec 2)] } }
     lowestQueued s.whey.queued = some (pageTB, wrec 2) ∧ (wrec 2).cls = 2 ∧ s.whey.decim = 0 ∧
      s.ringFill .general + recLen (wrec 2) + s.fld pageWHEY Off.whey_TRCFG 16 8 * 4096 ≤ ringSize .general) ∧
    (let g : WRing := { recs := [⟨0, ringSize .general - 8, 1, false, 0⟩] }
     let s : State := { whey0.setReg pageWHEY Off.whey_CFG 1 with whey := { general := g } }
     s.ringRoom .general (recLen (wrec 1)) = false ∧ s.active pageWHEY = true ∧ s.whey.owed = none ∧ s.whey.coal = [] ∧
      ({ s with whey := { s.whey with sums := (List.range 63).map (fun i => (i, {})) } } : State).whey.sums.has 62 = true) ∧
    (({ State.reset with pages := [(pageWHEY, { st := stFAULT })] } : State).active pageWHEY = false ∧ State.reset.md ≠ mBOOT ∧
      State.reset.whey.owed = none ∧ State.reset.whey.coal = [] ∧ State.reset.whey.alarms = [] ∧ State.reset.whey.queued = []) := by
  decide +kernel

def eth0 (x : EthSt) : State := (((withSt (pageETH 0) stACTIVE whey0).setReg (pageETH 0) Off.eth_MACCFG 0x2B).setReg (pageETH 0)
  Off.eth_FRMCFG 512).setEth 0 { x with link := true }
def oneRec (cls : Nat) : WRing := { recs := [⟨0, 64, cls, false, 0⟩], wp := 64 }
theorem wit_EthernetEvents :
    (∀ w ∈ [({ alarm := oneRec 0 } : WheySt), { loss := oneRec 3 }, { general := oneRec 1 }],
      let s : State := { eth0 {} with whey := w }
      s.ethConsumes 0 = true ∧ s.flag (pageETH 0) Off.eth_MACCFG 0 = true ∧ (s.eth 0).pause ≤ s.now) ∧
    (let s : State := { eth0 {} with whey := { alarm := oneRec 0 } }
     (s.ethRun 0 .alarm).1 ≠ []) ∧
    (let s : State := { eth0 {} with whey := { loss := oneRec 3 } }
     (s.ethRun 0 .loss).1 ≠ [] ∧ (s.ethRun 0 .alarm).1 = []) ∧
    (let s : State := { eth0 {} with whey := { general := oneRec 1 } }
     (s.ethRun 0 .general).1 ≠ [] ∧ (s.ethRun 0 .alarm).1 = [] ∧ (s.ethRun 0 .loss).1 = [] ∧ s.flushDue 0 = some 0 ∧ 0 ≤ s.now) ∧
    ((eth0 {}).flag (pageETH 0) Off.eth_MACCFG 1 = true ∧ (eth0 {}).now < ((eth0 { pause := 9 }).eth 0).pause ∧
      run0.flag (pageETH 0) Off.eth_MACCFG 1 = false ∧ (eth0 {}).flushDue 0 = none ∧ run0.ethConsumes 0 = false) ∧
    ((eth0 {}).active (pageETH 0) = true ∧ (eth0 {}).flag (pageETH 0) Off.eth_MACCFG 3 = true ∧ run0.active (pageETH 0) = false) ∧
    (((eth0 { ask := some (7, 100, 300, 40) }).eth 0).ask = some (7, 100, 300, 40) ∧ ((eth0 {}).eth 0).ask = none ∧ ((eth0 {}).eth 0).asked = none ∧
      ((eth0 { asked := some (200, 30) }).eth 0).asked = some (200, 30) ∧ (200 : Nat) < 300 ∧ (7 : BitVec 16).toNat = 7 ∧ (7 : Nat) ≠ (8 : BitVec 16).toNat) ∧
    (((eth0 { sent := some (7, 100) }).eth 0).sent = some ((7 : BitVec 16).toNat, 100) ∧ ((eth0 {}).eth 0).sent ≠ some (7, 100)) ∧
    (((eth0 { sync := some (5, 7) }).eth 0).sync = some (5, 7) ∧ 5 + 3 * 7 < ((eth0 {}).era + 1) * 2 ^ 64 ∧ ((eth0 {}).eth 0).sync = none ∧
      (eth0 {}).pageOn (pageETH 0) = true ∧
      ({ run0 with dom := [(leadDomain (pageDomain (pageETH 0)), { st := 1 })] } : State).pageOn (pageETH 0) = false) := by
  decide +kernel

theorem wit_PcieEvents :
    (dorm0.md = mDORMANT ∧ ring0.md ≠ mDORMANT ∧ ring0.host.linkUp = true ∧ State.reset.host.linkUp = false ∧ ring0.ring.owed = []) ∧
    (((link0 { msixEn := true } { pend := true, masked := false }).host.msix.get {} 7).pend = true ∧
      ((link0 { msixEn := true } { pend := true, masked := false }).host.msix.get {} 7).masked = false) ∧
    DmaResult.timeout ≠ .ok ∧ ring0.flag pageHOSTIF Off.hostif_DMAERR 31 = false ∧ ring0.canFetch = true ∧ run0.canFetch = false ∧
    (loads 0x40 [8, 0]).runs pagePRESS 0x40 = true ∧ (loads 0x40 [8, 0]).dmaReady = true ∧ run0.runs pagePRESS 0x40 = false ∧
    (let r : Running := ⟨0x45, fromPcie pageRIND, false, []⟩
     ({ State.reset with running := [r] } : State).running.find? rindReads = some r ∧ State.reset.rind.level = none) ∧
    (live0.dmaReady = false ∧ live0.host.linkUp = true ∧ MsixOut (link0 { msixEn := true, busMaster := true } { pend := true, masked := false })) := by
  refine ⟨?_, ?_, ?_, ?_, ?_, ?_, ?_, ?_, ?_, ?_, ?_, ?_, ⟨rfl, rfl, rfl, rfl, rfl⟩⟩ <;> decide +kernel

/-- Port `p` of device 0 (p = 1) or of device 1 (p = 0) of a chain of two, its partner in a state. -/
def idx0 (p st lcfg : Nat) (x : IdxPort) : State :=
  ((((withSt (pageIDX p) stACTIVE clu0).setReg (pageIDX 0) Off.idx_CHAIN (if p = 1 then 4 else 5)).setReg (pageIDX p) Off.idx_LCFG
    (BitVec.ofNat 32 lcfg)).setFld (pageIDX p) Off.idx_PSTAT 0 3 st).setIdx p x
theorem wit_IdxiaPartners :
    (idx0 1 pABSENT 1 {}).portOn 1 = true ∧ (idx0 1 pABSENT 1 {}).pst 1 = pABSENT ∧ (idx0 1 pTRAINING 1 {}).pst 1 = pTRAINING ∧
    (idx0 0 pAUTHENTICATING 1 {}).pst 0 = pAUTHENTICATING ∧ (idx0 0 pUP 1 {}).pst 0 = pUP ∧ ((idx0 0 pUP 1 {}).idx 0).crcs < 16 ∧
    ((idx0 1 pDEGRADED 1 {}).pst 1 = pDEGRADED ∧ (idx0 1 pUP 1 {}).pst 1 ≠ pDEGRADED) ∧ 16 ≤ ((idx0 1 pUP 1 { crcs := 16 }).idx 1).crcs ∧
    (idx0 1 pQUARANTINED 1 {}).pst 1 = pQUARANTINED ∧ ((idx0 1 pUP 0 {}).portOn 1 = false ∧ (idx0 1 pTRAINING 0 {}).portUp 1 = false) := by
  decide +kernel

/-- A frame of device 1 for device 0, and of device 0 for device 1. -/
def h10 : FrameHdr := { src := 1, dst := 0, fseq := 0 }
def h01 : FrameHdr := { src := 0, dst := 1, fseq := 0 }
theorem arrives {h : FrameHdr} {l : Payload} {p st lcfg : Nat} {x : IdxPort}
    (h1 : (idx0 p st lcfg x).portOn p = true) (h2 : (idx0 p st lcfg x).pst p ≠ pABSENT ∧ (idx0 p st lcfg x).pst p ≠ pQUARANTINED)
    (h3 : ((idx0 p st lcfg x).idx p).nak = false ∧ ((idx0 p st lcfg x).idx p).owed < 16)
    (h4 : (idx0 p st lcfg x).fitsLine p h = true ∧ h.fseq = BitVec.ofNat 16 ((idx0 p st lcfg x).idx p).rxCnt)
    (h5 : h.tag = 0 ∧ ((idx0 p st lcfg x).noauth p = true ∨ (∃ f, l = .hello f) ∨ ∃ v, l = .auth v)) : Arrives p h l (idx0 p st lcfg x) := by
  refine ⟨h1, h2, h3.1, fun _ => ⟨h4.1, .inl h4.2⟩, h3.2, ?_⟩
  rw [h5.1]
  rcases h5.2 with h | ⟨f, rfl⟩ | ⟨v, rfl⟩
  · cases l <;> simp [State.frameTag, h]
  · rfl
  · rfl

def hello0 (key : BitVec 64) (noauth : Bool) : HelloF := { dev := 1, last := 1, port := false, key := key, noauth := noauth }
def kid0 : BitVec 64 := BitVec.ofNat 64 (leVal (teamKid 0))
theorem kid0_toNat : kid0.toNat = leVal (teamKid 0) := by
  have h : leVal (teamKid 0) < 2 ^ 64 := leVal_lt (by simp [teamKid, macBytes, beBytes, leBytes])
  simp only [kid0, BitVec.toNat_ofNat]; omega
theorem succ_ne (v : BitVec 64) : v + 1 ≠ v := by
  intro h; have := congrArg BitVec.toNat h; rw [BitVec.toNat_add] at this; simp at this; omega
theorem wit_hello :
    (Arrives 1 h10 (.hello (hello0 0 true)) (idx0 1 pTRAINING 3 {}) ∧ (idx0 1 pTRAINING 3 {}).helloFits 1 (hello0 0 true) = true ∧
      (hello0 0 true).noauth = (idx0 1 pTRAINING 3 {}).noauth 1) ∧
    (Arrives 1 h10 (.hello (hello0 kid0 false)) (idx0 1 pTRAINING 1 {}) ∧ (idx0 1 pTRAINING 1 {}).helloFits 1 (hello0 kid0 false) = true ∧
      (hello0 kid0 false).noauth = (idx0 1 pTRAINING 1 {}).noauth 1 ∧
      (hello0 kid0 false).key.toNat = leVal (teamKid (idx0 1 pTRAINING 1 {}).rind.teamKey)) ∧
    (hello0 (kid0 + 1) false).key.toNat ≠ leVal (teamKid (idx0 1 pTRAINING 1 {}).rind.teamKey) := by
  have hk : (idx0 1 pTRAINING 1 {}).rind.teamKey = 0 := by decide +kernel
  refine ⟨⟨arrives ?_ ?_ ?_ ?_ ⟨rfl, .inl ?_⟩, ?_, ?_⟩, ⟨arrives ?_ ?_ ?_ ?_ ⟨rfl, .inr (.inl ⟨_, rfl⟩)⟩, ?_, ?_, hk ▸ kid0_toNat⟩, ?_⟩
  case refine_14 => rw [hk, ← kid0_toNat]; exact fun h => succ_ne kid0 (BitVec.eq_of_toNat_eq h)
  all_goals decide +kernel
theorem wit_IdxiaFrames :
    (∀ w : Option (BitVec 64), ∀ v : BitVec 64, Arrives 1 h10 (.auth v) (idx0 1 pAUTHENTICATING 1 { peer := w }) ∧
      (idx0 1 pAUTHENTICATING 1 { peer := w }).pst 1 = pAUTHENTICATING ∧ ((idx0 1 pAUTHENTICATING 1 { peer := w }).idx 1).peer = w) ∧
    (Arrives 1 h10 (.credit { returned := 2, ack := 1, nak := false }) (idx0 1 pUP 3 { cred := 5, unacked := [⟨0, h01, .auth 0, 0⟩] }) ∧
      ((idx0 1 pUP 3 {}).idx 1).waiting = []) ∧
    (let s := idx0 1 pUP 0x103 {}
     Arrives 1 h10 (.msg 0x000 0x1100 [1, 2]) s ∧ s.portUp 1 = true ∧ (s.idx 1).msgs + 1 ≤ s.fld (pageIDX 1) Off.idx_LCFG 8 8 ∧
      (0 : BitVec 2).toNat = s.devnum ∧ (idx0 1 pUP 3 {}).fld (pageIDX 1) Off.idx_LCFG 8 8 < ((idx0 1 pUP 3 {}).idx 1).msgs + 1) ∧
    (let s := (idx0 1 pUP 0x103 {}).setClu 0 { holds := true }
     s.holder 0 = some 0 ∧ fieldOf 0x000 0 8 = s.epoch 0 ∧ BitVec.ofNat 32 (((s.sharedAt 0 (s.bncBase 0)).toNat % 16 + 1) % 16) ≠
      s.sharedAt 0 (s.bncBase 0 + 4)) ∧
    (Arrives 1 h10 (.bounce [1, 2, 3, 4] 0) (idx0 1 pUP 0x103 {}) ∧
      (let s := (idx0 1 pUP 0x103 {}).setClu 0 { holds := true, shared := Memory.setWords [] 65028 [1] }
       BitVec.ofNat 32 (((s.sharedAt 0 (s.bncBase 0)).toNat % 16 + 1) % 16) = s.sharedAt 0 (s.bncBase 0 + 4))) := by
  refine ⟨fun w v => ⟨arrives ?_ ?_ ?_ ?_ ⟨rfl, .inr (.inr ⟨v, rfl⟩)⟩, ?_, rfl⟩, ⟨arrives ?_ ?_ ?_ ?_ ⟨rfl, .inl ?_⟩, ?_⟩,
    ⟨arrives ?_ ?_ ?_ ?_ ⟨rfl, .inl ?_⟩, ?_, ?_, ?_, ?_⟩, ?_, ⟨arrives ?_ ?_ ?_ ?_ ⟨rfl, .inl ?_⟩, ?_⟩⟩
  case refine_1 => exact (by decide +kernel : (idx0 1 pAUTHENTICATING 1 {}).portOn 1 = true)
  case refine_2 => exact (by decide +kernel : (idx0 1 pAUTHENTICATING 1 {}).pst 1 ≠ pABSENT ∧ (idx0 1 pAUTHENTICATING 1 {}).pst 1 ≠ pQUARANTINED)
  case refine_3 => exact ⟨rfl, (by decide : (0 : Nat) < 16)⟩
  case refine_4 => exact ⟨(by decide +kernel : (idx0 1 pAUTHENTICATING 1 {}).fitsLine 1 h10 = true), rfl⟩
  case refine_5 => exact (by decide +kernel : (idx0 1 pAUTHENTICATING 1 {}).pst 1 = pAUTHENTICATING)
  all_goals decide +kernel

/-- Device 1 imports unit 3 of device 0 as its unit 5. -/
def imp0 (x : Wheel) : State :=
  let s := (idx0 0 pUP 3 {}).setReg (pageIDX 0) (Off.idx_IMP 5) 0x31
  ((withSt (pageWU 5) stACTIVE s).setFld (pageIDX 0) Off.idx_PSTAT 12 1 1).setWheel 5 x
theorem wit_IdxiaTimeAndMaps :
    (Arrives 1 h10 (.time { reply := false, t1 := 5 }) (idx0 1 pUP 3 { cred := 16 }) ∧ (idx0 1 pUP 3 {}).portUp 1 = true ∧ Sends 1 (idx0 1 pUP 3 { cred := 16 })) ∧
    (Arrives 0 h01 (.time { reply := true, t1 := 5 }) (idx0 0 pUP 3 { t1 := some 5 }) ∧ (idx0 0 pUP 3 {}).devnum ≠ 0 ∧
      (idx0 0 pUP 3 { t1 := some 5 }).idx0.t1 = some (5 : BitVec 64).toNat ∧ Sends 0 (idx0 0 pUP 3 { cred := 16 }) ∧ (idx0 0 pUP 3 {}).portUp 0 = true) ∧
    ((idx0 0 pUP 3 { hold := 7 }).idx0.hold ≠ 0 ∧ (idx0 0 pUP 3 {}).md ≠ mCONFIGURE ∧
      (idx0 0 pUP 3 { rate := 2 }).idx0.rate ≠ 0 ∧ (idx0 0 pUP 3 {}).idx0.hold = 0 ∧ (idx0 0 pUP 3 {}).tbStopped = false ∧
      (idx0 0 pUP 3 {}).idx0.rate = 0 ∧ (idx0 0 pUP 3 {}).pageOn (pageIDX 0) = true ∧ (idx0 1 pUP 3 {}).devnum = 0 ∧
      ({ idx0 0 pUP 3 { rate := -2 } with dom := [(82, { st := 1 })] } : State).pageOn (pageIDX 0) = false) ∧
    (5 ∈ (imp0 {}).importers (0 : BitVec 2).toNat (3 : BitVec 3).toNat ∧ (imp0 {}).aligned = true ∧ (imp0 {}).portUp 0 = true ∧
      (imp0 {}).imports 5 = true ∧ (imp0 {}).active (pageWU 5) = true ∧ ((imp0 {}).wheel 5).impMap = none ∧
      ((imp0 { state := wFULL }).wheel 5).state ≠ wSEARCH ∧
      (let m : AMap := { t := [(imp0 {}).tick.next, 9000], th := [0, 5], slope := [1] }
       ((imp0 { impMap := some m }).wheel 5).impMap = some m ∧ m.tStart = (imp0 {}).tick.next)) ∧
    Arrives 0 h01 (.state { unit := 3, new := 3, tb := 9 }) (idx0 0 pUP 3 {}) := by
  refine ⟨⟨arrives ?_ ?_ ?_ ?_ ⟨rfl, .inl ?_⟩, ?_, ⟨?_, ?_⟩⟩, ⟨arrives ?_ ?_ ?_ ?_ ⟨rfl, .inl ?_⟩, ?_, ?_, ⟨?_, ?_⟩, ?_⟩, ?_, ?_,
    arrives ?_ ?_ ?_ ?_ ⟨rfl, .inl ?_⟩⟩ <;> decide +kernel

theorem wit_idxia_clocks :
    (let s := idx0 0 pUP 3 { rate := 2 }
     Comes (max s.now (s.idx0.slewed + max 1024 (12800 / s.idx0.rate.natAbs)) + 1) s) ∧
    Comes ((imp0 {}).tick.bnd + 2 * (imp0 {}).tick.len) (imp0 {}) := ⟨comes (by decide +kernel), comes (by decide +kernel)⟩

/-! ### Power, resets, Rind -/

def brown0 (fault : Bool) (aon : List (Nat × Word)) : State :=
  { State.reset with mode := { brown := true, aonFault := fault, aon := aon } }
/-- BOOT, with `n` spare rows used in each group of the memory of domain 85. -/
def boot0 (n : Nat) : State := { inMode mBOOT State.reset with press := { spares := [(rowOf 85 600 / 512, n)] } }
theorem wit_ResetsAndBootEnd :
    (State.reset.mode.brown = false ∧ State.reset.mode.aonFault = false ∧ (brown0 false []).mode.brown = true ∧
      (brown0 true []).mode.aonFault = true ∧ (brown0 false []).mode.aonFault = false) ∧
    (brown0 false [(adr pagePWR Off.pwr_WAKETMR, 1), (adr pagePWR Off.pwr_WAKESRC, 2), (adr pageTB Off.tb_SLOWCFG, 3),
      (adr pageTB Off.tb_SLOWRATIO, 4)]).mode.aon.length = 4 ∧
    (∀ n ∈ [0, 3, 4], (boot0 n).md = mBOOT ∧ (boot0 n).mode.cfgDue = false ∧ (boot0 n).mode.brown = false ∧ (boot0 n).level ≠ lvSEALED ∧
      (boot0 n).rind.undo = none ∧ rowOf 85 600 ∉ (boot0 n).press.due ∧ (boot0 n).press.spares.get 0 (rowOf 85 600 / 512) = n) ∧
    ((boot0 0).setReg pageTB Off.tb_TICKCFG 2000).rind.undo = none ∧
    State.reset.md ≠ mBOOT ∧ (pageRIND ∈ basePages ∧ fatalPage (BitVec.ofNat 12 pageRIND).toNat = true ∧
      fatalPage (BitVec.ofNat 12 (pagePWM 3)).toNat = false) := by
  decide +kernel
theorem wit_boot_clock : Comes ((boot0 0).modeClock + 11200000) (boot0 0) := comes (by decide +kernel)
theorem wit_boot_undo : (let s : State := { boot0 0 with rind := { undo := some { regs := [(limitedRegs.headD 0, 5)], old := none, entry := 0 } } }
    ∀ u, s.rind.undo = some u → u.old = none ∧ ∀ v ∈ u.regs, v.1 ∈ limitedRegs) := by
  intro s u hu; cases hu; exact ⟨rfl, by decide +kernel⟩
theorem wit_SupplyClockAndWake :
    (run0.md ≠ mDORMANT ∧ run0.md ≠ mSAFE ∧ run0.mode.brown = false ∧ run0.mode.exc = 0 ∧ run0.mode.clockLost = false ∧ dorm0.md = mDORMANT ∧
      ({ run0 with mode := { brown := true } } : State).mode.brown = true) ∧
    (({ run0 with mode := { exc := 1, excTb := 5 } } : State).mode.exc = 1 ∧ Comes 320000005 ({ run0 with mode := { exc := 2, excTb := 5 } } : State) ∧
      ({ run0 with mode := { clockLost := true } } : State).tick.per ≠ 0 ∧ ({ run0 with mode := { exc := 2 } } : State).mode.exc = 2) ∧
    (let s := run0.setReg pageSYS Off.sys_HOSTWD 3
     s.serving = true ∧ s.fld pageSYS Off.sys_HOSTWD 0 16 ≠ 0 ∧ s.mode.wd < s.fld pageSYS Off.sys_HOSTWD 0 16 ∧
      s.fld pageSYS Off.sys_HOSTWD 0 16 ≤ ({ s with mode := { wd := 3 } } : State).mode.wd ∧ State.reset.serving = false) ∧
    (let s := (dorm0.setReg pagePWR Off.pwr_WAKESRC 6).setReg pagePWR Off.pwr_WAKETMR 9
     s.flag pagePWR Off.pwr_WAKESRC 1 = true ∧ s.flag pagePWR Off.pwr_WAKESRC 2 = true ∧ s.tbStopped = true ∧
      s.reg pagePWR Off.pwr_WAKETMR ≠ 0 ∧ dorm0.flag pagePWR Off.pwr_WAKESRC 1 = false) := by
  refine ⟨?_, ⟨?_, comes ?_, ?_⟩, ?_, ?_⟩ <;> decide +kernel
theorem wit_DomainEvents :
    (let r : Running := ⟨0x40, fromPcie pagePWR, false, [86, 1]⟩
     ({ run0 with running := [r] } : State).domRun (86 : Fin 92).val = some r ∧ r.code = 0x40 ∧ r.data.getD 1 0 = 1 ∧ run0.domRun 86 = none) ∧
    (let s : State := { run0 with dom := [(leadDomain 7, { st := 4 })] }
     (s.dom.get {} (leadDomain 7)).st = 4 ∧ (s.dom.get {} (leadDomain 7)).worked = false ∧ s.rowsDue (leadDomain 7) = [] ∧
      Comes ((s.dom.get {} (leadDomain 7)).since + rejoinTime (leadDomain 7)) s) ∧
    (let r := rowOf (leadDomain 7) 600
     let s (n : Nat) : State := { run0 with dom := [(leadDomain 7, { st := 4 })], press := { due := [r], spares := [(r / 512, n)] } }
     (s 3).rowsDue (leadDomain 7) = [r] ∧ (s 3).press.spares.get 0 (r / 512) < 4 ∧ 4 ≤ (s 4).press.spares.get 0 (r / 512) ∧
      ((s 4).dom.get {} (leadDomain 7)).st = 4) ∧
    (run0.md ≠ mBOOT ∧ run0.md ≠ mDORMANT ∧ State.reset.takesOver = false ∧ State.reset.dst (leadDomain 3) = 0 ∧ run0.dst 89 = 0 ∧ run0.dst 90 = 0 ∧ run0.md ≠ mSAFE ∧
      ({ run0 with dom := [(leadDomain 3, { st := 1 })] } : State).dst (leadDomain 3) ≠ 0 ∧ run0.mode.brown = false) ∧
    (let s := clu0.setReg (pageCL 0) Off.cl_PAIRCFG 1
     s.active (pageCL 0) = true ∧ s.pairState 0 0 = 1 ∧ Comes (s.tick.bnd + 2 * (s.tick.len - 32)) s) ∧
    (let r : Running := ⟨0x43, fromPcie pagePWR, false, [3, 2]⟩
     let s : State := { run0 with running := [r], dom := [(3, { st := 4 })] }
     s.domRun 3 = some r ∧ s.dst 3 ≠ 0 ∧ s.dst 3 ≠ 1 ∧ s.dst 3 ≠ 2) ∧
    (let s : State := { State.reset with tb := 3999 }
     s.tick.bnd + 2 * (s.tick.len - 32) ≤ s.now) ∧ ((∀ c, (State.reset.clu c).testFail = false) ∧ ∀ c < 16, State.reset.active (pageCL c) = false) := by
  refine ⟨?_, ⟨?_, ?_, ?_, comes ?_⟩, ?_, ?_, ⟨?_, ?_, comes ?_⟩, ?_, ?_, fun c => rfl, ?_⟩ <;> decide +kernel

/-- A level command of the host runs. -/
def rind0 (code lv : Nat) : State :=
  let s := (atLevel lv).setNonce .host 5
  { s with running := [⟨code, fromPcie pageRIND, false, []⟩] }
/-- A token for this chip, with some signature. -/
def token (change : Bool) : List Byte :=
  [if change then 2 else 1, if change then 3 else 1, 0, 0] ++ leBytes 4 (if change then 0 else 6) ++ leBytes 8 Config.devUid.toNat ++ leBytes 8 5 ++
    List.replicate 104 0
theorem leVal_leBytes (x : BitVec 64) : leVal (leBytes 8 x.toNat) = x.toNat := by
  simp only [leVal, leBytes, List.range, List.range.loop, List.map, List.foldr, BitVec.toNat_ofNat]; omega
theorem token_ok (change : Bool) (s : State) (h1 : s.rind.log.length = 0) (h2 : s.budget 1 = 3) (h3 : s.nonceOf .host = 5)
    (hv : s.scrSigned (token change) = true) : tokenOk (token change) change s = true := by
  have h4 : sliceOf (token change) 8 8 = leBytes 8 Config.devUid.toNat := by cases change <;> rfl
  have h5 : leVal (sliceOf (token change) 8 8) = Config.devUid.toNat := by rw [h4]; exact leVal_leBytes _
  have h6 : sliceOf (token change) 2 2 = [0, 0] ∧ sliceOf (token change) 16 8 = leBytes 8 5 ∧
    sliceOf (token change) 24 32 = List.replicate 32 0 ∧ sliceOf (token change) 56 8 = List.replicate 8 0 ∧
    sliceOf (token change) 4 4 = leBytes 4 (if change then 0 else 6) := by cases change <;> exact ⟨rfl, rfl, rfl, rfl, rfl⟩
  obtain ⟨h6, h7, h8, h9, h10⟩ := h6
  have h11 : (token change).length = 128 := by cases change <;> rfl
  simp only [tokenOk, h5, h6, h7, h8, h9, h10, h11, h1, h2, h3, hv, beq_self_eq_true]
  cases change <;> decide +kernel
theorem wit_RindEvents :
    (∀ k, Comes ((rind0 0x45 lvTEAM).lockEnd k) (rind0 0x45 lvTEAM)) ∧
    ((rind0 0x45 lvTEAM).host.linkUp = true ∧ ({ live0 with host := { linkUp := true } } : State).dmaReady = false ∧ State.reset.host.linkUp = false) ∧
    ((rind0 0x45 lvTEAM).running = [⟨0x45, fromPcie pageRIND, false, []⟩] ∧ (fromPcie pageRIND).page.toNat = pageRIND ∧
      (rind0 0x45 lvTEAM).rind.level = none ∧ ((sealChecks [] (readPkg []) (rind0 0x45 lvTEAM)).find? (·.2)).isSome = true) ∧
    ((rind0 0x46 lvSEALED).scrSigned (token false) = true → tokenOk (token false) false (rind0 0x46 lvSEALED) = true) ∧
    tokenOk [] false (rind0 0x46 lvSEALED) = false ∧
    ((rind0 0x47 lvSEALED).scrSigned (token true) = true → tokenOk (token true) true (rind0 0x47 lvSEALED) = true) ∧
    (let s : State := { rind0 0x48 lvOPEN with host := { linkUp := true, cfg := { busMaster := true } } }
     s.host.linkUp = true ∧ s.host.cfg.busMaster = true ∧ s.host.cfg.d3 = false ∧ s.rind.level = none) := by
  refine ⟨fun k => ?_, ?_, ?_, token_ok _ _ ?_ ?_ ?_, ?_, token_ok _ _ ?_ ?_ ?_, ?_⟩
  · cases k <;> exact comes (by decide +kernel)
  all_goals decide +kernel

theorem wit_IdleStep : State.reset.pending = [] ∧ State.reset.tbStopped = false ∧ State.reset.idx0.hold = 0 ∧ State.reset.mode.clockLost = false ∧
    State.reset.idx0.skip = false ∧ dorm0.tbStopped = true := by decide +kernel
theorem wit_StepKeepsMemory :
    (let s : State := { run0 with hostMem := [(7, 1)], smem := [(9, 2)], engs := [(127, { mem := [(4095, 3)], stack := [1, 2, 3, 4] })],
                                  clus := [(15, { shared := [(65535, 4)], msgq := List.replicate 32 msg0 })] }
     s.memOk = true ∧ s.queuesOk = true) := by decide +kernel

/-! ### Ill-formed commands, each refused by one check of WellFormed -/

def onPage (p : Nat) (src : Src := .ring) (a : Args := {}) : Req := { src := src, page := BitVec.ofNat 12 p, tag := 0, args := a }
theorem test_wf_requests :
    [Instr.nop (onPage 0xFFF), .enable (onPage pageSYS .device), .commit (onPage pageSYS (.port .pcie) { w2 := 1 }),
      .arm (onPage pageTB), .domOff (onPage pagePWR .device), .adcSubstitute (onPage (pageADC 0)), .adcRelease (onPage (pageADC 3)),
      .tgtReset (onPage pageSYS), .newNonce (onPage pagePWR), .selftestDone 0xFFF true,
      .selftestDone (BitVec.ofNat 12 pageANG1) true].map Instr.wf = List.replicate 11 false ∧
    [Instr.nop (onPage pageSYS .device), .enable (onPage pageSYS), .arm (onPage pageSYS .device), .domReset (onPage pagePWR .device),
      .adcSubstitute (onPage (pageADC 4) .device), .newNonce (onPage pageDBG)].map Instr.wf = List.replicate 6 true := by decide +kernel
theorem test_wf_widths_and_addresses :
    [Instr.postedWriteAccept 0 0 3, .registerWrite { port := .pcie, addr := 0, data := 0, len := 0 }, .rcRead .spi 2 true, .spiRead 0 5, .spiWrite 0 6 0,
      .dbgaccRead false 0x1000000, .dbgaccRead true 0x4000000, .dbgaccRead true 2, .dbgaccWrite false 1 0, .non32BitRead .pcie 0 4,
      .non32BitRead .pcie 0 0, .non32BitRead .pcie 0 9, .bar2Read 0 0, .bar2Read 0x3FFFFFF 2, .bar2Write 0 [],
      .bar2Write 0x3FFFFFF [1, 2], .controlStoreWindowWrite 0x3FFFFF [1], .controlStoreWindowWrite 0x800000 [1],
      .controlStoreWindowWrite 0x400000 [], .doorbell 0, .dmaReadCompletion 0xFFF .ok].map Instr.wf = List.replicate 21 false ∧
    [Instr.dbgaccRead true 0x3FFFFFC, .non32BitRead .pcie 2 4, .bar2Read 0x3FFFFFE 2, .doorbell 0xFFF].map Instr.wf =
      List.replicate 4 true := by decide +kernel
theorem test_wf_operands :
    [Instr.done 0 {} {} .none, .yield 0 {} {} .none, .waitev 0 {} {} .none, .shiftRxFrame 0 (.intervals []), .shiftRxFrame 0 (.line []),
      .loadComplete ⟨.timeout, [1], []⟩, .loadComplete ⟨.refused, [], [(0, 0)]⟩, .calibrateComplete 0 ⟨[], List.replicate 4 0, List.replicate 10 0, true⟩,
      .calibrateComplete 0 ⟨List.replicate 4 0, [], List.replicate 10 0, true⟩, .calibrateComplete 0 ⟨List.replicate 4 0, List.replicate 4 0, [], true⟩,
      .time 0 h10 { reply := false, t1 := 0, t2 := 1 } 0, .map 0 h10 ⟨0, 0, true, 0, 0, [], true, true⟩, .msg 0 h10 0 0 [1],
      .bounceFrame 0 h10 [1, 2, 3] 0, .extest []].map Instr.wf = List.replicate 15 false ∧
    (Instr.done 0 {} { n := { last := true } } .none).wf = true := by decide +kernel
theorem test_wf_boot :
    (Instr.bootDone ⟨true, true, [], [⟨[], [], [], true⟩], false, []⟩).wf = false ∧
    (Instr.bootDone ⟨true, true, [], List.replicate 5 ⟨[], [], [], true⟩, false, []⟩).wf = false ∧ (Instr.bootDone ⟨true, true, [], [], false, []⟩).wf = true := by
  decide +kernel

/-! ### Values that the spec writes out -/

/-- R148: 7 - 9 leaves no carry, and INT_MIN - 1 overflows. -/
def subWord (f : AFields) (g : Store Word) : WordSt := { m := mword 0x04 f 0 {} 1 { target := 5 }, g := g, fl := {} }
theorem test_flags :
    (let f : AFields := { ad := 1, as1 := 2, as2 := 3, aflg := true }
     match execSub 0 f (inWord (subWord f [(2, 7), (3, 9)])) with
      | .next t => (t.eng 0).fl == { n := true } && (t.eng 0).g.get 0 1 == 0xFFFFFFFE
      | _ => false) = true ∧
    (let f : AFields := { ad := 1, as1 := 2, aimm := true, imm := 1, aflg := true }
     match execSub 0 f (inWord (subWord f [(2, 0x80000000)])) with
      | .next t => (t.eng 0).fl == { c := true, v := true } && (t.eng 0).g.get 0 1 == 0x7FFFFFFF
      | _ => false) = true := by decide +kernel
/-- R138, R149: the SHIFT RX word of the chapter's SENT example. -/
theorem test_fields :
    (let m : MicroWord := 0x28000000000000046000000006500301F
     parityOk m && nxtOf m == 0 && nFieldsOf m == { last := true } && aopOf m == 0 && aFieldsOf m == { imm := 70 } && reservedOf m == 0 &&
      xopOf m == 0x19 && xFieldsOf m == { xd := 4, ximm := true, xarg := 0x101F, imm := 70 }) = true := by decide +kernel
/-- The chapter's SENT example: the intervals of its frame, and the 32 bits that SHIFT RX finds. -/
theorem test_sent :
    (match execShiftRxFrame 70 (.intervals [137088, 29376, 46512, 36720, 53856, 31824, 41616, 58752, 41616])
        (run0.setChan 70 { shift := { w0 := 0x2001, w1 := 0x08000960 } }) with
      | .next t => (t.unit 70).buf.foldl (fun v b => 2 * v + bit b) 0 == 0x073A15C5 && (t.unit 70).buf.length == 32 &&
          (t.unit 70).tick == some (56 * 2448)
      | _ => false) = true := by decide +kernel
/-- R307: the CRC of the ASCII bytes "123456789" is 0xDF. -/
theorem test_crc8 : crc8 [0x31, 0x32, 0x33, 0x34, 0x35, 0x36, 0x37, 0x38, 0x39] = 0xDF := by decide +kernel
/-- R68, the example: one hour of DORMANT at a SLOWRATIO of 1,600,000,040 with a 50 ppm crystal. -/
theorem test_catchup :
    (let t := catchUp 117964800 (dorm0.setReg pageTB Off.tb_SLOWRATIO 1600000040)
     t.tb == 2880000072000 && t.reg pageTB Off.tb_RESYNCERR == 144024419) = true := by decide +kernel
/-- A command in front of the queue runs, and an idle step is one clock. -/
theorem test_steps :
    (match step { live0 with pending := [.tbNowLoRead .pcie, .idcode], tb := 0x500000007 } with
      | .next t => t.host.rdPcie == 7 && t.reg pageHOSTIF Off.hostif_TBLATP == 5 && t.pending == [.idcode]
      | _ => false) = true ∧
    (match step State.reset with | .next t => t.tb == 1 | _ => false) = true := by decide +kernel
/-- The table gives no bits to a row, so no word spells a command. -/
theorem test_words : decodeTableWord 8 0x41 = none ∧ State.reset.withFetchWord 8 0x41 = State.reset := by decide +kernel


end Sys2Proof.Tests
end

section
/-! PROOF. The step of a period counter that does not run is no identity: it looks at the trips of PWM modules (R247). -/

open Sys2Proof Sys2Proof.Machine Sys2Proof.Claims

namespace Sys2Proof.Machine

/-- A blanking that no event has changed is not noted (R247). -/
theorem keepBlanks_self (s : State) : keepBlanks s s = s :=
  List.foldl_fixed' (fun m => by simp) (List.range 10)

theorem counterStep_of_not_counting {c : Nat} {s : State} (h : s.counting c = false) : counterStep c s = s := by
  simp [counterStep, h]

/-- Of the step of a counter that does not run there remains the look at the trips of the modules that take their blanking from the
channel: such a module has none, and its trips act (R247). -/
theorem periodCounterStep_of_not_counting {c : Nat} {s : State} (h : s.counting c = false) :
    periodCounterStep c s =
      (List.range 10).foldl (fun s m => if s.fld (pagePWM m) Off.pwm_BLKCFG 0 9 = 256 + c then cutCheck m s else s) s := by
  simp [periodCounterStep, counterStep_of_not_counting h, keepBlanks_self, h]

theorem gives_periodCounterStep_iff {c : Fin 160} {s t : State} : Gives (.periodCounterStep c) s t ↔ periodCounterStep c s = t := by
  rw [Gives, show exec (.periodCounterStep c) s = .next (periodCounterStep c s) from rfl, Host.Outcome.next.injEq]

/-! ### A module whose trip acts unblanked, beside a counter that does not run -/

/-- RUN, and PWM module 0 ACTIVE with its blanking on pin channel 0, whose counter does not run (CNTEN = 0). Trip 0 is enabled, asserted
and selected by pair 0, which is not cut yet. -/
def idleCounterTrip : State :=
  State.reset.setFld pageSYS Off.sys_MODE 0 3 mRUN
    |>.setPage (pagePWM 0) { st := stACTIVE }
    |>.setReg (pagePWM 0) Off.pwm_BLKCFG 0x100
    |>.setReg (pagePWM 0) (Off.pwm_TRIPSEL 0) 1
    |>.setReg pageTRIP (Off.trip_TRIPCFG 0) 1
    |>.setReg pageTRIP Off.trip_TRIPLVL 1

/-- CUT of pair 0 of module 0. -/
def pairCut (s : State) : Bool := ((s.pwm 0).pairs.getD 0 {}).cut

theorem idleCounterTrip_on : idleCounterTrip.pageOn (chPage 0) = true := by decide +kernel
theorem idleCounterTrip_counting : idleCounterTrip.counting 0 = false := by decide +kernel
theorem idleCounterTrip_uncut : pairCut idleCounterTrip = false := by decide +kernel

/-- The look at the trips of module 0 finds the pair uncut and its trip unblanked, and cuts it (R246). -/
theorem idleCounterTrip_cut : pairCut (periodCounterStep 0 idleCounterTrip) = true := by
  rw [periodCounterStep_of_not_counting idleCounterTrip_counting]
  decide +kernel

end Sys2Proof.Machine

/-- Refutes O34: PERIOD_COUNTER_STEP of a counter that does not run does not always leave the state as it is. It still looks at the trips
of the modules that take their blanking from the channel, and cuts a pair whose trip is asserted: in `idleCounterTrip` that of module 0. -/
theorem not_pinEvents : ¬ Obligations.PinEvents := by
  unfold Obligations.PinEvents
  rintro ⟨hOn, -⟩
  obtain ⟨-, -, -, -, -, hIdle, -⟩ := hOn 0 idleCounterTrip idleCounterTrip_on
  rw [gives_periodCounterStep_iff, Fin.val_zero] at hIdle
  have hCut := idleCounterTrip_cut
  rw [hIdle idleCounterTrip_counting, idleCounterTrip_uncut] at hCut
  exact Bool.false_ne_true hCut

end

section
/-! PROOF. What the A slot and the X slot of an engine leave behind: its own engine, the trailer of a checked pair, and every other
engine (R145, R179). -/

open Sys2Proof Sys2Proof.Machine Sys2Proof.Claims

namespace Sys2Proof.Machine

/-- Which pairs are checked stands in the registers (R179). -/
theorem State.checked_of_regs {s t : State} (h : t.regs = s.regs) (e : Nat) : t.checked e = s.checked e :=
  congrArg (fun r => State.checked { regs := r } e) h

end Sys2Proof.Machine

namespace Sys2Proof.Claims

/-! ### Nothing but the engines changes -/

theorem onlyEngines_iff {s t : State} : OnlyEngines s t ↔ ∃ x, t = { s with engs := x } :=
  ⟨fun h => ⟨t.engs, h⟩, fun ⟨x, h⟩ => by subst h; rfl⟩

theorem onlyEngines_setEng (s : State) (e : Nat) (x : Eng) : OnlyEngines s (s.setEng e x) := s.setEng_eq e x

theorem OnlyEngines.trans {s t u : State} (h : OnlyEngines s t) (h' : OnlyEngines t u) : OnlyEngines s u := by
  obtain ⟨x, rfl⟩ := onlyEngines_iff.mp h
  exact h'

theorem OnlyEngines.regs {s t : State} (h : OnlyEngines s t) : t.regs = s.regs := by rw [h]

/-- Of a state whose outbound messages were set before its engines changed. -/
theorem OnlyEngines.after_msgs {s t u : State} {m : List (Nat × Msg)} (h : OnlyEngines s t)
    (h' : OnlyEngines { t with msgs := m } u) : u = { s with engs := u.engs, msgs := u.msgs } ∧ u.msgs = m := by
  obtain ⟨x, rfl⟩ := onlyEngines_iff.mp h
  obtain ⟨y, rfl⟩ := onlyEngines_iff.mp h'
  exact ⟨rfl, rfl⟩

/-- Of a state of which one cluster was set before its engines changed. -/
theorem OnlyEngines.after_setClu {s t u : State} {c : Nat} {x : Clu} (h : OnlyEngines s t) (h' : OnlyEngines (t.setClu c x) u) :
    u = { s with engs := u.engs, clus := u.clus } ∧ CluIs c x s u := by
  obtain ⟨y, rfl⟩ := onlyEngines_iff.mp h
  obtain ⟨z, rfl⟩ := onlyEngines_iff.mp h'
  exact ⟨rfl, s.clu_setClu_self c x, fun c' hc => (s.clu_setClu c c' x).trans (if_neg hc.symm)⟩

/-! ### The engine that was written -/

/-- Between two states with the same registers engine `e` has become `x`, its trailer has followed, the other engines stand. -/
structure WroteEng (e : Fin 128) (x : Eng) (s t : State) : Prop where
  regs : t.regs = s.regs
  eng : EngineIs e x s t

theorem wroteEng_setEng (e : Fin 128) (s : State) (x : Eng) : WroteEng e x s (s.setEng e x) where
  regs := (onlyEngines_setEng s e x).regs
  eng :=
    { own := s.eng_setEng_self e x
      trail := fun _ ⟨he, heven, hc⟩ => he ▸ State.eng_trailer heven hc
      others := fun _ hne htr => State.eng_setEng_other hne htr }

section
variable {e : Fin 128} {x : Eng} {s t u : State}

theorem WroteEng.of_engs (h : WroteEng e x s t) (hr : u.regs = t.regs) (he : u.engs = t.engs) : WroteEng e x s u := by
  have heng : ∀ i, u.eng i = t.eng i := fun i => by simp only [State.eng, he]
  obtain ⟨hown, htrail, hothers⟩ := h.eng
  exact ⟨hr.trans h.regs, (heng _).trans hown, fun i hi => (heng i).trans (htrail i hi),
    fun i hi hi' => (heng i).trans (hothers i hi hi')⟩

/-- Of two writes of an engine the second stays, and its trailer keeps the bank that it had before both. -/
theorem WroteEng.setEng (h : WroteEng e x s t) (y : Eng) : WroteEng e y s (t.setEng e y) := by
  have hc : t.checked e = s.checked e := State.checked_of_regs h.regs e
  have htr : ∀ i, Trailer t e i ↔ Trailer s e i := fun i => by rw [Trailer, Trailer, hc]
  obtain ⟨hr, hnew⟩ := wroteEng_setEng e t y
  refine ⟨hr.trans h.regs, hnew.own, fun i hi => ?_, fun i hne hi => ?_⟩
  · rw [hnew.trail i ((htr i).mpr hi), h.eng.trail i hi]
  · rw [hnew.others i hne (mt (htr i).mp hi), h.eng.others i hne hi]

theorem WroteEng.modify (h : WroteEng e x s t) (change : Eng → Eng) : WroteEng e (change x) s (t.setEng e (change (t.eng e))) := by
  rw [h.eng.own]; exact h.setEng _

theorem WroteEng.setRegs (h : WroteEng e x s t) (l : List (Nat × Word)) :
    WroteEng e { x with g := l.foldl (fun g p => g.set 0 p.1 p.2) x.g } s (t.setRegs e l) :=
  h.modify fun x => { x with g := l.foldl (fun g p => g.set 0 p.1 p.2) x.g }

theorem WroteEng.setS (h : WroteEng e x s t) (b : Bool) : WroteEng e { x with fl := { x.fl with s := b } } s (t.setS e b) :=
  h.modify fun x => { x with fl := { x.fl with s := b } }

end

/-- Registers of an engine, and S, change nothing but the engines. -/
theorem onlyEngines_setRegs (s : State) (e : Nat) (l : List (Nat × Word)) : OnlyEngines s (s.setRegs e l) := onlyEngines_setEng s e _
theorem onlyEngines_setS (s : State) (e : Nat) (b : Bool) : OnlyEngines s (s.setS e b) := onlyEngines_setEng s e _

end Sys2Proof.Claims
end

section
/-! PROOF. The A slot: what an A operation writes, and the shifts and the rotation (R146 to R148). -/

open Sys2Proof Sys2Proof.Machine Sys2Proof.Claims

namespace Sys2Proof.Machine

/-- What an A operation makes of its engine: the registers, the flags with AFLG = 1, the slot taken (R145, R148). -/
def ARes.engine (r : ARes) (f : AFields) (w : WordSt) (x : Eng) : Eng :=
  { x with
    g := r.wr.foldl (fun g p => g.set 0 p.1 p.2) x.g
    fl := if f.aflg then { r.flags w.fl with s := x.fl.s } else x.fl
    word := some (wordA w) }

/-- An A slot that is taken hands its word to the operation. -/
theorem slot_of_takesA {e : Fin 128} {code : Nat} {f : AFields} {w : WordSt} {s : State} (h : TakesA e code f w s)
    (k : WordSt → State → State) :
    s.slot e false (fun w => w.holdsA code f) k = k (wordA w) (s.setEng e { s.eng e with word := some (wordA w) }) := by
  rw [State.slot_eq (x := false) h.issues h.word h.slot h.holds h.sound]
  simp [wordA]

theorem aOp_of_takesA {e : Fin 128} {code : Nat} {f : AFields} {w : WordSt} {s : State} (h : TakesA e code f w s)
    (op : WordSt → ARes) :
    OnlyEngines s (aOp e code f op s) ∧ EngineIs e ((op (wordA w)).engine f w (s.eng e)) s (aOp e code f op s) := by
  rw [aOp, slot_of_takesA h, ARes.engine]
  have hOnly := (onlyEngines_setEng s e { s.eng e with word := some (wordA w) }).trans (onlyEngines_setRegs _ e (op (wordA w)).wr)
  have hRegs := (wroteEng_setEng e s { s.eng e with word := some (wordA w) }).setRegs (op (wordA w)).wr
  cases f.aflg with
  | false => exact ⟨hOnly, hRegs.eng⟩
  | true =>
    exact ⟨hOnly.trans (onlyEngines_setEng _ e _),
      (hRegs.modify fun x => { x with fl := { (op (wordA w)).flags w.fl with s := x.fl.s } }).eng⟩

/-- An operation that writes its value to g[AD] has `engA` for its engine. -/
theorem ARes.engine_eq_engA {r : ARes} {f : AFields} {w : WordSt} {x : Eng} (hwr : r.wr = [(f.ad.toNat, r.val)]) :
    r.engine f w x = engA x w f r.val (r.c.getD w.fl.c, r.v.getD w.fl.v) := by
  simp only [ARes.engine, hwr, List.foldl_cons, List.foldl_nil, engA, flagsAfter, ARes.flags]

/-- The bit that a shift moves out; C stays with the count 0 (R148). -/
theorem shiftOut_getD (left : Bool) (a : Word) (n : Nat) (c : Bool) :
    (shiftOut left a n).getD c = if n = 0 then c else a.getLsbD (if left then 32 - n else n - 1) := by
  have hbit : ∀ i, bitOf a.toNat i = a.getLsbD i := fun i => by
    rw [bitOf, BitVec.getLsbD, Nat.testBit_eq_decide_div_mod_eq]; rfl
  unfold shiftOut
  by_cases hn : n = 0
  · rw [if_pos hn, if_pos hn]; rfl
  · rw [if_neg hn, if_neg hn]; cases left <;> exact hbit _

/-- A shift by op2[4:0] writes what its word operation gives for that count (R146). -/
theorem writesA_of_aShift {mk : Fin 128 → AFields → Instr} {code : Nat} {left : Bool} {op : Word → Nat → Word}
    {val : Word → Word → Bool → Word → Prop}
    (hexec : ∀ e f s, exec (mk e f) s = .next (aShift e code f left op s))
    (hval : ∀ a b c, val a b c (op a (b.toNat % 32))) :
    WritesA mk code val fun a b fl =>
      (if b.toNat % 32 = 0 then fl.c else a.getLsbD (if left then 32 - b.toNat % 32 else b.toNat % 32 - 1), fl.v) := by
  intro e f w s h
  obtain ⟨hOnly, hEng⟩ := aOp_of_takesA h (fun w =>
    { wr := [(f.ad.toNat, op (op1 w f) ((op2 w f).toNat % 32))], val := op (op1 w f) ((op2 w f).toNat % 32),
      c := shiftOut left (op1 w f) ((op2 w f).toNat % 32) })
  rw [ARes.engine_eq_engA rfl, shiftOut_getD] at hEng
  exact ⟨_, op (srcA w f) ((srcB w f).toNat % 32), hexec e f s, hval _ _ _, hOnly, hEng⟩

/-! ### The values -/

theorem toNat_shl (a : Word) (n : Nat) : (a <<< n).toNat = a.toNat * 2 ^ n % 2 ^ 32 := by
  rw [BitVec.toNat_shiftLeft, Nat.shiftLeft_eq]

theorem toNat_shr (a : Word) (n : Nat) : (a >>> n).toNat = a.toNat / 2 ^ n := by
  rw [BitVec.toNat_ushiftRight, Nat.shiftRight_eq_div_pow]

theorem toInt_sar (a : Word) (n : Nat) : (a.sshiftRight n).toInt = a.toInt / 2 ^ n := by
  rw [BitVec.toInt_sshiftRight, Int.shiftRight_eq_div_pow]; norm_cast

/-- Bit `i` of a rotated word is bit `i + n` of the word, counted round. -/
theorem getLsbD_rorOf {a : Word} {n i : Nat} (hn : n < 32) (hi : i < 32) : (rorOf a n).getLsbD i = a.getLsbD ((i + n) % 32) := by
  unfold rorOf
  by_cases h0 : n = 0
  · rw [if_pos h0, h0, Nat.add_zero, Nat.mod_eq_of_lt hi]
  rw [if_neg h0, BitVec.getLsbD_or, BitVec.getLsbD_ushiftRight, BitVec.getLsbD_shiftLeft]
  by_cases hw : i + n < 32
  · have hlow : i < 32 - n := by omega
    rw [Nat.mod_eq_of_lt hw, Nat.add_comm]; simp [hlow]
  · have hhigh : ¬ i < 32 - n := by omega
    have hround : (i + n) % 32 = i - (32 - n) := by omega
    have hout : a.getLsbD (n + i) = false := BitVec.getLsbD_of_ge a _ (by omega)
    simp [hhigh, hround, hout, hi]

end Sys2Proof.Machine

/-- Settles O4: each shift is an `aShift`; its value is a fact about words, its C the bit of `shiftOut`. -/
theorem aluShifts : Obligations.AluShifts := by
  have hcount : ∀ b : Word, b.toNat % 32 < 32 := fun b => Nat.mod_lt _ (by decide)
  refine ⟨?shl, ?shr, ?sar, ?ror⟩
  case shl => exact writesA_of_aShift (left := true) (fun _ _ _ => rfl) fun a _ _ => toNat_shl a _
  case shr => exact writesA_of_aShift (left := false) (fun _ _ _ => rfl) fun a _ _ => toNat_shr a _
  case sar => exact writesA_of_aShift (left := false) (fun _ _ _ => rfl) fun a _ _ => toInt_sar a _
  case ror => exact writesA_of_aShift (left := false) (fun _ _ _ => rfl) fun _ b _ _ hi => getLsbD_rorOf (hcount b) hi

end

section
/-! PROOF. The queues of an engine: MSGSEND, MSGRECV and ECRD (R153, R154, R175, R176). -/

open Sys2Proof Sys2Proof.Machine Sys2Proof.Claims

namespace Sys2Proof.Machine

/-- The state in which the X slot of the word that engine `e` issues has been taken, and has done nothing yet. -/
def takenX (e : Fin 128) (w : WordSt) (s : State) : State := s.setEng e { s.eng e with word := some (wordX w) }

/-- An X slot that is taken hands its word to the operation. -/
theorem slot_of_takesX {e : Fin 128} {code : Nat} {f : XFields} {w : WordSt} {s : State} (h : TakesX e code f w s)
    (k : WordSt → State → State) : s.slot e true (fun w => w.holdsX code f) k = k (wordX w) (takenX e w s) := by
  rw [State.slot_eq (x := true) h.issues h.word h.slot h.holds h.sound]
  simp [takenX, wordX]

/-- Without a fault of the hardware the checkers let a request go on. -/
theorem hwCheck_none (e : Nat) (reads : Option (Bool × Nat)) (k : State → State) (s : State) : hwCheck e .none reads k s = k s := by
  simp only [hwCheck]

section
variable (e : Fin 128) (w : WordSt) (s : State)

theorem takenX_eq : takenX e w s = { s with engs := (takenX e w s).engs } := s.setEng_eq e _

theorem onlyEngines_takenX : OnlyEngines s (takenX e w s) := takenX_eq e w s

theorem wroteEng_takenX : WroteEng e { s.eng e with word := some (wordX w) } s (takenX e w s) := wroteEng_setEng e s _

@[simp] theorem takenX_msgs : (takenX e w s).msgs = s.msgs := (congrArg State.msgs (takenX_eq e w s) :)
@[simp] theorem takenX_clu (c : Nat) : (takenX e w s).clu c = s.clu c := (congrArg (State.clu · c) (takenX_eq e w s) :)
@[simp] theorem takenX_role (c : Nat) : (takenX e w s).role c = s.role c := (congrArg (State.role · c) (takenX_eq e w s) :)
@[simp] theorem takenX_epoch (r : Nat) : (takenX e w s).epoch r = s.epoch r := (congrArg (State.epoch · r) (takenX_eq e w s) :)
@[simp] theorem takenX_devnum : (takenX e w s).devnum = s.devnum := (congrArg State.devnum (takenX_eq e w s) :)

/-- The taken slot has set S and nothing else. -/
theorem takenX_setS (b : Bool) :
    OnlyEngines s ((takenX e w s).setS e b) ∧ EngineIs e (engX (s.eng e) w [] [] b) s ((takenX e w s).setS e b) :=
  ⟨(onlyEngines_takenX e w s).trans (onlyEngines_setS _ e b), ((wroteEng_takenX e w s).setS b).eng⟩

end

/-- A state with its answer: registers of an engine, and S. -/
def answer (e : Fin 128) (regs : List Nat) (vals : List Word) (b : Bool) (s : State) : State := (s.setRegs e (regs.zip vals)).setS e b

theorem onlyEngines_answer (e : Fin 128) (regs : List Nat) (vals : List Word) (b : Bool) (s : State) :
    OnlyEngines s (answer e regs vals b s) := (onlyEngines_setRegs s e _).trans (onlyEngines_setS _ e b)

/-- The answer of a taken slot, given in a state `t` that differs from it in neither registers nor engines. -/
theorem engineIs_answer {e : Fin 128} {w : WordSt} {s t : State} (regs : List Nat) (vals : List Word) (b : Bool)
    (hr : t.regs = (takenX e w s).regs := by rfl) (he : t.engs = (takenX e w s).engs := by rfl) :
    EngineIs e (engX (s.eng e) w regs vals b) s (answer e regs vals b t) :=
  ((((wroteEng_takenX e w s).of_engs hr he).setRegs _).setS b).eng

/-! ### MSGSEND -/

/-- The code with which MSGSEND answers: the outbound buffer of the cluster full or not (R153, R175, R176). -/
def sendCode (addr : Word) (full : Bool) : Nat :=
  firstErr [(eRESERVED, fieldOf addr 14 18 != 0), (eVALUE, fieldOf addr 0 8 == 0), (eOVERFLOW, full)]

/-- The order of the refusals (R14). -/
theorem firstErr_send : ∀ reserved value overflow : Bool,
    firstErr [(eRESERVED, reserved), (eVALUE, value), (eOVERFLOW, overflow)] =
      if reserved then 0x06 else if value then 0x01 else if overflow then 0x0C else 0 := by decide

theorem sendCode_eq (addr : Word) (full : Bool) : sendCode addr full =
    if addr.toNat / 2 ^ 14 ≠ 0 then 0x06 else if addr.toNat % 256 = 0 then 0x01 else if full then 0x0C else 0 := by
  have hdst : fieldOf addr 14 18 = addr.toNat / 2 ^ 14 := Nat.mod_eq_of_lt (by have := addr.isLt; omega)
  have hbyte : fieldOf addr 0 8 = addr.toNat % 256 := by simp [fieldOf, bitsOf]
  simp only [sendCode, firstErr_send, hdst, hbyte, bne_iff_ne, beq_iff_eq]

/-- The outbound buffer of a cluster is full (R176). -/
def outFull (c : Nat) (s : State) : Bool := decide (8 ≤ (s.msgs.filter (·.1 == c)).length)

/-- A message that the cluster of engine `e` sends, with its sender word (R175). -/
def outMsg (e : Fin 128) (addr lo hi : Word) (s : State) : Msg :=
  let r := s.role (e.val / 8)
  { addr := addr, sender := BitVec.ofNat 32 (s.epoch r + r * 2 ^ 8 + s.devnum * 2 ^ 12), lo := lo, hi := hi }

theorem sendMsg_accepted {e : Fin 128} {addr : Word} {s : State} (h : sendCode addr (outFull (e.val / 8) s) = 0) (xd : Nat) (lo hi : Word) :
    sendMsg e xd addr lo hi s = answer e [xd] [0] false { s with msgs := s.msgs ++ [(e.val / 8, outMsg e addr lo hi s)] } := by
  unfold sendCode outFull at h
  simp [sendMsg, h, answer, outMsg, eOK]

theorem sendMsg_refused {e : Fin 128} {addr : Word} {s : State} (h : sendCode addr (outFull (e.val / 8) s) ≠ 0) (xd : Nat) (lo hi : Word) :
    sendMsg e xd addr lo hi s = answer e [xd] [codeWord (sendCode addr (outFull (e.val / 8) s))] true s := by
  unfold sendCode outFull at h
  simp [sendMsg, h, bne_iff_ne.mpr h, answer, codeWord, sendCode, outFull, eOK]

section
variable {e : Fin 128} {f : XFields} {w : WordSt} {s : State}

theorem gives_msgsend (h : TakesX e 0x14 f w s) :
    Gives (.msgsend e f .none) s
      (sendMsg e f.xd.toNat (regX w f.xs1.toNat) (regX w f.xs2.toNat) (regX w (f.xs2.toNat + 1)) (takenX e w s)) := by
  change execMsgsend e f .none s = _
  rw [execMsgsend, slot_of_takesX h, hwCheck_none]
  rfl

theorem gives_msgsend_accepted (h : TakesX e 0x14 f w s) (hcode : sendCode (regX w f.xs1.toNat) (outFull (e.val / 8) s) = 0) :
    ∃ t, Gives (.msgsend e f .none) s t ∧ t = { s with engs := t.engs, msgs := t.msgs } ∧
      t.msgs = s.msgs ++
        [(e.val / 8, outMsg e (regX w f.xs1.toNat) (regX w f.xs2.toNat) (regX w (f.xs2.toNat + 1)) s)] ∧
      EngineIs e (engX (s.eng e) w [f.xd.toNat] [0] false) s t := by
  have hgives := gives_msgsend h
  rw [sendMsg_accepted (by simpa [outFull] using hcode)] at hgives
  obtain ⟨hframe, hmsgs⟩ := (onlyEngines_takenX e w s).after_msgs (onlyEngines_answer e [f.xd.toNat] [0] false _)
  exact ⟨_, hgives, hframe, by rw [hmsgs]; simp [outMsg], engineIs_answer _ _ _⟩

theorem gives_msgsend_refused (h : TakesX e 0x14 f w s) (hcode : sendCode (regX w f.xs1.toNat) (outFull (e.val / 8) s) ≠ 0) :
    ∃ t, Gives (.msgsend e f .none) s t ∧ OnlyEngines s t ∧
      EngineIs e (engX (s.eng e) w [f.xd.toNat] [codeWord (sendCode (regX w f.xs1.toNat) (outFull (e.val / 8) s))] true) s t := by
  have hfull : outFull (e.val / 8) (takenX e w s) = outFull (e.val / 8) s := by simp [outFull]
  have hgives := gives_msgsend h
  rw [sendMsg_refused (by rwa [hfull]), hfull] at hgives
  exact ⟨_, hgives, (onlyEngines_takenX e w s).trans (onlyEngines_answer e _ _ _ _), engineIs_answer _ _ _⟩

/-! ### MSGRECV and ECRD -/

/-- The head of a queue has been popped into the quad at XD: `x` is the cluster without it (R154). -/
theorem answer_after_setClu (x : Clu) (vals : List Word) :
    let t := answer e (quad f) vals false ((takenX e w s).setClu (e.val / 8) x)
    t = { s with engs := t.engs, clus := t.clus } ∧ CluIs (e.val / 8) x s t ∧ EngineIs e (engX (s.eng e) w (quad f) vals false) s t := by
  obtain ⟨hframe, hclu⟩ := (onlyEngines_takenX e w s).after_setClu (onlyEngines_answer e (quad f) vals false _)
  exact ⟨hframe, hclu, engineIs_answer _ _ _⟩

theorem gives_msgrecv_cons (h : TakesX e 0x15 f w s) {m : Msg} {q : List Msg} (hq : (s.clu (e.val / 8)).msgq = m :: q) :
    Gives (.msgrecv e f .none) s
      (answer e (quad f) [m.lo, m.hi, m.sender, 0] false ((takenX e w s).setClu (e.val / 8) { s.clu (e.val / 8) with msgq := q })) := by
  change execMsgrecv e f .none s = _
  rw [execMsgrecv, slot_of_takesX h, hwCheck_none]
  simp only [takenX_clu, hq]
  rfl

theorem gives_msgrecv_nil (h : TakesX e 0x15 f w s) (hq : (s.clu (e.val / 8)).msgq = []) :
    Gives (.msgrecv e f .none) s ((takenX e w s).setS e true) := by
  change execMsgrecv e f .none s = _
  rw [execMsgrecv, slot_of_takesX h, hwCheck_none]
  simp only [takenX_clu, hq]

theorem gives_ecrd_cons (h : TakesX e 0x16 f w s) {r : List Word} {q : List (List Word)} (hq : (s.clu (e.val / 8)).ecq = r :: q) :
    Gives (.ecrd e f .none) s
      (answer e (quad f) r false ((takenX e w s).setClu (e.val / 8) { s.clu (e.val / 8) with ecq := q })) := by
  change execEcrd e f .none s = _
  rw [execEcrd, slot_of_takesX h, hwCheck_none]
  simp only [takenX_clu, hq]
  rfl

theorem gives_ecrd_nil (h : TakesX e 0x16 f w s) (hq : (s.clu (e.val / 8)).ecq = []) :
    Gives (.ecrd e f .none) s ((takenX e w s).setS e true) := by
  change execEcrd e f .none s = _
  rw [execEcrd, slot_of_takesX h, hwCheck_none]
  simp only [takenX_clu, hq]

end

end Sys2Proof.Machine

/-- Settles O9: MSGSEND by its code, 0 or not; MSGRECV and ECRD by their queue, empty or not. -/
theorem engineQueues : Obligations.EngineQueues := by
  intro e f w s
  dsimp only
  refine ⟨fun h => ⟨?accepted, ?refused⟩, fun h => ⟨?popMsg, ?noMsg⟩, fun h => ⟨?popEvent, ?noEvent⟩⟩
  case accepted =>
    intro hdst hbyte hfree
    have hroom : outFull (e.val / 8) s = false := decide_eq_false (Nat.not_le.mpr hfree)
    exact gives_msgsend_accepted h (by rw [sendCode_eq, if_neg (not_not.mpr hdst), if_neg hbyte, hroom]; rfl)
  case refused =>
    intro hwhy
    have hcode : sendCode (regX w f.xs1.toNat) (outFull (e.val / 8) s) =
        if (regX w f.xs1.toNat).toNat / 2 ^ 14 ≠ 0 then 0x06 else if (regX w f.xs1.toNat).toNat % 256 = 0 then 0x01 else 0x0C := by
      rw [sendCode_eq]
      rcases hwhy with hdst | hbyte | hfull
      · rw [if_pos hdst, if_pos hdst]
      · rw [if_pos hbyte, if_pos hbyte]
      · rw [show outFull (e.val / 8) s = true from decide_eq_true (Nat.not_lt.mp hfull), if_pos (rfl : true = true)]
    have hrefused := gives_msgsend_refused h (by rw [hcode]; split_ifs <;> decide)
    rwa [hcode] at hrefused
  case popMsg => exact fun m q hq => ⟨_, gives_msgrecv_cons h hq, answer_after_setClu _ _⟩
  case noMsg => exact fun hq => ⟨_, gives_msgrecv_nil h hq, takenX_setS e w s true⟩
  case popEvent => exact fun r q hq => ⟨_, gives_ecrd_cons h hq, answer_after_setClu _ _⟩
  case noEvent => exact fun hq => ⟨_, gives_ecrd_nil h hq, takenX_setS e w s true⟩

end
